-- ==== Sys2Proof/Word.lean ====
section
/-!
DEFINITION. The words the OMH-24S is described in: bytes on its three connections, and the numbers that name nodes, bikes,
cards, serials and station times (00_scope.md, section 6). A number the manual only counts, compares or looks up is a Nat;
a byte on a connection is a bit vector.
-/
namespace Sys2Proof

/-- One byte on a connection (R184). -/
abbrev Byte := BitVec 8

/-- A node number, 1..4095 (00_scope.md, Identities); 0 stands for broadcast or absence where a rule says so. -/
abbrev Node := Nat

/-- A bike number, 1..16,777,215. -/
abbrev Bike := Nat

/-- A card number, 1..4,294,967,295. -/
abbrev Card := Nat

/-- A serial of a notice, hire, fault or hold, 0..65535 wrapping; of a claim or take request, 0..255 wrapping. -/
abbrev Serial := Nat

/-- Station time: whole seconds since 2000-01-01 00:00:00 (R1). -/
abbrev Time := Nat

/-- A moment on the part's own timebase, in milliseconds; it has nothing to do with station time (00_scope.md, Durations). -/
abbrev Millis := Nat

/-- An amount of money in cents. -/
abbrev Cents := Nat

end Sys2Proof
end

