-- ==== Sys2Proof/Syntax.lean ====
section
/-!
DEFINITION. The commands of the OMH-24S: one constructor of `Instr` for each row of spec/opcode_table.json, with the operands
the row's event carries. Field values are the raw numbers a connection delivers; the rule of the command says which of them are
in range.
-/
namespace Sys2Proof

/-- A date as a card record or a query carries it (R41, R186). -/
structure Date where
  year : Nat
  month : Nat
  day : Nat
  deriving DecidableEq, Repr

/-- A calendar time as SET TIME carries it (R7). -/
structure CalendarTime where
  year : Nat
  month : Nat
  day : Nat
  hour : Nat
  minute : Nat
  second : Nat
  deriving DecidableEq, Repr

/-- The analogue inputs as they stand when a command is taken that may begin a start: the battery sense input in 10 mV units
(R178) and the on-chip temperature sensor in whole degrees Celsius (R4). -/
structure Sense where
  battery : Nat
  temperature : Int
  deriving DecidableEq, Repr

/-- What the end of a POWER hold brings: for how many milliseconds the core supply stayed below the brown-out level after it last
fell (R181), and the analogue inputs. -/
structure HoldEnd where
  below : Nat
  sense : Sense
  deriving DecidableEq, Repr

/-- The nine terms of a band (R93). -/
structure BandTerms where
  /-- U, unlock fee -/
  unlock : Cents
  /-- F, free minutes -/
  free : Nat
  /-- G, grace minutes -/
  grace : Nat
  /-- L, block length in minutes -/
  block : Nat
  /-- P, price of a started block -/
  price : Cents
  /-- C, ride cap -/
  cap : Cents
  /-- H, late threshold in minutes -/
  lateAfter : Nat
  /-- Q, late fee per started hour -/
  lateFee : Cents
  /-- Kf, lost-bike fee -/
  lostFee : Cents
  deriving DecidableEq, Repr

/-- The four terms of a class as LOAD CLASS carries them (R94, R186); `waived` is the flag byte. -/
structure ClassFields where
  percent : Nat
  dayCap : Cents
  hireLimit : Nat
  waived : Nat
  deriving DecidableEq, Repr

/-- A window entry as LOAD WINDOW carries it (R13, R186). -/
structure WindowFields where
  presence : Nat
  band : Nat
  weekdays : Nat
  firstMonth : Nat
  lastMonth : Nat
  startMinute : Nat
  endMinute : Nat
  deriving DecidableEq, Repr

/-- The content of a post's CARD answer (R188): card number, class code and valid-until date. -/
structure CardAnswer where
  card : Card
  classCode : Nat
  validUntil : Date
  deriving DecidableEq, Repr

/-- The commands: one constructor per row of spec/opcode_table.json, in the table's order. -/
inductive Instr where
  /-- A send transfer whose request frame is complete, as every byte the host shifts in from the select to its release: the first,
  those of the frame, and those shifted in while the receipt comes out (R163, R186). -/
  | sendTransfer (first : Byte) (frame : List Byte) (clocked : List Byte)
  /-- A send transfer cut off by the release of select before its check byte: every byte shifted in until then (R163, R186). -/
  | sendTransferCut (shiftedIn : List Byte)
  /-- A fetch transfer: every byte the host shifts in while it clocks the reply (R162, R186); the inputs, should it begin a
  restart (R167). -/
  | fetchTransfer (shiftedIn : List Byte) (sense : Sense)
  | restartAnswerTimeout (sense : Sense)
  | getStatus
  | getCause
  | setAttentionMask (enables : Nat)
  | takeRecords (n : Nat)
  | setSettlement (trigger : Nat) (timeout : Nat)
  | setTime (t : CalendarTime)
  | getTime
  | loadBand (band : Nat) (terms : BandTerms)
  | loadClass (cls : Nat) (fields : ClassFields)
  | loadWindow (index : Nat) (fields : WindowFields)
  | readTariff
  | holdCard (card : Card) (reason : Nat)
  | liftHold (card : Card) (reason : Nat)
  | queryCard (card : Card) (validUntil : Option Date)
  | queryBike (bike : Bike)
  | reportFault (subject : Nat) (number : Nat) (kind : Nat) (severity : Nat)
  | clearFault (subject : Nat) (number : Nat)
  | readFaults
  | dockDisable (dock : Nat)
  | dockEnable (dock : Nat)
  | readDocks
  | readNeighbours
  | claim (station : Node) (action : Nat) (amount : Nat) (lifetime : Nat)
  | openSession (station : Node)
  | take (dock : Nat)
  | announceDelivery (bikes : List Bike)
  | closeSession
  | unload (bike : Bike)
  | readLoad
  | readClaims
  | readOptions
  /-- The 16 field bytes of an option block (R189). -/
  | writeOptions (block : List Byte)
  | restart
  | optionAreaRead
  | optionWriteStart
  /-- The option write ends; whether its read-back agrees (R177). -/
  | optionWriteEnd (agrees : Bool)
  | brownOut
  | powerHoldEnd (hold : HoldEnd)
  | resetAssert
  | resetRelease (sense : Sense)
  | replayComplete
  | listenTimerExpiry
  /-- The battery sense input at the reading, in 10 mV units (R178). -/
  | batteryReading (input : Nat)
  | rawTick
  | gradeRise
  /-- The temperature sensor at the sample (R4). -/
  | temperatureSample (reading : Int)
  | minuteBoundary
  | carrierRise
  /-- The carrier falls; whether at least one byte arrived since it rose (R26). -/
  | carrierFall (gotByte : Bool)
  /-- A frame completes: header, body and check bytes (R26, R185). -/
  | frameCompleted (frame : List Byte)
  | frameProcessed
  | slotEnd
  | transmissionEnd
  /-- The relay delay of the entry with this notice identity ends (R32). -/
  | relayDelayExpiry (origin : Node) (serial : Serial)
  | ownQuietExpiry
  | neighbourQuietExpiry (node : Node)
  | neighbourAgeExpiry (node : Node)
  | beaconTimerExpiry
  | poll
  | pollAnswerTimeout
  /-- A HEARTBEAT answer: the dock and the bike, 0 for none (R41, R188). -/
  | heartbeat (dock : Nat) (bike : Bike)
  | card (dock : Nat) (answer : CardAnswer)
  | bikeOut (dock : Nat)
  | bikeIn (dock : Nat) (bike : Bike)
  | button (dock : Nat)
  | lockFail (dock : Nat)
  | releaseTimeout (dock : Nat)
  | returnWindowExpiry (dock : Nat)
  | lampTransientEnd (dock : Nat)
  | postSilence (dock : Nat)
  /-- The repeat timer of the pending-close entry of this bike and end time (R81). -/
  | pendingCloseRepeat (bike : Bike) (endTime : Time)
  /-- The lifetime of the listed claim of this van and serial (R127). -/
  | claimExpiry (van : Node) (serial : Serial)
  | sessionIdleTimeout
  | claimAnswerTimeout (serial : Serial)
  | vanClaimExpiry (serial : Serial)
  | sessionAnswerTimeout
  | vanSessionIdleTimeout
  | takeAnswerTimeout (request : Serial)
  | takeCompletionTimeout (request : Serial)
  | settlementIdleTimeout
  | journalWriteStart
  /-- A slot write ends; whether its read-back agrees (R156). -/
  | journalWriteEnd (agrees : Bool)
  /-- The body length of a frame in assembly has arrived (R26). -/
  | bodyLengthArrived (length : Nat)
  | backupDomainPowerLost
  deriving DecidableEq, Repr

end Sys2Proof
end

