-- ==== Sys2Proof/Decode.lean ====
section
/-!
DEFINITION. The command a table word spells, and what the bytes of a kiosk transfer spell (R162, R163, R186). The table gives no
row of this block any bits: its commands are transfers, notices, post answers and events, and their byte layouts stand in
Machine/Codec.lean and Machine/Operands.lean.
-/
namespace Sys2Proof

/-- No row of spec/opcode_table.json has bits, so no word spells a command. -/
def decodeTableWord (nbits w : Nat) : Option Instr :=
  let _ := (nbits, w)
  none

/-- What the bytes of one transfer on the kiosk link are (R162, R163, R186). -/
inductive Transfer where
  /-- A send whose check byte has arrived, with the number of bytes the host clocks after it. -/
  | send (code : Byte) (body : List Byte) (check : Byte) (after : Nat)
  /-- A send released before its check byte. -/
  | cut
  /-- A fetch, with the number of bytes the host clocks after the first. -/
  | fetch (clocked : Nat)
  /-- The first byte names neither a send nor a fetch, or there is none. -/
  | ignored
  deriving DecidableEq, Repr

/-- The bytes of a send after its first: a code, a body length, the body and a check byte, then those clocked for the receipt
(R163, R186). -/
def sendOf : List Byte → Transfer
  | code :: length :: rest =>
    match rest.drop length.toNat with
    | check :: after => .send code (rest.take length.toNat) check after.length
    | [] => .cut
  | _ => .cut

/-- The bytes of a transfer sorted by the first: 0xC1 names a send and 0xC2 a fetch (R186). -/
def transferOf : List Byte → Transfer
  | [] => .ignored
  | first :: rest => if first = 0xC1 then sendOf rest else if first = 0xC2 then .fetch rest.length else .ignored

end Sys2Proof
end

