-- ==== Sys2Proof/Config.lean ====
section
/-!
DEFINITION. What the manual leaves open: the free values. None of them has a body, so no proof can see which value one takes,
and a statement about them holds whatever they are. Draws and failed writes are applied to the model's own counter `draws` of
State, so that every use is a fresh value; the others are functions of what the value depends on.
-/
namespace Sys2Proof.Config

/-- The n-th random draw of the part (R22, R23, R31, R38). A use reduces it into the range the rule gives; the manual says only
that draws are uniform over their range and independent. Free value; assumption log 4. -/
opaque draw : Nat → Nat

/-- What a slot of the store holds after the n-th write whose two read-backs both disagreed (R156). A use reduces it modulo 3:
the old content, the new content, or content that fails its check. Free value; assumption log 5. -/
opaque failedSlot : Nat → Nat

/-- Byte i of the option area after the n-th option write whose two read-backs both disagreed (R177). Free value;
assumption log 5. -/
opaque failedAreaByte : Nat → Nat → Byte

/-- How a number of seconds remaining in an answer is rounded, for a remainder of this many milliseconds; a use reduces it modulo
2, to down or up (R186). Free value; assumption log 9. -/
opaque remainderRounding : Nat → Nat

/-- The quarantined flag of a TAKE DONE that tells of a lapsed release, by request serial and dock (R131, R185). Free value;
assumption log 19. -/
opaque lapsedTakeFlag : Serial → Nat → Bool

/-- What the byte of a window field that is absent holds in a READ TARIFF answer, by its place in the entry (R186). Free value;
assumption log 13. -/
opaque absentFieldByte : Nat → Byte

end Sys2Proof.Config
end

