-- ==== Sys2Proof/Machine/State.lean ====
section
/-!
DEFINITION. The state of the OMH-24S: one structure per block of 00_scope.md section 3, each holding the state that block owns,
plus the queue of waiting commands, the part's own timebase and the model's counter of free values. Plain data throughout.
`State.reset` is the part after the POWER start of a blank part whose backup domain has lost its validity mark.
-/
namespace Sys2Proof.Machine

/-- An identity made of a node and a serial: of a notice, a hire, a fault or a hold (00_scope.md, Identities). -/
structure Ident where
  node : Node
  serial : Serial
  deriving DecidableEq, Repr

/-! ### Named values, in the order of their defining lists (R184) -/

inductive Role where
  | station | van
  deriving DecidableEq, Repr

inductive SupplyState where
  | normal | saving | critical
  deriving DecidableEq, Repr

inductive StartState where
  | options | replay | listen | run
  deriving DecidableEq, Repr

inductive ResetCause where
  | power | line | restart
  deriving DecidableEq, Repr

inductive CardClass where
  | casual | member | dayPass | staff
  deriving DecidableEq, Repr

inductive HoldReason where
  | lost | payment | overdue | scheme
  deriving DecidableEq, Repr

inductive FaultKind where
  | brake | tyre | chain | light | lock | dockJam | postSilent | forcedRemoval | reported | supply
  deriving DecidableEq, Repr

/-- What a fault is about: a bike, a dock of this station, or the station (R109). -/
inductive Subject where
  | bike (b : Bike)
  | dock (d : Nat)
  | station
  deriving DecidableEq, Repr

inductive FaultState where
  | opened | collected | cleared
  deriving DecidableEq, Repr

inductive HireOutcome where
  | charged | falseStart | overdue | late
  deriving DecidableEq, Repr

inductive ClaimAction where
  | deliver | collect
  deriving DecidableEq, Repr

inductive ClaimOutcome where
  | granted | trimmed | refusedNoNeed | refusedFull | refusedNotAvailable
  deriving DecidableEq, Repr

inductive SessionOutcome where
  | opened | busy | notAvailable | noSession
  deriving DecidableEq, Repr

/-- GRANTED, then the refusals in the order of R130. -/
inductive TakeOutcome where
  | granted | refusedNoSession | refusedBusy | refusedEmpty | refusedSessionFull | refusedAllowance
  deriving DecidableEq, Repr

inductive Status where
  | ok | unknownRequest | badLength | badCheck | badValue | wrongRole | notReady | full | notFound | busy | vanFull
  deriving DecidableEq, Repr

/-- The attention causes by priority (R168). -/
inductive Cause where
  | supply | journal | settlement | fault | van | time | link
  deriving DecidableEq, Repr

inductive DockState where
  | empty | holding | releasing | faulted | offline | disabled
  deriving DecidableEq, Repr

inductive Lamp where
  | off | green | red | amber | greenFlash
  deriving DecidableEq, Repr

inductive LockCommand where
  | unlock | lock
  deriving DecidableEq, Repr

inductive PollKind where
  | status | event
  deriving DecidableEq, Repr

/-- The refusal reasons of the checkout decision in the order of its checks (R70). -/
inductive Refused where
  | notReady | closed | cardInvalid | cardHeld | hireLimit | dockBusy | bikeQuarantined | capacity
  deriving DecidableEq, Repr

inductive Purpose where
  | member | van
  deriving DecidableEq, Repr

inductive SlewDirection where
  | insert | withhold
  deriving DecidableEq, Repr

inductive VanClaimState where
  | waiting | granted | trimmed | refused | lapsed | expired | used
  deriving DecidableEq, Repr

/-- The states of a van session other than NONE, which is the absence of a session record (R138). -/
inductive VanSessionState where
  | opening | opened | closing
  deriving DecidableEq, Repr

inductive VanTakeState where
  | asked | granted
  deriving DecidableEq, Repr

/-- The take answer outcomes, then LAPSED, then NO_ANSWER (R184). -/
inductive LastTake where
  | answered (outcome : TakeOutcome)
  | lapsed
  | noAnswer
  deriving DecidableEq, Repr

/-- The transmit classes of R18, highest first. -/
inductive TxClass where
  | urgent | normal | background
  deriving DecidableEq, Repr

/-! ### Notices (R18) -/

/-- The body of a BEACON (R39). -/
structure BeaconBody where
  role : Role
  time : Time
  grade : Nat
  supply : SupplyState
  closed : Bool
  available : Nat
  quarantined : Nat
  working : Nat
  need : Int
  quiet : Bool
  deriving DecidableEq, Repr

/-- What a session summary tells the van (R133, R185). -/
structure SummaryBody where
  allowanceAtOpen : Nat
  allowanceUsed : Nat
  collected : List Bike
  delivered : List Bike
  undelivered : List Bike
  deriving DecidableEq, Repr

/-- The bodies of the twenty kinds of notice (R18, R185). In CARD LIFT an absent reason means ALL. -/
inductive NoticeBody where
  | hireOpen (hire : Ident) (card : Card) (cls : CardClass) (bike : Bike) (start : Time) (dock : Nat)
  | hireClose (bike : Bike) (endTime : Time) (endGrade : Nat) (hire : Option Ident)
  | hireSettled (hire : Ident) (bike : Bike) (endNode : Node) (endTime : Time) (outcome : HireOutcome)
  | cardHold (hold : Ident) (card : Card) (reason : HoldReason)
  | cardLift (card : Card) (reason : Option HoldReason)
  | fault (id : Ident) (bike : Bike) (kind : FaultKind) (severity : Nat)
  | faultClear (bike : Bike) (clearedAt : Time)
  | beacon (b : BeaconBody)
  | quiet (seconds : Nat)
  | resume
  | claim (serial : Serial) (action : ClaimAction) (amount : Nat) (lifetime : Nat)
  | claimAnswer (serial : Serial) (outcome : ClaimOutcome) (granted : Nat)
  | sessionOpen
  | sessionAnswer (outcome : SessionOutcome) (allowance : Nat)
  | takeRequest (request : Serial) (dock : Nat)
  | takeAnswer (request : Serial) (outcome : TakeOutcome)
  | takeDone (request : Serial) (dock : Nat) (bike : Option Bike) (quarantined : Bool)
  | deliveryNote (bikes : List Bike)
  | sessionClose
  | sessionSummary (summary : SummaryBody)
  deriving DecidableEq, Repr

/-- A notice: its header fields and its body (R18). The body fixes the kind, the scope and the body length. -/
structure Notice where
  origin : Node
  serial : Serial
  sender : Node
  hops : Nat
  dest : Node
  body : NoticeBody
  deriving DecidableEq, Repr

/-! ### The station clock (Chapter 1) -/

/-- What the backup domain holds (Section 1.2). -/
structure BackupDomain where
  time : Time
  /-- drift accumulator, in units of 0.1 µs (R5) -/
  drift : Int
  /-- a drift withhold is pending for the next raw tick (R5) -/
  withhold : Bool
  /-- latched temperature sample (R4) -/
  temperature : Int
  trimA : Int
  trimK : Nat
  trimT0 : Nat
  grade : Nat
  /-- raw ticks since the grade timer last started; 0 while it is stopped at grade 7 (R6) -/
  gradeTimer : Nat
  clockLost : Bool
  /-- the validity mark (R3) -/
  valid : Bool
  /-- the domain has power, from the main supply or from its cell; raw ticks run while it has (R3) -/
  powered : Bool
  deriving DecidableEq, Repr

/-- The slew in progress (R10). -/
structure Slew where
  direction : SlewDirection
  count : Nat
  deriving DecidableEq, Repr

/-- The most recent step (R16); an absent source is KIOSK. -/
structure StepRecord where
  source : Option Node
  amount : Int
  deriving DecidableEq, Repr

/-- One entry of the window table (R13). -/
structure Window where
  enabled : Bool
  /-- the kind is CLOSED -/
  closes : Bool
  /-- present for kind BAND only -/
  band : Option Nat
  /-- absent means every weekday; weekday n is bit n - 1 -/
  weekdays : Option (BitVec 7)
  /-- absent means every month; first and last month -/
  months : Option (Nat × Nat)
  startMinute : Nat
  endMinute : Nat
  deriving DecidableEq, Repr

structure Clk where
  dom : BackupDomain
  slew : Option Slew
  /-- a slew correction is due, or carried, at the next raw tick (R2, R10) -/
  slewDue : Bool
  lastStep : Option StepRecord
  windows : Vector Window 8
  /-- index n is bit n (R15, R186) -/
  matchSet : BitVec 8
  band : Nat
  closed : Bool
  /-- raw ticks since the last temperature sample (R4) -/
  sampleTicks : Nat
  /-- minute boundaries passed by raw ticks and not yet taken, oldest first (R2, R12) -/
  boundaries : List Time
  deriving DecidableEq, Repr

/-! ### The street link controller (Chapter 2) -/

inductive AccessPhase where
  | sense | count
  deriving DecidableEq, Repr

/-- The access of the notice that is to go next (R22, R23). -/
structure Access where
  phase : AccessPhase
  /-- backoff exponent k -/
  exponent : Nat
  busyFinds : Nat
  /-- held backoff count -/
  held : Option Nat
  /-- consecutive idle slots in SENSE -/
  idleSlots : Nat
  deriving DecidableEq, Repr

/-- An entry of the transmit queue (R20). -/
structure QueueEntry where
  notice : Notice
  cls : TxClass
  /-- a copy this node relays, not a notice it originated (R33) -/
  relayed : Bool
  /-- present while the notice is in access -/
  access : Option Access
  deriving DecidableEq, Repr

/-- An entry of the relay queue (R31). -/
structure RelayEntry where
  notice : Notice
  start : Millis
  delay : Nat
  hearings : Nat
  deriving DecidableEq, Repr

/-- The beacon part of a neighbour entry (R37). -/
structure BeaconPart where
  time : Time
  grade : Nat
  supply : SupplyState
  closed : Bool
  available : Nat
  quarantined : Nat
  working : Nat
  need : Int
  deriving DecidableEq, Repr

/-- An entry of the neighbour table (R37). -/
structure Neighbour where
  node : Node
  role : Option Role
  lastHeard : Time
  ageStart : Millis
  beacon : Option BeaconPart
  quietUntil : Option Millis
  deriving DecidableEq, Repr

/-- The frame being assembled from the receive byte stream (R26). -/
inductive Assembly where
  /-- no carrier rise has been seen that begins a frame -/
  | idle
  /-- the carrier has risen and no frame has completed; the body length, once it has arrived -/
  | receiving (length : Option Nat)
  /-- the frame is complete or ended, and bytes are ignored until the carrier falls -/
  | ended
  deriving DecidableEq, Repr

structure Slc where
  queue : List QueueEntry
  /-- the notice whose frame is in flight (R25) -/
  transmitting : Option Notice
  relays : List RelayEntry
  seen : List Ident
  rxBuffer : List (List Byte)
  assembly : Assembly
  /-- the carrier-detect line -/
  carrier : Bool
  /-- when the slot being measured began (Section 2.3) -/
  slotStart : Millis
  errCheck : Nat
  errLength : Nat
  errOverrun : Nat
  errTruncated : Nat
  newErrors : Nat
  txDrops : Nat
  relayDrops : Nat
  neighbourDrops : Nat
  neighbours : List Neighbour
  /-- when the QUIET of this node that is in force began to be transmitted (R34) -/
  ownQuiet : Option Millis
  /-- when the beacon timer expires (R38) -/
  beaconTimer : Option Millis
  originSerial : Serial
  /-- the radio channel set at LISTEN (R40); absent before (assumption log 49) -/
  channel : Option Nat
  /-- the bytes of the last frame passed to the transceiver (R25) -/
  radioOut : List Byte
  deriving DecidableEq, Repr

/-! ### The dock unit (Chapter 3) -/

/-- A card record whose fields are in range (Section 4.1). -/
structure CardRecord where
  card : Card
  cls : CardClass
  validUntil : Date
  deriving DecidableEq, Repr

structure Release where
  purpose : Purpose
  card : Option CardRecord
  start : Millis
  deriving DecidableEq, Repr

structure ReturnWindow where
  start : Millis
  card : Option Card
  taken : Bool
  deriving DecidableEq, Repr

structure DockedBike where
  bike : Bike
  time : Time
  deriving DecidableEq, Repr

structure Transient where
  lamp : Lamp
  start : Millis
  deriving DecidableEq, Repr

/-- An entry of the dock table (R43), with its post's pending command slots (R41). -/
structure Dock where
  state : DockState
  bike : Option DockedBike
  faultMark : Bool
  release : Option Release
  untaken : Nat
  lastRefusal : Option Refused
  window : Option ReturnWindow
  silenceStart : Millis
  /-- the silence timer has reached 30 s since the post's last valid answer (R42, R57) -/
  silent : Bool
  /-- the post's first heartbeat since start has been taken (R59) -/
  heard : Bool
  lastHeard : Time
  /-- the host has disabled the dock and not enabled it since (R44, R56) -/
  hostDisabled : Bool
  resting : Option Lamp
  transient : Option Transient
  lampSlot : Option Lamp
  lockSlot : Option LockCommand
  /-- the pattern last placed, absent when none is known (R64) -/
  lampLast : Option Lamp
  deriving DecidableEq, Repr

structure QuarantinePart where
  id : Ident
  severity : Nat
  deriving DecidableEq, Repr

structure MissingPart where
  owner : Node
  since : Time
  deriving DecidableEq, Repr

/-- An entry of the bike status list (R60). -/
structure BikeStatus where
  bike : Bike
  quarantine : Option QuarantinePart
  missing : Option MissingPart
  deriving DecidableEq, Repr

structure Du where
  docks : Vector Dock 24
  bikes : List BikeStatus
  statusDrops : Nat
  /-- the dock whose post is polled next (R41) -/
  pollNext : Nat
  /-- the poll that waits for its answer (R41, R188) -/
  polled : Option (Nat × PollKind)
  /-- the bytes of the last poll sent (R188) -/
  busOut : List Byte
  deriving DecidableEq, Repr

/-! ### The hire unit (Chapter 4) and the fare unit (Chapter 5) -/

/-- An entry of the class table (R94). -/
structure ClassTerms where
  percent : Nat
  dayCap : Cents
  hireLimit : Nat
  waived : Bool
  deriving DecidableEq, Repr

/-- The class terms a hire copies when it opens (R72, R94). -/
structure ClassSnapshot where
  percent : Nat
  dayCap : Cents
  waived : Bool
  deriving DecidableEq, Repr

/-- An entry of the hold list (R66), with the slot it takes in the store (R154). -/
structure Hold where
  card : Card
  reason : HoldReason
  id : Ident
  placed : Time
  slot : Nat
  deriving DecidableEq, Repr

/-- What a store slot keeps of an owned record: every field of R72 but the durable flag (R154). -/
structure OwnedFields where
  serial : Serial
  card : Card
  cls : CardClass
  bike : Bike
  dock : Nat
  start : Time
  band : Nat
  terms : BandTerms
  classTerms : ClassSnapshot
  stepped : Bool
  deriving DecidableEq, Repr

/-- A record of the owned hire table (R72), with the slot it takes in the store. -/
structure OwnedHire where
  fields : OwnedFields
  durable : Bool
  slot : Nat
  deriving DecidableEq, Repr

/-- An entry of the heard hire table (R75). -/
structure HeardHire where
  hire : Ident
  card : Card
  bike : Bike
  start : Time
  heard : Time
  deriving DecidableEq, Repr

/-- An entry of the pending-close list (R81). -/
structure PendingClose where
  bike : Bike
  endTime : Time
  endGrade : Nat
  hire : Option Ident
  repeats : Nat
  timerStart : Millis
  deriving DecidableEq, Repr

/-- An entry of the settled list (R82). -/
structure SettledHire where
  hire : Ident
  bike : Bike
  card : Card
  start : Time
  terms : BandTerms
  classTerms : ClassSnapshot
  ending : Option (Node × Time)
  outcome : HireOutcome
  deriving DecidableEq, Repr

structure Hu where
  holds : List Hold
  holdsDisplaced : Nat
  owned : List OwnedHire
  heard : List HeardHire
  pendingClose : List PendingClose
  settled : List SettledHire
  hireSerial : Serial
  holdSerial : Serial
  deriving DecidableEq, Repr

/-- An entry of the day spend table (R98). -/
structure DaySpend where
  card : Card
  spent : Cents
  deriving DecidableEq, Repr

structure Fu where
  bands : Vector BandTerms 4
  classes : Vector ClassTerms 4
  spend : List DaySpend
  deriving DecidableEq, Repr

/-- The eight flags of a fare (R106). -/
structure FareFlags where
  skew : Bool
  clamped : Bool
  falseStart : Bool
  rideCap : Bool
  dayCap : Bool
  late : Bool
  clockUnsure : Bool
  stepped : Bool
  deriving DecidableEq, Repr

/-! ### The fault unit (Chapter 6) -/

/-- An entry of the fault log (R109). -/
structure FaultEntry where
  id : Ident
  subject : Subject
  kind : FaultKind
  severity : Nat
  count : Nat
  cards : List Card
  first : Time
  last : Time
  state : FaultState
  deriving DecidableEq, Repr

structure Flt where
  log : List FaultEntry
  drops : Nat
  serial : Serial
  deriving DecidableEq, Repr

/-! ### The balance unit (Chapter 7) -/

/-- A bin of the activity ring (R125). -/
structure Bin where
  outs : Nat
  ins : Nat
  deriving DecidableEq, Repr

/-- A claim listed at a station (R127, R128). -/
structure StationClaim where
  id : Ident
  action : ClaimAction
  granted : Nat
  outcome : ClaimOutcome
  lifetime : Nat
  start : Millis
  deriving DecidableEq, Repr

structure TakeInFlight where
  dock : Nat
  request : Serial
  counted : Bool
  deriving DecidableEq, Repr

structure RecentTake where
  request : Serial
  dock : Nat
  answer : TakeOutcome
  deriving DecidableEq, Repr

/-- The service session a station holds (R129). -/
structure Session where
  van : Node
  closing : Bool
  allowanceAtOpen : Nat
  allowance : Nat
  collected : List Bike
  expected : List Bike
  delivered : List Bike
  inFlight : List TakeInFlight
  recent : List RecentTake
  idleStart : Millis
  deriving DecidableEq, Repr

/-- The summary a station keeps of its last session (R133). -/
structure KeptSummary where
  van : Node
  body : SummaryBody
  deriving DecidableEq, Repr

/-- A claim of the van's own claim list (R135 to R137). -/
structure VanClaim where
  serial : Serial
  station : Node
  action : ClaimAction
  amount : Nat
  lifetime : Nat
  granted : Nat
  state : VanClaimState
  refusal : Option ClaimOutcome
  tries : Nat
  lifeStart : Millis
  answerStart : Millis
  deriving DecidableEq, Repr

structure VanTake where
  request : Serial
  dock : Nat
  state : VanTakeState
  tries : Nat
  timerStart : Millis
  deriving DecidableEq, Repr

/-- The van session in a state other than NONE (R138). -/
structure VanSession where
  state : VanSessionState
  station : Node
  tries : Nat
  answerStart : Millis
  allowance : Nat
  inFlight : List VanTake
  nextRequest : Serial
  idleStart : Millis
  deriving DecidableEq, Repr

/-- A bike on the load list (R144). -/
structure LoadedBike where
  bike : Bike
  station : Node
  quarantined : Bool
  time : Time
  deriving DecidableEq, Repr

structure Bu where
  /-- the activity ring, newest bin first -/
  ring : List Bin
  rawNeed : Int
  wantDeliver : Nat
  wantCollect : Nat
  published : Int
  claims : List StationClaim
  session : Option Session
  summary : Option KeptSummary
  ownClaims : List VanClaim
  claimSerial : Serial
  vanSession : Option VanSession
  load : List LoadedBike
  lastTake : Option LastTake
  vanSummary : Option SummaryBody
  deriving DecidableEq, Repr

/-! ### The settlement queue and the journal (Chapter 8) -/

/-- The kinds of settlement record with their fields (R148). In CLOCK an absent source is KIOSK. -/
inductive RecordBody where
  | charge (hire : Ident) (card : Card) (cls : CardClass) (bike : Bike) (start endTime : Time) (endNode : Node)
      (minutes band : Nat) (amount : Cents) (flags : FareFlags)
  | overdue (hire : Ident) (card : Card) (bike : Bike) (start : Time) (amount : Cents)
  | lateReturn (hire : Ident) (card : Card) (bike : Bike) (endNode : Node) (endTime : Time) (amount : Cents)
  | returned (bike : Bike) (dock : Nat) (time : Time) (hire : Option Ident)
  | unsettledReturn (bike : Bike) (endTime : Time)
  | fault (id : Ident) (subject : Subject) (kind : FaultKind) (severity : Nat)
  | session (van station : Node) (collected delivered undelivered : List Bike)
  | clock (oldTime newTime : Time) (source : Option Node)
  deriving DecidableEq, Repr

/-- What a store slot keeps of a money record (R154). -/
structure RecordFields where
  seq : Serial
  time : Time
  body : RecordBody
  deriving DecidableEq, Repr

/-- A record of the settlement queue (R148), with what R151 and R153 follow of its writes. -/
structure SettlementRecord where
  fields : RecordFields
  waitStart : Millis
  /-- the slot of the money records region; absent for a note -/
  slot : Option Nat
  /-- the write of the money slot has completed (R151) -/
  slotDone : Bool
  /-- the slot of the ended hire in the owned hires region -/
  ownedSlot : Nat
  /-- a write of that slot that began after the removal is in progress or complete (R151) -/
  ownedBegun : Bool
  /-- the first such write has completed (R151) -/
  ownedDone : Bool
  deriving DecidableEq, Repr

/-- A money slot whose record the host has taken and whose removal is not yet written (R153). -/
structure LeavingSlot where
  slot : Nat
  begun : Bool
  deriving DecidableEq, Repr

structure Sq where
  queue : List SettlementRecord
  seq : Serial
  trigger : Nat
  idle : Nat
  drops : Nat
  leaving : List LeavingSlot
  deriving DecidableEq, Repr

/-- The slots of the store by region (R154). -/
inductive Slot where
  | band (i : Nat)
  | cls (i : Nat)
  | window (i : Nat)
  | hold (i : Nat)
  | owned (i : Nat)
  | money (i : Nat)
  | counters
  deriving DecidableEq, Repr

/-- The serial counters the store keeps in one slot (R154). -/
structure Counters where
  origin : Serial
  hire : Serial
  record : Serial
  fault : Serial
  hold : Serial
  claim : Serial
  deriving DecidableEq, Repr

/-- What a hold list slot keeps (R154). -/
structure HoldFields where
  card : Card
  reason : HoldReason
  id : Ident
  placed : Time
  deriving DecidableEq, Repr

/-- The content of a slot that has been written. A slot never written is blank and is not listed. -/
inductive SlotContent where
  | band (terms : BandTerms)
  | cls (terms : ClassTerms)
  | window (w : Window)
  | hold (entry : Option HoldFields)
  | owned (entry : Option OwnedFields)
  | money (entry : Option RecordFields)
  | counters (c : Counters)
  /-- the slot's validity check disagrees (R154) -/
  | invalid
  deriving DecidableEq, Repr

/-- The journal regions of the store: the written slots, by the numbers of `Slot.index`, strictly rising. -/
abbrev Store := List (Nat × SlotContent)

/-- The journal write in progress (R156). -/
structure WriteInProgress where
  slot : Slot
  content : SlotContent
  /-- this is the second attempt -/
  again : Bool
  /-- the slot has been marked since the write began, at its first attempt (assumption log 25) -/
  touched : Bool
  deriving DecidableEq, Repr

/-- The option request that waits for the store, or the option write in progress (R177). -/
inductive OptionWork where
  | none
  | readWaiting
  | writeWaiting (block : List Byte)
  | writing (block : List Byte) (again : Bool)
  deriving DecidableEq, Repr

structure Jnl where
  writeList : List Slot
  wip : Option WriteInProgress
  /-- store health DEGRADED (R156, R158) -/
  degraded : Bool
  store : Store
  /-- the 18 bytes of the option area (R189) -/
  optionArea : List Byte
  optionWork : OptionWork
  deriving DecidableEq, Repr

/-! ### The kiosk link (Chapter 9) -/

/-- A request that has passed the tests of R164, with the field values its body carries (R186). -/
inductive Request where
  | getStatus
  | getCause
  | setAttentionMask (enables : Nat)
  | takeRecords (n : Nat)
  | setSettlement (trigger : Nat) (timeout : Nat)
  | setTime (t : CalendarTime)
  | getTime
  | loadBand (band : Nat) (terms : BandTerms)
  | loadClass (cls : Nat) (fields : ClassFields)
  | loadWindow (index : Nat) (fields : WindowFields)
  | readTariff
  | holdCard (card : Card) (reason : Nat)
  | liftHold (card : Card) (reason : Nat)
  | queryCard (card : Card) (validUntil : Option Date)
  | queryBike (bike : Bike)
  | reportFault (subject : Nat) (number : Nat) (kind : Nat) (severity : Nat)
  | clearFault (subject : Nat) (number : Nat)
  | readFaults
  | dockDisable (dock : Nat)
  | dockEnable (dock : Nat)
  | readDocks
  | readNeighbours
  | claim (station : Node) (action : Nat) (amount : Nat) (lifetime : Nat)
  | openSession (station : Node)
  | take (dock : Nat)
  | announceDelivery (bikes : List Bike)
  | closeSession
  | unload (bike : Bike)
  | readLoad
  | readClaims
  | readOptions
  | writeOptions (block : List Byte)
  | restart
  deriving DecidableEq, Repr

inductive LinkState where
  | idle | working | restarting
  deriving DecidableEq, Repr

/-- An answer: its status and its body (R165). -/
structure Answer where
  status : Status
  body : List Byte
  deriving DecidableEq, Repr

/-- One flag for each of the seven causes: the attention mask and the pending set (R168, R169). -/
structure CauseSet where
  supply : Bool
  journal : Bool
  settlement : Bool
  fault : Bool
  van : Bool
  time : Bool
  link : Bool
  deriving DecidableEq, Repr

structure Kl where
  link : LinkState
  inProgress : Option Request
  held : Option Answer
  /-- a fetch transfer has delivered the held answer whole (R163) -/
  delivered : Bool
  mask : CauseSet
  raised : CauseSet
  /-- the cause the last GET CAUSE latched; absent is NONE (R171) -/
  latched : Option Cause
  unfetched : Nat
  /-- when the RESTART answer was formed (R167) -/
  restartStart : Millis
  /-- the bytes the part shifted out in the last transfer, one for each byte the host shifted in (R162, R163, R186) -/
  shiftedOut : List Byte
  deriving DecidableEq, Repr

/-! ### Supply and start-up control (Chapter 10) -/

inductive SavingThreshold where
  | v1160 | v1180 | v1200 | v1220
  deriving DecidableEq, Repr

inductive CriticalThreshold where
  | v1100 | v1120 | v1140
  deriving DecidableEq, Repr

/-- The running option block image (R175). -/
structure Image where
  node : Node
  role : Role
  dockCount : Nat
  targetFill : Nat
  channel : Nat
  hopLimit : Nat
  maxHire : Nat
  saving : SavingThreshold
  critical : CriticalThreshold
  trimA : Int
  trimK : Nat
  trimT0 : Nat
  deriving DecidableEq, Repr

structure Sup where
  image : Image
  adjusted : Bool
  /-- the set of adjusted fields, one bit per field of R189 in table order (R176, R186) -/
  adjustedFields : BitVec 16
  battery : Nat
  supply : SupplyState
  down : Nat
  up : Nat
  /-- when the last battery reading was taken (R178) -/
  readingAt : Millis
  start : StartState
  /-- when the listen timer started (R182) -/
  listenStart : Millis
  cause : ResetCause
  /-- the part is held in a POWER reset: the moment the core supply last fell below the brown-out level. How long it stays below
  before the 100 ms of the hold count, POWER_HOLD_END brings (R181; assumption log 55) -/
  powerHold : Option Millis
  /-- the reset input is asserted (R181) -/
  lineHold : Bool
  /-- the brown-out detector has acted since the last start (R181) -/
  brownOut : Bool
  deriving DecidableEq, Repr

/-- The state of the part. `pending` is the queue of waiting commands, first in, first out; `timebase` is the part's own
timebase; `draws` counts the uses of free values (the model's own field, assumption log 4). -/
structure State where
  clk : Clk
  slc : Slc
  du : Du
  hu : Hu
  fu : Fu
  flt : Flt
  bu : Bu
  sq : Sq
  jnl : Jnl
  kl : Kl
  sup : Sup
  timebase : Millis
  draws : Nat
  pending : List Instr
  deriving DecidableEq, Repr

/-- The block stops on no command: every event the manual describes has an effect there, so there is no fault. -/
inductive Fault where
  deriving DecidableEq, Repr

/-- Reasons a command is refused by the model. -/
inductive Refusal where
  /-- Raised by an arm of `exec` whose row has no meaning yet: none has it. Safe: nothing is claimed of the row. -/
  | notModelled (mnemonic : String)
  deriving DecidableEq, Repr

/-! ### Updates of one block each -/

def State.setClk (s : State) (b : Clk) : State := { s with clk := b }
def State.setSlc (s : State) (b : Slc) : State := { s with slc := b }
def State.setDu (s : State) (b : Du) : State := { s with du := b }
def State.setHu (s : State) (b : Hu) : State := { s with hu := b }
def State.setFu (s : State) (b : Fu) : State := { s with fu := b }
def State.setFlt (s : State) (b : Flt) : State := { s with flt := b }
def State.setBu (s : State) (b : Bu) : State := { s with bu := b }
def State.setSq (s : State) (b : Sq) : State := { s with sq := b }
def State.setJnl (s : State) (b : Jnl) : State := { s with jnl := b }
def State.setKl (s : State) (b : Kl) : State := { s with kl := b }
def State.setSup (s : State) (b : Sup) : State := { s with sup := b }
def State.setTimebase (s : State) (t : Millis) : State := { s with timebase := t }
def State.setDraws (s : State) (n : Nat) : State := { s with draws := n }
def State.setPending (s : State) (q : List Instr) : State := { s with pending := q }

/-! ### Values after reset -/

/-- The image when the stored block fails its check (R175). -/
def Image.default : Image :=
  { node := 0, role := .station, dockCount := 24, targetFill := 12, channel := 0, hopLimit := 3, maxHire := 1440,
    saving := .v1200, critical := .v1120, trimA := 0, trimK := 0, trimT0 := 25 }

/-- The backup domain started afresh (R3). -/
def BackupDomain.afresh : BackupDomain :=
  { time := 0, drift := 0, withhold := false, temperature := 0, trimA := 0, trimK := 0, trimT0 := 0, grade := 7,
    gradeTimer := 0, clockLost := true, valid := true, powered := true }

/-- A disabled window entry (R13). DESIGN CHOICE for the fields of a never loaded entry, assumption log 7. -/
def Window.blank : Window :=
  { enabled := false, closes := false, band := some 0, weekdays := none, months := none, startMinute := 0, endMinute := 0 }

def CauseSet.none : CauseSet :=
  { supply := false, journal := false, settlement := false, fault := false, van := false, time := false, link := false }

def CauseSet.all : CauseSet :=
  { supply := true, journal := true, settlement := true, fault := true, van := true, time := true, link := true }

/-- The default entry of bands 0 to 3 (R97). -/
def BandTerms.default : BandTerms :=
  { unlock := 0, free := 0, grace := 0, block := 15, price := 0, cap := 0, lateAfter := 1440, lateFee := 0, lostFee := 0 }

/-- The default entries of the class table (R97). -/
def ClassTerms.default : CardClass → ClassTerms
  | .staff => { percent := 0, dayCap := 0, hireLimit := 4, waived := true }
  | _ => { percent := 100, dayCap := 50000, hireLimit := 1, waived := false }

/-- A dock table entry at the start of LISTEN (R59, R65), the silence timer starting at the given moment. The last-heard time of a
post not heard since start is 0: DESIGN CHOICE, assumption log 50. -/
def Dock.initial (t : Millis) : Dock :=
  { state := .offline, bike := none, faultMark := false, release := none, untaken := 0, lastRefusal := none, window := none,
    silenceStart := t, silent := false, heard := false, lastHeard := 0, hostDisabled := false, resting := none,
    transient := none, lampSlot := none, lockSlot := none, lampLast := none }

/-- The clock's volatile state after every reset kind, around a backup domain (R17). -/
def Clk.afterReset (dom : BackupDomain) : Clk :=
  { dom := dom, slew := none, slewDue := false, lastStep := none, windows := Vector.replicate 8 Window.blank, matchSet := 0,
    band := 0, closed := false, sampleTicks := 0, boundaries := [] }

/-- The street link after every reset kind (R40); the carrier line is an input and keeps its level (assumption log 34). The
transceiver has no channel from a start until LISTEN sets one: DESIGN CHOICE, assumption log 49. -/
def Slc.afterReset (carrier : Bool) : Slc :=
  { queue := [], transmitting := none, relays := [], seen := [], rxBuffer := [], assembly := .idle, carrier := carrier,
    slotStart := 0, errCheck := 0, errLength := 0, errOverrun := 0, errTruncated := 0, newErrors := 0, txDrops := 0,
    relayDrops := 0, neighbourDrops := 0, neighbours := [], ownQuiet := none, beaconTimer := none, originSerial := 0,
    channel := none, radioOut := [] }

/-- The dock unit after every reset kind (R65). -/
def Du.afterReset : Du :=
  { docks := Vector.replicate 24 (Dock.initial 0), bikes := [], statusDrops := 0, pollNext := 1, polled := none, busOut := [] }

/-- The hire unit after every reset kind, before REPLAY (R92). -/
def Hu.afterReset : Hu :=
  { holds := [], holdsDisplaced := 0, owned := [], heard := [], pendingClose := [], settled := [], hireSerial := 0,
    holdSerial := 0 }

/-- The fare unit after every reset kind, before REPLAY (R97, R108). -/
def Fu.afterReset : Fu :=
  { bands := Vector.replicate 4 BandTerms.default,
    classes := #v[ClassTerms.default .casual, ClassTerms.default .member, ClassTerms.default .dayPass, ClassTerms.default .staff],
    spend := [] }

/-- The fault unit after every reset kind, before REPLAY (R124). -/
def Flt.afterReset : Flt := { log := [], drops := 0, serial := 0 }

/-- The balance unit after every reset kind, before REPLAY (R146, R147). -/
def Bu.afterReset : Bu :=
  { ring := List.replicate 12 { outs := 0, ins := 0 }, rawNeed := 0, wantDeliver := 0, wantCollect := 0, published := 0,
    claims := [], session := none, summary := none, ownClaims := [], claimSerial := 0, vanSession := none, load := [],
    lastTake := none, vanSummary := none }

/-- The settlement queue after every reset kind, before REPLAY (R161). -/
def Sq.afterReset : Sq := { queue := [], seq := 0, trigger := 1, idle := 30, drops := 0, leaving := [] }

/-- The journal after every reset kind, before REPLAY, around what the store keeps (R161). -/
def Jnl.afterReset (store : Store) (area : List Byte) : Jnl :=
  { writeList := [], wip := none, degraded := false, store := store, optionArea := area, optionWork := .none }

/-- The kiosk link after every reset kind (R174). -/
def Kl.afterReset : Kl :=
  { link := .idle, inProgress := none, held := none, delivered := false, mask := CauseSet.all, raised := CauseSet.none,
    latched := none, unfetched := 0, restartStart := 0, shiftedOut := [] }

/-- The option area of a part that has never been configured: every byte reads 0xFF (R189). -/
def blankOptionArea : List Byte := List.replicate 18 0xFF

/-- The machine right after reset: the POWER start of a blank part whose backup domain has lost its validity mark. The option
block is judged BLANK, so the image takes the defaults of R175 and, its node being 0, the part stays in OPTIONS (R176); the
backup domain has been started afresh and TIME is pending (R3), the trim is copied from the image (R4), and the first battery
reading gave NORMAL (R178; the reading and the sample themselves: DESIGN CHOICE, assumption log 8). -/
def State.reset : State :=
  { clk := Clk.afterReset { BackupDomain.afresh with trimA := 0, trimK := 0, trimT0 := 25 },
    slc := Slc.afterReset false,
    du := Du.afterReset,
    hu := Hu.afterReset,
    fu := Fu.afterReset,
    flt := Flt.afterReset,
    bu := Bu.afterReset,
    sq := Sq.afterReset,
    jnl := Jnl.afterReset [] blankOptionArea,
    kl := { Kl.afterReset with raised := { CauseSet.none with time := true } },
    sup :=
      { image := Image.default, adjusted := true, adjustedFields := 0, battery := 1200, supply := .normal, down := 0, up := 0,
        readingAt := 0, start := .options, listenStart := 0, cause := .power, powerHold := none, lineHold := false,
        brownOut := false },
    timebase := 0,
    draws := 0,
    pending := [] }

end Sys2Proof.Machine
end

