-- ==== Sys2Proof/Machine/Calendar.lean ====
section
/-!
DEFINITION. The calendar view of station time (R1) and the matching of a window table entry against a station time (R14).
-/
namespace Sys2Proof.Machine

/-- The last station time, 2099-12-31 23:59:59 (R1). -/
def lastTime : Time := 3155759999

def isLeapYear (year : Nat) : Bool := year % 4 == 0

def yearLength (year : Nat) : Nat := if isLeapYear year then 366 else 365

/-- The days of a month; 0 for a number that is no month. -/
def monthLength (year month : Nat) : Nat :=
  match month with
  | 2 => if isLeapYear year then 29 else 28
  | 4 | 6 | 9 | 11 => 30
  | 1 | 3 | 5 | 7 | 8 | 10 | 12 => 31
  | _ => 0

/-- Days counted off through years: the year reached and the days left in it (R1). -/
def countYears : Nat → Nat → Nat → Nat × Nat
  | 0, year, days => (year, days)
  | fuel + 1, year, days =>
    if days < yearLength year then (year, days) else countYears fuel (year + 1) (days - yearLength year)

/-- Days counted off through the months of a year: the month reached and the days left in it (R1). -/
def countMonths : Nat → Nat → Nat → Nat → Nat × Nat
  | 0, _, month, days => (month, days)
  | fuel + 1, year, month, days =>
    if days < monthLength year month then (month, days)
    else countMonths fuel year (month + 1) (days - monthLength year month)

/-- The date of a day number, day 0 being 2000-01-01 (R1). -/
def dateOfDay (dayNumber : Nat) : Date :=
  let y := countYears 100 2000 dayNumber
  let m := countMonths 12 y.1 1 y.2
  { year := y.1, month := m.1, day := m.2 + 1 }

def dayNumber (t : Time) : Nat := t / 86400

/-- The date of a station time (R1). -/
def dateOf (t : Time) : Date := dateOfDay (dayNumber t)

/-- The weekday of a station time, 1 for Monday to 7 for Sunday (R1). -/
def weekdayOf (t : Time) : Nat := (dayNumber t + 5) % 7 + 1

/-- The minute-of-day of a station time, 0 to 1439 (R1). -/
def minuteOfDay (t : Time) : Nat := t % 86400 / 60

/-- The calendar view of a station time, less its weekday (R1). -/
def calendarOf (t : Time) : CalendarTime :=
  let d := dateOf t
  { year := d.year, month := d.month, day := d.day, hour := t % 86400 / 3600, minute := t % 3600 / 60, second := t % 60 }

/-- A date from 2000 to 2099 that exists (R7, R188). -/
def dateExists (d : Date) : Bool :=
  decide (2000 ≤ d.year) && decide (d.year ≤ 2099) && decide (1 ≤ d.day) && decide (d.day ≤ monthLength d.year d.month)

/-- A calendar time that exists, with every field in range (R7). -/
def calendarExists (c : CalendarTime) : Bool :=
  dateExists { year := c.year, month := c.month, day := c.day } && decide (c.hour ≤ 23) && decide (c.minute ≤ 59) &&
    decide (c.second ≤ 59)

/-- The days of a year before the first of a month. -/
def daysBeforeMonth (year : Nat) : Nat → Nat
  | 0 => 0
  | month + 1 => daysBeforeMonth year month + monthLength year month

/-- The day number of a date that exists: the inverse of `dateOfDay`. -/
def dayOfDate (d : Date) : Nat :=
  (d.year - 2000) * 365 + (d.year - 2000 + 3) / 4 + daysBeforeMonth d.year d.month + (d.day - 1)

/-- The station seconds of a calendar time (R7). -/
def secondsOf (c : CalendarTime) : Time :=
  dayOfDate { year := c.year, month := c.month, day := c.day } * 86400 + c.hour * 3600 + c.minute * 60 + c.second

/-- A date is before another, comparing year, then month, then day (R70, check 3). -/
def dateBefore (a b : Date) : Bool :=
  decide (a.year < b.year) || (a.year == b.year && (decide (a.month < b.month) ||
    (a.month == b.month && decide (a.day < b.day))))

/-- The minute span of a window entry holds a minute-of-day (R14). -/
def inMinuteSpan (start stop m : Nat) : Bool :=
  if start < stop then decide (start ≤ m) && decide (m < stop)
  else if stop < start then decide (start ≤ m) || decide (m < stop)
  else true

/-- The month range of a window entry holds a month (R14). -/
def inMonthRange (first last m : Nat) : Bool :=
  if first ≤ last then decide (first ≤ m) && decide (m ≤ last) else decide (first ≤ m) || decide (m ≤ last)

/-- The entry matches the station time (R14). -/
def Window.holds (w : Window) (t : Time) : Bool :=
  w.enabled && w.weekdays.all (fun ds => ds.getLsbD (weekdayOf t - 1)) &&
    w.months.all (fun r => inMonthRange r.1 r.2 (dateOf t).month) && inMinuteSpan w.startMinute w.endMinute (minuteOfDay t)

end Sys2Proof.Machine
end

