-- ==== Sys2Proof/Machine/Codec.lean ====
section
/-!
DEFINITION. The byte layouts of Chapter 11: numbers and named values (R184), notices (R185), kiosk frames (R186), settlement
records (R187), dock bus frames (R188) and the option block (R189).
-/
namespace Sys2Proof.Machine

/-! ### Numbers (R184) -/

/-- A number in n bytes, most significant byte first. -/
def beBytes : Nat → Nat → List Byte
  | 0, _ => []
  | n + 1, v => BitVec.ofNat 8 (v / 256 ^ n) :: beBytes n v

/-- The number that bytes hold, most significant byte first. -/
def beValue (bytes : List Byte) : Nat := bytes.foldl (fun acc b => acc * 256 + b.toNat) 0

/-- The number held in `len` bytes from byte `off`. -/
def fieldAt (bytes : List Byte) (off len : Nat) : Nat := beValue ((bytes.drop off).take len)

def u8 (v : Nat) : List Byte := beBytes 1 v
def u16 (v : Nat) : List Byte := beBytes 2 v
def u24 (v : Nat) : List Byte := beBytes 3 v
def u32 (v : Nat) : List Byte := beBytes 4 v

/-- A signed number in n bytes, two's complement. -/
def signedBytes (n : Nat) (v : Int) : List Byte := beBytes n ((v % (256 ^ n : Nat)).toNat)

/-- The signed number that n bytes hold, two's complement. -/
def signedValue (n : Nat) (v : Nat) : Int := if v < 256 ^ n / 2 then (v : Int) else (v : Int) - (256 ^ n : Nat)

def flagByte (b : Bool) : List Byte := if b then [1] else [0]

/-- A flag's byte is 0 or 1 (R184). -/
def flagOf (v : Nat) : Option Bool :=
  match v with
  | 0 => some false
  | 1 => some true
  | _ => none

def identBytes (i : Ident) : List Byte := u16 i.node ++ u16 i.serial

/-! ### Named values, coded by their position in the list that defines them (R184) -/

/-- The position of a named value in its defining list. -/
def codeIn {α : Type} [DecidableEq α] (values : List α) (a : α) : Nat := values.findIdx (fun b => decide (b = a))

def cardClasses : List CardClass := [.casual, .member, .dayPass, .staff]
def holdReasons : List HoldReason := [.lost, .payment, .overdue, .scheme]
def roles : List Role := [.station, .van]
def supplyStates : List SupplyState := [.normal, .saving, .critical]
def faultKinds : List FaultKind :=
  [.brake, .tyre, .chain, .light, .lock, .dockJam, .postSilent, .forcedRemoval, .reported, .supply]
def faultStates : List FaultState := [.opened, .collected, .cleared]
def hireOutcomes : List HireOutcome := [.charged, .falseStart, .overdue, .late]
def claimActions : List ClaimAction := [.deliver, .collect]
def claimOutcomes : List ClaimOutcome := [.granted, .trimmed, .refusedNoNeed, .refusedFull, .refusedNotAvailable]
def sessionOutcomes : List SessionOutcome := [.opened, .busy, .notAvailable, .noSession]
def takeOutcomes : List TakeOutcome :=
  [.granted, .refusedNoSession, .refusedBusy, .refusedEmpty, .refusedSessionFull, .refusedAllowance]
def statuses : List Status :=
  [.ok, .unknownRequest, .badLength, .badCheck, .badValue, .wrongRole, .notReady, .full, .notFound, .busy, .vanFull]
def causes : List Cause := [.supply, .journal, .settlement, .fault, .van, .time, .link]
def startStates : List StartState := [.options, .replay, .listen, .run]
def resetCauses : List ResetCause := [.power, .line, .restart]
def dockStates : List DockState := [.empty, .holding, .releasing, .faulted, .offline, .disabled]
def lamps : List Lamp := [.off, .green, .red, .amber, .greenFlash]
def refusals : List Refused :=
  [.notReady, .closed, .cardInvalid, .cardHeld, .hireLimit, .dockBusy, .bikeQuarantined, .capacity]
def purposes : List Purpose := [.member, .van]
def slewDirections : List SlewDirection := [.insert, .withhold]
def vanClaimStates : List VanClaimState := [.waiting, .granted, .trimmed, .refused, .lapsed, .expired, .used]
def vanSessionStates : List VanSessionState := [.opening, .opened, .closing]
def vanTakeStates : List VanTakeState := [.asked, .granted]

def LastTake.code : LastTake → Nat
  | .answered o => codeIn takeOutcomes o
  | .lapsed => 6
  | .noAnswer => 7

/-- A lamp pattern as the dock bus codes it: 0 for none, then OFF 1 to GREEN_FLASH 5 (R188). -/
def lampCode : Option Lamp → Nat
  | none => 0
  | some p => codeIn lamps p + 1

/-- A lock command as the dock bus codes it: none 0, UNLOCK 1, LOCK 2 (R188). -/
def lockCode : Option LockCommand → Nat
  | none => 0
  | some .unlock => 1
  | some .lock => 2

/-- A fault subject: its code in 1 byte and its bike or dock number in 3, 0 for STATION (R186, R187). -/
def subjectBytes : Subject → List Byte
  | .bike b => u8 0 ++ u24 b
  | .dock d => u8 1 ++ u24 d
  | .station => u8 2 ++ u24 0

/-! ### The notice check (R185) -/

/-- One bit of the cyclic check with polynomial x^16 + x^12 + x^5 + 1. -/
def crcBit (c : BitVec 16) : BitVec 16 := if c.getLsbD 15 then (c <<< 1) ^^^ 0x1021 else c <<< 1

def crcBits : Nat → BitVec 16 → BitVec 16
  | 0, c => c
  | n + 1, c => crcBits n (crcBit c)

/-- One byte of the check, most significant bit first. -/
def crcByte (c : BitVec 16) (b : Byte) : BitVec 16 := crcBits 8 (c ^^^ (BitVec.ofNat 16 (b.toNat * 256)))

/-- The notice check over bytes: it starts from all ones and its final value is not inverted. -/
def noticeCheck (bytes : List Byte) : BitVec 16 := bytes.foldl crcByte 0xFFFF

/-- The two check bytes, most significant byte first. -/
def checkBytes (bytes : List Byte) : List Byte := u16 (noticeCheck bytes).toNat

/-! ### Notices (R18, R185) -/

def NoticeBody.kindCode : NoticeBody → Nat
  | .hireOpen .. => 0
  | .hireClose .. => 1
  | .hireSettled .. => 2
  | .cardHold .. => 3
  | .cardLift .. => 4
  | .fault .. => 5
  | .faultClear .. => 6
  | .beacon .. => 7
  | .quiet .. => 8
  | .resume => 9
  | .claim .. => 10
  | .claimAnswer .. => 11
  | .sessionOpen => 12
  | .sessionAnswer .. => 13
  | .takeRequest .. => 14
  | .takeAnswer .. => 15
  | .takeDone .. => 16
  | .deliveryNote .. => 17
  | .sessionClose => 18
  | .sessionSummary .. => 19

/-- Bikes one after another, 3 bytes each. -/
def bikesBytes (bikes : List Bike) : List Byte := bikes.flatMap u24

/-- The body fields in the order of R185. -/
def NoticeBody.bytes : NoticeBody → List Byte
  | .hireOpen hire card cls bike start dock =>
      identBytes hire ++ u32 card ++ u8 (codeIn cardClasses cls) ++ u24 bike ++ u32 start ++ u8 dock
  | .hireClose bike endTime endGrade hire =>
      u24 bike ++ u32 endTime ++ u8 endGrade ++ identBytes (hire.getD ⟨0, 0⟩)
  | .hireSettled hire bike endNode endTime outcome =>
      identBytes hire ++ u24 bike ++ u16 endNode ++ u32 endTime ++ u8 (codeIn hireOutcomes outcome)
  | .cardHold hold card reason => identBytes hold ++ u32 card ++ u8 (codeIn holdReasons reason)
  | .cardLift card reason => u32 card ++ u8 (reason.elim 4 (codeIn holdReasons))
  | .fault id bike kind severity => identBytes id ++ u24 bike ++ u8 (codeIn faultKinds kind) ++ u8 severity
  | .faultClear bike clearedAt => u24 bike ++ u32 clearedAt
  | .beacon b =>
      u8 (codeIn roles b.role) ++ u32 b.time ++ u8 b.grade ++ u8 (codeIn supplyStates b.supply) ++ flagByte b.closed ++
        u8 b.available ++ u8 b.quarantined ++ u8 b.working ++ signedBytes 1 b.need ++ flagByte b.quiet
  | .quiet seconds => u8 seconds
  | .resume => []
  | .claim serial action amount lifetime => u8 serial ++ u8 (codeIn claimActions action) ++ u8 amount ++ u8 lifetime
  | .claimAnswer serial outcome granted => u8 serial ++ u8 (codeIn claimOutcomes outcome) ++ u8 granted
  | .sessionOpen => []
  | .sessionAnswer outcome allowance => u8 (codeIn sessionOutcomes outcome) ++ u8 allowance
  | .takeRequest request dock => u8 request ++ u8 dock
  | .takeAnswer request outcome => u8 request ++ u8 (codeIn takeOutcomes outcome)
  | .takeDone request dock bike quarantined => u8 request ++ u8 dock ++ u24 (bike.getD 0) ++ flagByte quarantined
  | .deliveryNote bikes => u8 bikes.length ++ bikesBytes bikes
  | .sessionClose => []
  | .sessionSummary m =>
      u8 m.allowanceAtOpen ++ u8 m.allowanceUsed ++ u8 m.collected.length ++ u8 m.delivered.length ++
        u8 m.undelivered.length ++ bikesBytes m.collected ++ bikesBytes m.delivered ++ bikesBytes m.undelivered

/-- The header and the body of a notice as they go on air. -/
def Notice.bytes (n : Notice) : List Byte :=
  u16 n.body.bytes.length ++ u8 n.body.kindCode ++ u16 n.origin ++ u16 n.serial ++ u16 n.sender ++ u8 n.hops ++ u16 n.dest ++
    n.body.bytes

/-- The whole frame: header, body and notice check. -/
def Notice.frame (n : Notice) : List Byte := n.bytes ++ checkBytes n.bytes

/-- The body length a kind requires, given the body it carries (R185); none for an unknown kind. -/
def requiredLength (kind : Nat) (body : List Byte) : Option Nat :=
  match kind with
  | 0 => some 17
  | 1 => some 12
  | 2 => some 14
  | 3 => some 9
  | 4 => some 5
  | 5 => some 9
  | 6 => some 7
  | 7 => some 13
  | 8 => some 1
  | 9 => some 0
  | 10 => some 4
  | 11 => some 3
  | 12 => some 0
  | 13 => some 2
  | 14 => some 2
  | 15 => some 2
  | 16 => some 6
  | 17 => some (1 + 3 * fieldAt body 0 1)
  | 18 => some 0
  | 19 => some (5 + 3 * (fieldAt body 2 1 + fieldAt body 3 1 + fieldAt body 4 1))
  | _ => none

/-- n bikes one after another from byte `off`. -/
def bikesAt (bytes : List Byte) : Nat → Nat → List Bike
  | _, 0 => []
  | off, n + 1 => fieldAt bytes off 3 :: bikesAt bytes (off + 3) n

def identAt (bytes : List Byte) (off : Nat) : Ident := { node := fieldAt bytes off 2, serial := fieldAt bytes (off + 2) 2 }

/-- The value at a byte's code in its defining list (R184). -/
def namedAt {α : Type} (values : List α) (bytes : List Byte) (off : Nat) : Option α := values[fieldAt bytes off 1]?

def nodeInRange (n : Nat) : Bool := decide (1 ≤ n) && decide (n ≤ 4095)
def bikeInRange (b : Nat) : Bool := decide (1 ≤ b) && decide (b ≤ 16777215)
def cardInRange (c : Nat) : Bool := decide (1 ≤ c) && decide (c ≤ 4294967295)
def timeInRange (t : Nat) : Bool := decide (t ≤ lastTime)
def dockInRange (d : Nat) : Bool := decide (1 ≤ d) && decide (d ≤ 24)
def serialInRange (n : Nat) : Bool := decide (n ≤ 65535)
def identInRange (i : Ident) : Bool := nodeInRange i.node && serialInRange i.serial

/-- The fault kinds a FAULT notice may carry (R116). -/
def FaultKind.flooded : FaultKind → Bool
  | .brake | .tyre | .chain | .light | .forcedRemoval | .reported => true
  | .lock | .dockJam | .postSilent | .supply => false

/-- Every field of a body lies within its range (R27, R185). Each field is held to its own range alone: a van's BEACON with counts or a
flag of docks it does not have, and an answer whose amount does not suit its outcome, are in range: DESIGN CHOICE, assumption log 63. -/
def NoticeBody.inRange : NoticeBody → Bool
  | .hireOpen hire card _ bike start dock =>
      identInRange hire && cardInRange card && bikeInRange bike && timeInRange start && dockInRange dock
  | .hireClose bike endTime endGrade hire =>
      bikeInRange bike && timeInRange endTime && decide (endGrade ≤ 7) && hire.all identInRange
  | .hireSettled hire bike endNode endTime outcome =>
      identInRange hire && bikeInRange bike && nodeInRange endNode && timeInRange endTime && decide (outcome ≠ .overdue)
  | .cardHold hold card _ => identInRange hold && cardInRange card
  | .cardLift card _ => cardInRange card
  | .fault id bike kind severity =>
      identInRange id && bikeInRange bike && kind.flooded && decide (2 ≤ severity) && decide (severity ≤ 3)
  | .faultClear bike clearedAt => bikeInRange bike && timeInRange clearedAt
  | .beacon b =>
      timeInRange b.time && decide (b.grade ≤ 7) &&
        decide (b.available ≤ match b.role with | .station => 24 | .van => 30) && decide (b.quarantined ≤ 24) &&
        decide (b.working ≤ 24) && decide (-32 ≤ b.need) && decide (b.need ≤ 32)
  | .quiet seconds => decide (1 ≤ seconds) && decide (seconds ≤ 60)
  | .resume => true
  | .claim serial _ amount lifetime =>
      decide (serial ≤ 255) && decide (1 ≤ amount) && decide (amount ≤ 24) && decide (5 ≤ lifetime) && decide (lifetime ≤ 90)
  | .claimAnswer serial _ granted => decide (serial ≤ 255) && decide (granted ≤ 24)
  | .sessionOpen => true
  | .sessionAnswer _ allowance => decide (allowance ≤ 96)
  | .takeRequest request dock => decide (request ≤ 255) && dockInRange dock
  | .takeAnswer request _ => decide (request ≤ 255)
  | .takeDone request dock bike _ => decide (request ≤ 255) && dockInRange dock && bike.all bikeInRange
  | .deliveryNote bikes => decide (1 ≤ bikes.length) && decide (bikes.length ≤ 8) && bikes.all bikeInRange
  | .sessionClose => true
  | .sessionSummary m =>
      decide (m.allowanceAtOpen ≤ 96) && decide (m.allowanceUsed ≤ 96) && decide (m.collected.length ≤ 24) &&
        decide (m.delivered.length + m.undelivered.length ≤ 24) && m.collected.all bikeInRange &&
        m.delivered.all bikeInRange && m.undelivered.all bikeInRange

/-- The fields a body's bytes hold; none for an unknown kind, a code beyond its list or a flag other than 0 or 1. -/
def bodyFields (kind : Nat) (b : List Byte) : Option NoticeBody :=
  match kind with
  | 0 => (namedAt cardClasses b 8).map fun cls =>
      .hireOpen (identAt b 0) (fieldAt b 4 4) cls (fieldAt b 9 3) (fieldAt b 12 4) (fieldAt b 16 1)
  | 1 =>
      let hire := identAt b 8
      if hire.node = 0 then
        if hire.serial = 0 then some (.hireClose (fieldAt b 0 3) (fieldAt b 3 4) (fieldAt b 7 1) none) else none
      else some (.hireClose (fieldAt b 0 3) (fieldAt b 3 4) (fieldAt b 7 1) (some hire))
  | 2 => (namedAt hireOutcomes b 13).map fun o =>
      .hireSettled (identAt b 0) (fieldAt b 4 3) (fieldAt b 7 2) (fieldAt b 9 4) o
  | 3 => (namedAt holdReasons b 8).map fun r => .cardHold (identAt b 0) (fieldAt b 4 4) r
  | 4 => if fieldAt b 4 1 = 4 then some (.cardLift (fieldAt b 0 4) none)
      else (namedAt holdReasons b 4).map fun r => .cardLift (fieldAt b 0 4) (some r)
  | 5 => (namedAt faultKinds b 7).map fun k => .fault (identAt b 0) (fieldAt b 4 3) k (fieldAt b 8 1)
  | 6 => some (.faultClear (fieldAt b 0 3) (fieldAt b 3 4))
  | 7 => do
      let role ← namedAt roles b 0
      let supply ← namedAt supplyStates b 6
      let closed ← flagOf (fieldAt b 7 1)
      let quiet ← flagOf (fieldAt b 12 1)
      some (.beacon { role := role, time := fieldAt b 1 4, grade := fieldAt b 5 1, supply := supply, closed := closed,
                      available := fieldAt b 8 1, quarantined := fieldAt b 9 1, working := fieldAt b 10 1,
                      need := signedValue 1 (fieldAt b 11 1), quiet := quiet })
  | 8 => some (.quiet (fieldAt b 0 1))
  | 9 => some .resume
  | 10 => (namedAt claimActions b 1).map fun a => .claim (fieldAt b 0 1) a (fieldAt b 2 1) (fieldAt b 3 1)
  | 11 => (namedAt claimOutcomes b 1).map fun o => .claimAnswer (fieldAt b 0 1) o (fieldAt b 2 1)
  | 12 => some .sessionOpen
  | 13 => (namedAt sessionOutcomes b 0).map fun o => .sessionAnswer o (fieldAt b 1 1)
  | 14 => some (.takeRequest (fieldAt b 0 1) (fieldAt b 1 1))
  | 15 => (namedAt takeOutcomes b 1).map fun o => .takeAnswer (fieldAt b 0 1) o
  | 16 => (flagOf (fieldAt b 5 1)).map fun q =>
      .takeDone (fieldAt b 0 1) (fieldAt b 1 1) (if fieldAt b 2 3 = 0 then none else some (fieldAt b 2 3)) q
  | 17 => some (.deliveryNote (bikesAt b 1 (fieldAt b 0 1)))
  | 18 => some .sessionClose
  | 19 => some (.sessionSummary
      { allowanceAtOpen := fieldAt b 0 1, allowanceUsed := fieldAt b 1 1,
        collected := bikesAt b 5 (fieldAt b 2 1),
        delivered := bikesAt b (5 + 3 * fieldAt b 2 1) (fieldAt b 3 1),
        undelivered := bikesAt b (5 + 3 * (fieldAt b 2 1 + fieldAt b 3 1)) (fieldAt b 4 1) })
  | _ => none

/-- The scope of a kind (R18). -/
inductive Scope where
  | flooded | broadcast | addressed
  deriving DecidableEq, Repr

def NoticeBody.scope : NoticeBody → Scope
  | .hireOpen .. | .hireClose .. | .hireSettled .. | .cardHold .. | .cardLift .. | .fault .. | .faultClear .. => .flooded
  | .beacon .. | .quiet .. | .resume => .broadcast
  | .claim .. | .claimAnswer .. | .sessionOpen | .sessionAnswer .. | .takeRequest .. | .takeAnswer .. | .takeDone ..
  | .deliveryNote .. | .sessionClose | .sessionSummary .. => .addressed

/-- The transmit class of a kind (R18). -/
def NoticeBody.cls : NoticeBody → TxClass
  | .hireClose .. | .hireSettled .. | .claim .. | .claimAnswer .. | .sessionOpen | .sessionAnswer .. | .takeRequest ..
  | .takeAnswer .. | .takeDone .. | .deliveryNote .. | .sessionClose | .sessionSummary .. => .urgent
  | .hireOpen .. | .cardHold .. | .cardLift .. | .fault .. | .faultClear .. | .quiet .. | .resume => .normal
  | .beacon .. => .background

/-- The scope fields of the header agree with the kind (R18, R27). -/
def Notice.scopeAgrees (n : Notice) : Bool :=
  match n.body.scope with
  | .flooded => decide (n.dest = 0) && decide (n.hops ≤ 4)
  | .broadcast => decide (n.dest = 0) && decide (n.hops = 0)
  | .addressed => nodeInRange n.dest && decide (n.hops = 0)

/-- Every field of a notice lies within its range (R18, R27). -/
def Notice.inRange (n : Notice) : Bool :=
  nodeInRange n.origin && serialInRange n.serial && nodeInRange n.sender && n.scopeAgrees && n.body.inRange

/-- The verdict of the three tests of R27 on a frame, at a node of the given number. -/
inductive FrameVerdict where
  | badCheck
  | badLength
  | valid (n : Notice)
  deriving DecidableEq, Repr

/-- The tests of R27 in their order: the check, then the kind and the length, then the ranges. -/
def testFrame (ownNode : Node) (frame : List Byte) : FrameVerdict :=
  let covered := frame.take (frame.length - 2)
  let body := covered.drop 12
  if checkBytes covered ≠ frame.drop (frame.length - 2) then .badCheck
  else if requiredLength (fieldAt covered 2 1) body ≠ some (fieldAt covered 0 2) then .badLength
  else
    match bodyFields (fieldAt covered 2 1) body with
    | none => .badLength
    | some fields =>
      let n : Notice :=
        { origin := fieldAt covered 3 2, serial := fieldAt covered 5 2, sender := fieldAt covered 7 2,
          hops := fieldAt covered 9 1, dest := fieldAt covered 10 2, body := fields }
      if n.inRange && decide (n.sender ≠ ownNode) then .valid n else .badLength

/-! ### The option block (R175, R176, R189) -/

/-- The condition in which the option area is found (R176). -/
inductive BlockCondition where
  | valid | blank | invalid
  deriving DecidableEq, Repr

/-- The codes of the conditions: DEDUCED, assumption log 64. -/
def blockConditions : List BlockCondition := [.valid, .blank, .invalid]
def savingThresholds : List SavingThreshold := [.v1160, .v1180, .v1200, .v1220]
def criticalThresholds : List CriticalThreshold := [.v1100, .v1120, .v1140]

/-- A SAVING threshold in 10 mV units (R175). -/
def SavingThreshold.level : SavingThreshold → Nat
  | .v1160 => 1160 | .v1180 => 1180 | .v1200 => 1200 | .v1220 => 1220

/-- A CRITICAL threshold in 10 mV units (R175). -/
def CriticalThreshold.level : CriticalThreshold → Nat
  | .v1100 => 1100 | .v1120 => 1120 | .v1140 => 1140

/-- The option area as it is judged at OPTIONS and by READ OPTIONS (R176, R189). -/
def judgeArea (area : List Byte) : BlockCondition :=
  if area = List.replicate 18 0xFF then .blank
  else if checkBytes (area.take 16) = area.drop 16 ∧ fieldAt area 15 1 = 0 then .valid
  else .invalid

/-- Clamped to a range (00_scope.md, Arithmetic). -/
def clampNat (lo hi v : Nat) : Nat := max lo (min hi v)
def clampInt (lo hi v : Int) : Int := max lo (min hi v)

/-- The image a VALID block gives, each field clamped in the order of R176. -/
def imageOf (b : List Byte) : Image :=
  let dockCount := clampNat 1 24 (fieldAt b 3 1)
  { node := min 4095 (fieldAt b 0 2),
    role := roles[fieldAt b 2 1]?.getD .van,
    dockCount := dockCount,
    targetFill := clampNat 0 dockCount (fieldAt b 4 1),
    channel := clampNat 0 15 (fieldAt b 5 1),
    hopLimit := clampNat 1 4 (fieldAt b 6 1),
    maxHire := clampNat 60 2880 (fieldAt b 7 2),
    saving := savingThresholds[fieldAt b 9 1]?.getD .v1220,
    critical := criticalThresholds[fieldAt b 10 1]?.getD .v1140,
    trimA := clampInt (-200) 200 (signedValue 2 (fieldAt b 11 2)),
    trimK := clampNat 0 63 (fieldAt b 13 1),
    trimT0 := clampNat 0 50 (fieldAt b 14 1) }

/-- The 16 field bytes of an image (R189). -/
def Image.bytes (i : Image) : List Byte :=
  u16 i.node ++ u8 (codeIn roles i.role) ++ u8 i.dockCount ++ u8 i.targetFill ++ u8 i.channel ++ u8 i.hopLimit ++
    u16 i.maxHire ++ u8 (codeIn savingThresholds i.saving) ++ u8 (codeIn criticalThresholds i.critical) ++
    signedBytes 2 i.trimA ++ u8 i.trimK ++ u8 i.trimT0 ++ u8 0

/-- The offset and width of each field of R189, in table order. -/
def blockFields : List (Nat × Nat) :=
  [(0, 2), (2, 1), (3, 1), (4, 1), (5, 1), (6, 1), (7, 2), (9, 1), (10, 1), (11, 2), (13, 1), (14, 1)]

/-- The fields that clamping changed, one bit per field in table order from the least significant bit (R176, R186). -/
def adjustedBits (stored formed : List Byte) : List (Nat × Nat) → Nat → BitVec 16
  | [], _ => 0
  | (off, len) :: rest, i =>
    (if fieldAt stored off len = fieldAt formed off len then 0 else BitVec.ofNat 16 (2 ^ i)) |||
      adjustedBits stored formed rest (i + 1)

/-- The set of adjusted fields of a VALID block (R176). -/
def adjustedSet (block : List Byte) : BitVec 16 := adjustedBits block (imageOf block).bytes blockFields 0

/-! ### Settlement records (R187) -/

/-- The fare flags as one byte (R187). -/
def FareFlags.byte (f : FareFlags) : Nat :=
  f.skew.toNat + 2 * f.clamped.toNat + 4 * f.falseStart.toNat + 8 * f.rideCap.toNat + 16 * f.dayCap.toNat + 32 * f.late.toNat +
    64 * f.clockUnsure.toNat + 128 * f.stepped.toNat

def RecordBody.kindCode : RecordBody → Nat
  | .charge .. => 0
  | .overdue .. => 1
  | .lateReturn .. => 2
  | .returned .. => 3
  | .unsettledReturn .. => 4
  | .fault .. => 5
  | .session .. => 6
  | .clock .. => 7

/-- The fields of a record's kind in the order of R187. -/
def RecordBody.bytes : RecordBody → List Byte
  | .charge hire card cls bike start endTime endNode minutes band amount flags =>
      identBytes hire ++ u32 card ++ u8 (codeIn cardClasses cls) ++ u24 bike ++ u32 start ++ u32 endTime ++ u16 endNode ++
        u16 minutes ++ u8 band ++ u32 amount ++ u8 flags.byte
  | .overdue hire card bike start amount => identBytes hire ++ u32 card ++ u24 bike ++ u32 start ++ u32 amount
  | .lateReturn hire card bike endNode endTime amount =>
      identBytes hire ++ u32 card ++ u24 bike ++ u16 endNode ++ u32 endTime ++ u32 amount
  | .returned bike dock time hire => u24 bike ++ u8 dock ++ u32 time ++ identBytes (hire.getD ⟨0, 0⟩)
  | .unsettledReturn bike endTime => u24 bike ++ u32 endTime
  | .fault id subject kind severity => identBytes id ++ subjectBytes subject ++ u8 (codeIn faultKinds kind) ++ u8 severity
  | .session van station collected delivered undelivered =>
      u16 van ++ u16 station ++ u8 collected.length ++ u8 delivered.length ++ u8 undelivered.length ++ bikesBytes collected ++
        bikesBytes delivered ++ bikesBytes undelivered
  | .clock oldTime newTime source => u32 oldTime ++ u32 newTime ++ u16 (source.getD 0)

/-- A record in a TAKE RECORDS answer: the common part of 8 bytes, then the fields (R187). -/
def RecordFields.bytes (r : RecordFields) : List Byte :=
  u16 r.seq ++ u32 r.time ++ u8 r.body.kindCode ++ u8 r.body.bytes.length ++ r.body.bytes

/-! ### Kiosk frames (R164, R165, R186) -/

/-- The complement of the sum of bytes, modulo 256 (R164). -/
def kioskCheck (bytes : List Byte) : Byte := ~~~ bytes.foldl (· + ·) 0

/-- The answer frame: status, body length, body and check (R165, R186). -/
def Answer.frame (a : Answer) : List Byte :=
  let covered := u8 (codeIn statuses a.status) ++ u16 a.body.length ++ a.body
  covered ++ [kioskCheck covered]

/-- A set of causes as one byte, SUPPLY the least significant bit (R186). -/
def CauseSet.byte (c : CauseSet) : Nat :=
  c.supply.toNat + 2 * c.journal.toNat + 4 * c.settlement.toNat + 8 * c.fault.toNat + 16 * c.van.toNat + 32 * c.time.toNat +
    64 * c.link.toNat

/-- The set of causes an enables byte names (R169, R186); none when the top bit is set. -/
def causeSetOf (v : Nat) : Option CauseSet :=
  if v < 128 then
    some { supply := v.testBit 0, journal := v.testBit 1, settlement := v.testBit 2, fault := v.testBit 3, van := v.testBit 4,
           time := v.testBit 5, link := v.testBit 6 }
  else none

/-- A list in an answer body, preceded by a 1-byte count of its entries (R186). -/
def listBytes {α : Type} (f : α → List Byte) (entries : List α) : List Byte := u8 entries.length ++ entries.flatMap f

/-- An optional part of an answer body, preceded by a presence byte (R186). -/
def optionBytes {α : Type} (f : α → List Byte) : Option α → List Byte
  | none => [0]
  | some a => 1 :: f a

/-! ### Dock bus frames (R188) -/

/-- The poll the DU sends: dock, poll kind, lock command, lamp pattern and check. -/
def pollFrame (dock : Nat) (kind : PollKind) (lock : Option LockCommand) (lamp : Option Lamp) : List Byte :=
  let covered := u8 dock ++ u8 (codeIn [PollKind.status, .event] kind) ++ u8 (lockCode lock) ++ u8 (lampCode lamp)
  covered ++ checkBytes covered

/-- The command that a post's answer frame is: the event it carries, or no answer when a frame check fails or the content length
is not the one its event code requires (R188). Ranges of the content are tested when the event is taken. -/
def postAnswer (frame : List Byte) : Instr :=
  let covered := frame.take (frame.length - 2)
  let content := covered.drop 3
  let dock := fieldAt covered 0 1
  if frame.length < 5 ∨ checkBytes covered ≠ frame.drop (frame.length - 2) ∨ fieldAt covered 2 1 ≠ content.length then
    .pollAnswerTimeout
  else
    match fieldAt covered 1 1, content.length with
    | 0, 3 => .bikeIn dock (fieldAt content 0 3)
    | 1, 0 => .bikeOut dock
    | 2, 9 => .card dock { card := fieldAt content 0 4, classCode := fieldAt content 4 1,
                           validUntil := { year := fieldAt content 5 2, month := fieldAt content 7 1, day := fieldAt content 8 1 } }
    | 3, 0 => .button dock
    | 4, 0 => .lockFail dock
    | 5, 3 => .heartbeat dock (fieldAt content 0 3)
    | _, _ => .pollAnswerTimeout

end Sys2Proof.Machine
end

