-- ==== Sys2Proof/Machine/Ops.lean ====
section
/-!
DEFINITION. The operations that several blocks share: the part's own readings (node, role, now), timers and free values, the
journal's write list (R155), the attention causes (R168, R170), origination and the transmit queue (R19 to R22), the relay
queue and this node's own QUIET (R31, R34), the settlement queue (R148 to R152) and the need score (R126).
-/
namespace Sys2Proof.Machine

/-! ### Readings of the part's own state -/

/-- The node number of the running option block image (R175). -/
def State.node (s : State) : Node := s.sup.image.node

/-- The part runs in role VAN. -/
def State.isVan (s : State) : Bool := decide (s.sup.image.role = .van)

/-- Now: the station time at which the event concerned is taken (00_scope.md). -/
def State.now (s : State) : Time := s.clk.dom.time

/-- The part is held in a POWER or LINE reset (R181). -/
def State.inReset (s : State) : Bool := s.sup.powerHold.isSome || s.sup.lineHold

/-- The start state is LISTEN or RUN, and the part is not held in reset (R182). -/
def State.awake (s : State) : Bool := !s.inReset && (decide (s.sup.start = .listen) || decide (s.sup.start = .run))

/-- The start state is RUN, and the part is not held in reset (R182). -/
def State.running (s : State) : Bool := !s.inReset && decide (s.sup.start = .run)

/-! ### Numbers -/

/-- One more, saturating at the limit (00_scope.md, Arithmetic). -/
def saturate (limit n : Nat) : Nat := min limit (n + 1)

/-- The next serial, wrapping to 0 after 65535. -/
def nextSerial (n : Serial) : Serial := (n + 1) % 65536

/-- The next claim or request serial, wrapping to 0 after 255. -/
def nextByteSerial (n : Serial) : Serial := (n + 1) % 256

/-! ### Timers and free values -/

/-- A timer that expires at this moment of the timebase is taken: the timebase has reached it. DESIGN CHOICE, assumption
log 2. -/
def State.reached (s : State) (deadline : Millis) : State := s.setTimebase (max s.timebase deadline)

/-- The seconds left until a moment. A part of a second is rounded down or up; which of the two is a free value, assumption
log 9. -/
def secondsUntil (now deadline : Millis) : Nat :=
  let left := deadline - now
  if left % 1000 = 0 then left / 1000 else left / 1000 + Config.remainderRounding left % 2

/-- The seconds left of a duration that began at `start`. -/
def secondsLeft (now start duration : Millis) : Nat := secondsUntil now (start + duration)

/-- A draw of 0 to n - 1 (R22, R31, R38). -/
def State.draw (s : State) (n : Nat) : Nat := Config.draw s.draws % n

/-- The state after a use of a free value. -/
def State.drawn (s : State) : State := s.setDraws (s.draws + 1)

/-! ### Updates of a list -/

/-- The first entry with the property, changed; the list as it is when none has it. -/
def updateFirst {α : Type} (p : α → Bool) (f : α → α) : List α → List α
  | [] => []
  | a :: rest => if p a then f a :: rest else a :: updateFirst p f rest

/-- The last entry with the property, if any. -/
def findLast {α : Type} (p : α → Bool) (l : List α) : Option α := (l.filter p).getLast?

/-- An entry added at the end of a list of bounded length, the oldest removed first when it is full. -/
def pushBounded {α : Type} (limit : Nat) (l : List α) (a : α) : List α :=
  (if l.length < limit then l else l.drop 1) ++ [a]

/-- The lowest number below `limit` that is not in use. -/
def lowestFree (limit : Nat) (used : List Nat) : Option Nat := (List.range limit).find? fun i => !used.contains i

/-! ### The journal's write list (R155) and store (R154) -/

/-- The slot's number in the store: tariff set, hold list, owned hires, money records, counters (R154). -/
def Slot.index : Slot → Nat
  | .band i => i
  | .cls i => 4 + i
  | .window i => 8 + i
  | .hold i => 16 + i
  | .owned i => 272 + i
  | .money i => 320 + i
  | .counters => 384

/-- What the store holds in a slot; none for a slot that is blank (R154). -/
def Store.read : Store → Nat → Option SlotContent
  | [], _ => none
  | (k, c) :: rest, i => if k = i then some c else Store.read rest i

/-- A slot written: the list stays in rising order of slot number. -/
def Store.write : Store → Nat → SlotContent → Store
  | [], i, c => [(i, c)]
  | (k, d) :: rest, i, c =>
    if i < k then (i, c) :: (k, d) :: rest
    else if i = k then (i, c) :: rest
    else (k, d) :: Store.write rest i c

/-- The canonical form of the store: slot numbers strictly rising and below 385. -/
def Store.wf : Store → Bool
  | [] => true
  | [(k, _)] => decide (k < 385)
  | (k, _) :: (j, d) :: rest => decide (k < j) && Store.wf ((j, d) :: rest)

/-- A slot marked for a write: at the tail of the write list unless it is listed, and noted when its own write is in progress
(R155). -/
def Jnl.mark (j : Jnl) (slot : Slot) : Jnl :=
  { j with
    writeList := if slot ∈ j.writeList then j.writeList else j.writeList ++ [slot],
    wip := j.wip.map fun w => if w.slot = slot then { w with touched := true } else w }

/-- A block marks a slot for a journal write. -/
def State.mark (s : State) (slot : Slot) : State := s.setJnl (s.jnl.mark slot)

/-! ### Attention causes (R168) -/

def CauseSet.has (c : CauseSet) : Cause → Bool
  | .supply => c.supply
  | .journal => c.journal
  | .settlement => c.settlement
  | .fault => c.fault
  | .van => c.van
  | .time => c.time
  | .link => c.link

def CauseSet.put (c : CauseSet) (v : Bool) : Cause → CauseSet
  | .supply => { c with supply := v }
  | .journal => { c with journal := v }
  | .settlement => { c with settlement := v }
  | .fault => { c with fault := v }
  | .van => { c with van := v }
  | .time => { c with time := v }
  | .link => { c with link := v }

/-- A cause made pending or cleared (R168). -/
def State.putCause (s : State) (c : Cause) (v : Bool) : State := s.setKl { s.kl with raised := s.kl.raised.put v c }

/-- A cause raised: it is pending, whether it was so before or not (R168). -/
def State.raise (s : State) (c : Cause) : State := s.putCause c true

/-- The attention line: asserted while a pending cause is enabled and the part is not held in reset (R170). -/
def State.attentionLine (s : State) : Bool :=
  !s.inReset && causes.any fun c => s.kl.raised.has c && s.kl.mask.has c

/-! ### The transmit queue and medium access (R20 to R24) -/

/-- The entry to go next: the oldest of the highest class that has any (R20). -/
def chosenEntry (q : List QueueEntry) : Option Nat :=
  (q.findIdx? fun e => decide (e.cls = .urgent)).orElse fun _ =>
    (q.findIdx? fun e => decide (e.cls = .normal)).orElse fun _ =>
      q.findIdx? fun e => decide (e.cls = .background)

/-- The access of a notice that comes into access; a carrier already active is a busy find (R22). -/
def Access.begin (cls : TxClass) (carrier : Bool) : Access :=
  let k := if cls = .urgent then 2 else 3
  { phase := .sense, exponent := if carrier then k + 1 else k, busyFinds := if carrier then 1 else 0, held := none,
    idleSlots := 0 }

/-- The entry at an index brought into access, and every other out of it; one already in access goes on (R20). -/
def enterAccess (carrier : Bool) : Nat → List QueueEntry → List QueueEntry
  | _, [] => []
  | 0, e :: rest =>
    (if e.access.isSome then e else { e with access := some (Access.begin e.cls carrier) }) ::
      rest.map fun e => { e with access := none }
  | i + 1, e :: rest => { e with access := none } :: enterAccess carrier i rest

/-- The choice of R20 made anew: in RUN, with no frame in flight, the chosen notice is in access. Slots are measured from the
moment an access begins (Section 2.3). -/
def State.reselect (s : State) : State :=
  if s.sup.start = .run ∧ s.slc.transmitting = none then
    match chosenEntry s.slc.queue with
    | none => s
    | some i =>
      if (s.slc.queue[i]?.bind (·.access)).isSome then s
      else s.setSlc { s.slc with queue := enterAccess s.slc.carrier i s.slc.queue, slotStart := s.timebase }
  else s

def QueueEntry.isBeacon (e : QueueEntry) : Bool := decide (e.notice.body.kindCode = 7)

def QueueEntry.isNormal (e : QueueEntry) : Bool := decide (e.cls = .normal)

/-- The queue after a notice is to join it, and whether one was dropped or evicted (R21). -/
def joinQueue (q : List QueueEntry) (e : QueueEntry) : List QueueEntry × Bool :=
  if e.isBeacon && q.any QueueEntry.isBeacon then (q.filter (fun x => !x.isBeacon) ++ [e], false)
  else if q.length < 12 then (q ++ [e], false)
  else
    match e.cls with
    | .background => (q, true)
    | .normal => if q.any QueueEntry.isBeacon then (q.filter (fun x => !x.isBeacon) ++ [e], true) else (q, true)
    | .urgent =>
      if q.any QueueEntry.isBeacon then (q.filter (fun x => !x.isBeacon) ++ [e], true)
      else if q.any QueueEntry.isNormal then (q.eraseP QueueEntry.isNormal ++ [e], true)
      else (q, true)

/-- A notice joins the transmit queue, or is dropped (R21). -/
def State.enqueue (s : State) (n : Notice) (cls : TxClass) (relayed : Bool) : State :=
  let r := joinQueue s.slc.queue { notice := n, cls := cls, relayed := relayed, access := none }
  (s.setSlc { s.slc with queue := r.1,
                         txDrops := if r.2 then saturate 65535 s.slc.txDrops else s.slc.txDrops }).reselect

/-- The van session's idle timer restarts when a notice addressed to its station is handed to the SLC while it is OPEN (R139). -/
def State.touchVanSession (s : State) (body : NoticeBody) (dest : Node) : State :=
  match s.bu.vanSession with
  | some v =>
    if body.scope = .addressed ∧ v.state = .opened ∧ v.station = dest then
      s.setBu { s.bu with vanSession := some { v with idleStart := s.timebase } }
    else s
  | none => s

/-- A block hands the SLC a notice to originate (R19). The destination is 0 unless the kind is addressed. -/
def State.originate (s : State) (body : NoticeBody) (dest : Node) : State :=
  let n : Notice :=
    { origin := s.node, serial := s.slc.originSerial, sender := s.node,
      hops := match body.scope with | .flooded => s.sup.image.hopLimit | .broadcast | .addressed => 0,
      dest := match body.scope with | .addressed => dest | .flooded | .broadcast => 0,
      body := body }
  ((((s.touchVanSession body dest).setSlc { s.slc with originSerial := nextSerial s.slc.originSerial }).mark .counters).enqueue n
    body.cls false)

/-- A flooded or broadcast notice originated. -/
def State.flood (s : State) (body : NoticeBody) : State := s.originate body 0

/-! ### The relay queue and this node's own QUIET (R31 to R36) -/

/-- A QUIET of this node waits in the transmit queue (R34). -/
def State.quietQueued (s : State) : Bool := s.slc.queue.any fun e => decide (e.notice.body.kindCode = 8)

/-- A QUIET of this node waiting in the transmit queue is withdrawn without counting (R34). -/
def State.withdrawQuiet (s : State) : State :=
  (s.setSlc { s.slc with queue := s.slc.queue.filter fun e => !decide (e.notice.body.kindCode = 8) }).reselect

/-- The relay queue has changed from `before` entries: a rise from 5 to 6 may originate QUIET, and a fall from 3 to 2 a RESUME
(R34). -/
def State.relaysChanged (s : State) (before : Nat) : State :=
  if before < 6 ∧ 6 ≤ s.slc.relays.length ∧ s.slc.ownQuiet = none ∧ s.quietQueued = false then s.flood (.quiet 20)
  else if 3 ≤ before ∧ s.slc.relays.length ≤ 2 then
    if s.slc.ownQuiet.isSome then (s.setSlc { s.slc with ownQuiet := none }).flood .resume
    else if s.quietQueued then s.withdrawQuiet
    else s
  else s

/-- The relay queue replaced by another content. -/
def State.setRelays (s : State) (relays : List RelayEntry) : State :=
  (s.setSlc { s.slc with relays := relays }).relaysChanged s.slc.relays.length

/-- The supply state permits relaying of the kind (R33). -/
def relayPermitted (supply : SupplyState) (body : NoticeBody) : Bool :=
  match supply with
  | .normal => true
  | .saving => decide (body.kindCode = 1) || decide (body.kindCode = 2)
  | .critical => false

/-- A neighbour is quiet (R36). -/
def State.neighbourQuiet (s : State) : Bool := s.slc.neighbours.any fun n => n.quietUntil.isSome

/-- The kind passes while a neighbour is quiet: HIRE CLOSE or HIRE SETTLED (R36). -/
def NoticeBody.passesQuiet (b : NoticeBody) : Bool := decide (b.kindCode = 1) || decide (b.kindCode = 2)

/-! ### The settlement queue (R148 to R152) -/

def RecordBody.isMoney : RecordBody → Bool
  | .charge .. | .overdue .. => true
  | .lateReturn .. | .returned .. | .unsettledReturn .. | .fault .. | .session .. | .clock .. => false

def SettlementRecord.isMoney (r : SettlementRecord) : Bool := r.fields.body.isMoney

/-- The ready flag of a money record: both writes of R151 have completed. A note is ready from its posting. -/
def SettlementRecord.ready (r : SettlementRecord) : Bool := !r.isMoney || (r.slotDone && r.ownedDone)

/-- The records the host may take: from the oldest, up to the first money record that is not ready (R151). -/
def takeable (q : List SettlementRecord) : List SettlementRecord := q.takeWhile SettlementRecord.ready

/-- The condition of the SETTLEMENT cause (R152). -/
def State.settlementDue (s : State) : Bool :=
  decide (s.sq.trigger ≤ (takeable s.sq.queue).length) ||
    ((takeable s.sq.queue).head?.any fun r => decide (r.waitStart + s.sq.idle * 1000 ≤ s.timebase))

/-- The SQ evaluates the SETTLEMENT condition; before RUN it does not (R152). -/
def State.evaluateSettlement (s : State) : State :=
  if s.sup.start = .run then s.putCause .settlement s.settlementDue else s

/-- The docks in RELEASING with purpose MEMBER (R71, R150). -/
def Du.memberReleases (d : Du) : Nat :=
  d.docks.toList.countP fun k => decide (k.state = .releasing) && k.release.any fun r => decide (r.purpose = .member)

/-- The note limit (R150). -/
def State.noteLimit (s : State) : Nat := 64 - s.hu.owned.length - s.du.memberReleases

/-- The record a posting makes at this moment (R148). -/
def State.newRecord (s : State) (body : RecordBody) (slot : Option Nat) (ownedSlot : Nat) : SettlementRecord :=
  { fields := { seq := s.sq.seq, time := s.now, body := body }, waitStart := s.timebase, slot := slot, slotDone := false,
    ownedSlot := ownedSlot, ownedBegun := false, ownedDone := false }

/-- A note posted to the SQ: accepted below the note limit, dropped and counted otherwise (R150). -/
def State.postNote (s : State) (body : RecordBody) : State :=
  if s.sq.queue.length < s.noteLimit then
    ((s.setSq { s.sq with queue := s.sq.queue ++ [s.newRecord body none 0], seq := nextSerial s.sq.seq }).mark
      .counters).evaluateSettlement
  else s.setSq { s.sq with drops := saturate 65535 s.sq.drops }

/-- The money slots in use: of records in the queue, and of records taken whose removal is not yet written (R71, R153). -/
def Sq.slotsInUse (q : Sq) : List Nat := q.queue.filterMap (·.slot) ++ q.leaving.map (·.slot)

/-- A money record posted for the ended hire that holds this slot of the owned hires region (R149): the oldest note makes way in
a full queue, and the lowest free money slot is taken and marked. -/
def State.postMoney (s : State) (body : RecordBody) (ownedSlot : Nat) : State :=
  let full := decide (64 ≤ s.sq.queue.length)
  let evicts := full && s.sq.queue.any fun r => !r.isMoney
  let kept := if evicts then s.sq.queue.eraseP (fun r => !r.isMoney) else s.sq.queue
  let slot := lowestFree 64 s.sq.slotsInUse
  let posted :=
    (s.setSq { s.sq with queue := kept ++ [s.newRecord body slot ownedSlot], seq := nextSerial s.sq.seq,
                         drops := if evicts then saturate 65535 s.sq.drops else s.sq.drops }).mark .counters
  (match slot with | none => posted | some i => posted.mark (.money i)).evaluateSettlement

/-! ### Dock counts and the need score (R63, R126) -/

/-- The bike has a quarantine part in the bike status list (R60). -/
def Du.quarantined (d : Du) (b : Bike) : Bool := d.bikes.any fun e => decide (e.bike = b) && e.quarantine.isSome

/-- The entries of configured docks, in dock order (R41, R43). -/
def State.configured (s : State) : List Dock := s.du.docks.toList.take s.sup.image.dockCount

/-- A: docks in HOLDING whose bike has no quarantine part (R63). -/
def State.countA (s : State) : Nat :=
  s.configured.countP fun k => decide (k.state = .holding) && k.bike.any fun b => !s.du.quarantined b.bike

/-- Qd: docks in HOLDING whose bike has a quarantine part (R63). -/
def State.countQd (s : State) : Nat :=
  s.configured.countP fun k => decide (k.state = .holding) && k.bike.any fun b => s.du.quarantined b.bike

/-- W: docks in EMPTY, HOLDING or RELEASING (R63). -/
def State.countW (s : State) : Nat :=
  s.configured.countP fun k => decide (k.state = .empty) || decide (k.state = .holding) || decide (k.state = .releasing)

/-- The total outs and ins of the ring (R125). -/
def Bu.outs (b : Bu) : Nat := (b.ring.map (·.outs)).sum
def Bu.ins (b : Bu) : Nat := (b.ring.map (·.ins)).sum

/-- The granted total of the listed claims with an action (R126, R128). -/
def grantedTotal (action : ClaimAction) (claims : List StationClaim) : Nat :=
  ((claims.filter fun c => decide (c.action = action)).map (·.granted)).sum

/-- The BU computes the need score from its inputs as they stand (R126). In role VAN no need is computed. -/
def State.recomputeNeed (s : State) : State :=
  if s.isVan then s
  else
    let a := s.countA
    let projected : Int := (a : Int) - ((s.bu.outs : Int) - (s.bu.ins : Int))
    let raw := clampInt (-32) 32 ((s.sup.image.targetFill : Int) - projected)
    let space := s.countW - a - s.countQd
    s.setBu { s.bu with
      rawNeed := raw,
      wantDeliver := if 0 < raw then min raw.toNat space else 0,
      wantCollect := if raw < 0 then min (-raw).toNat a else 0,
      published := clampInt (-32) 32
        (raw - (grantedTotal .deliver s.bu.claims : Int) + (grantedTotal .collect s.bu.claims : Int)) }

/-- The HU hands the BU one out or one in for the current bin, each count saturating at 65535 (R125). -/
def State.countActivity (s : State) (out : Bool) : State :=
  match s.bu.ring with
  | [] => s
  | b :: rest =>
    let b' : Bin := if out then { b with outs := saturate 65535 b.outs } else { b with ins := saturate 65535 b.ins }
    (s.setBu { s.bu with ring := b' :: rest }).recomputeNeed

/-- The claim list replaced by another content (R127, R128). -/
def State.setClaims (s : State) (claims : List StationClaim) : State := (s.setBu { s.bu with claims := claims }).recomputeNeed

/-! ### Answers of the kiosk link (R165) -/

/-- The answer to the request in progress is formed: it becomes the held answer and the link goes to IDLE (R165). -/
def State.answer (s : State) (status : Status) (body : List Byte) : State :=
  s.setKl { s.kl with link := .idle, inProgress := none, held := some { status := status, body := body }, delivered := false }

/-- A refusal, or an OK answer with an empty body. -/
def State.reply (s : State) (status : Status) : State := s.answer status []

end Sys2Proof.Machine
end

