-- ==== Sys2Proof/Machine/Operands.lean ====
section
/-!
DEFINITION. The operand forms: the request frames of the kiosk link and the field values their bodies carry (R164, R166, R186),
the roles and start states each request is answered in (R166), and the range tests a request's own rule makes on its fields.
-/
namespace Sys2Proof.Machine

/-- The body lengths a request code allows; none for a code that names no request (R166, R186). The codes are positions in the
table of R166 counted from 1. -/
def requestLengthOk (code : Nat) (body : List Byte) : Option Bool :=
  match code with
  | 1 | 2 | 7 | 11 | 18 | 21 | 22 | 27 | 29 | 30 | 31 | 33 => some (decide (body.length = 0))
  | 3 | 4 | 19 | 20 | 25 => some (decide (body.length = 1))
  | 5 => some (decide (body.length = 3))
  | 6 => some (decide (body.length = 7))
  | 8 => some (decide (body.length = 18))
  | 9 => some (decide (body.length = 6))
  | 10 => some (decide (body.length = 10))
  | 12 | 13 => some (decide (body.length = 5))
  | 14 => some (decide (body.length = 4) || decide (body.length = 8))
  | 15 | 28 => some (decide (body.length = 3))
  | 16 => some (decide (body.length = 6))
  | 17 => some (decide (body.length = 4))
  | 23 => some (decide (body.length = 5))
  | 24 => some (decide (body.length = 2))
  | 26 => some (decide (body.length = 1 + 3 * fieldAt body 0 1) && decide (1 ≤ body.length))
  | 32 => some (decide (body.length = 16))
  | _ => none

def dateAt (b : List Byte) (off : Nat) : Date :=
  { year := fieldAt b off 2, month := fieldAt b (off + 2) 1, day := fieldAt b (off + 3) 1 }

def calendarAt (b : List Byte) (off : Nat) : CalendarTime :=
  { year := fieldAt b off 2, month := fieldAt b (off + 2) 1, day := fieldAt b (off + 3) 1, hour := fieldAt b (off + 4) 1,
    minute := fieldAt b (off + 5) 1, second := fieldAt b (off + 6) 1 }

def bandTermsAt (b : List Byte) (off : Nat) : BandTerms :=
  { unlock := fieldAt b off 2, free := fieldAt b (off + 2) 1, grace := fieldAt b (off + 3) 1, block := fieldAt b (off + 4) 1,
    price := fieldAt b (off + 5) 2, cap := fieldAt b (off + 7) 2, lateAfter := fieldAt b (off + 9) 2,
    lateFee := fieldAt b (off + 11) 2, lostFee := fieldAt b (off + 13) 4 }

def classFieldsAt (b : List Byte) (off : Nat) : ClassFields :=
  { percent := fieldAt b off 1, dayCap := fieldAt b (off + 1) 2, hireLimit := fieldAt b (off + 3) 1,
    waived := fieldAt b (off + 4) 1 }

def windowFieldsAt (b : List Byte) (off : Nat) : WindowFields :=
  { presence := fieldAt b off 1, band := fieldAt b (off + 1) 1, weekdays := fieldAt b (off + 2) 1,
    firstMonth := fieldAt b (off + 3) 1, lastMonth := fieldAt b (off + 4) 1, startMinute := fieldAt b (off + 5) 2,
    endMinute := fieldAt b (off + 7) 2 }

/-- The request a frame carries, its code known and its body length allowed (R186). -/
def requestOf (code : Nat) (b : List Byte) : Option Request :=
  match code with
  | 1 => some .getStatus
  | 2 => some .getCause
  | 3 => some (.setAttentionMask (fieldAt b 0 1))
  | 4 => some (.takeRecords (fieldAt b 0 1))
  | 5 => some (.setSettlement (fieldAt b 0 1) (fieldAt b 1 2))
  | 6 => some (.setTime (calendarAt b 0))
  | 7 => some .getTime
  | 8 => some (.loadBand (fieldAt b 0 1) (bandTermsAt b 1))
  | 9 => some (.loadClass (fieldAt b 0 1) (classFieldsAt b 1))
  | 10 => some (.loadWindow (fieldAt b 0 1) (windowFieldsAt b 1))
  | 11 => some .readTariff
  | 12 => some (.holdCard (fieldAt b 0 4) (fieldAt b 4 1))
  | 13 => some (.liftHold (fieldAt b 0 4) (fieldAt b 4 1))
  | 14 => some (.queryCard (fieldAt b 0 4) (if b.length = 8 then some (dateAt b 4) else none))
  | 15 => some (.queryBike (fieldAt b 0 3))
  | 16 => some (.reportFault (fieldAt b 0 1) (fieldAt b 1 3) (fieldAt b 4 1) (fieldAt b 5 1))
  | 17 => some (.clearFault (fieldAt b 0 1) (fieldAt b 1 3))
  | 18 => some .readFaults
  | 19 => some (.dockDisable (fieldAt b 0 1))
  | 20 => some (.dockEnable (fieldAt b 0 1))
  | 21 => some .readDocks
  | 22 => some .readNeighbours
  | 23 => some (.claim (fieldAt b 0 2) (fieldAt b 2 1) (fieldAt b 3 1) (fieldAt b 4 1))
  | 24 => some (.openSession (fieldAt b 0 2))
  | 25 => some (.take (fieldAt b 0 1))
  | 26 => some (.announceDelivery (bikesAt b 1 (fieldAt b 0 1)))
  | 27 => some .closeSession
  | 28 => some (.unload (fieldAt b 0 3))
  | 29 => some .readLoad
  | 30 => some .readClaims
  | 31 => some .readOptions
  | 32 => some (.writeOptions b)
  | 33 => some .restart
  | _ => none

/-! ### The request frames a host writes (R186) -/

/-- The request code, the position of the request in the table of R166 counted from 1. -/
def Request.code : Request → Nat
  | .getStatus => 1
  | .getCause => 2
  | .setAttentionMask _ => 3
  | .takeRecords _ => 4
  | .setSettlement .. => 5
  | .setTime _ => 6
  | .getTime => 7
  | .loadBand .. => 8
  | .loadClass .. => 9
  | .loadWindow .. => 10
  | .readTariff => 11
  | .holdCard .. => 12
  | .liftHold .. => 13
  | .queryCard .. => 14
  | .queryBike _ => 15
  | .reportFault .. => 16
  | .clearFault .. => 17
  | .readFaults => 18
  | .dockDisable _ => 19
  | .dockEnable _ => 20
  | .readDocks => 21
  | .readNeighbours => 22
  | .claim .. => 23
  | .openSession _ => 24
  | .take _ => 25
  | .announceDelivery _ => 26
  | .closeSession => 27
  | .unload _ => 28
  | .readLoad => 29
  | .readClaims => 30
  | .readOptions => 31
  | .writeOptions _ => 32
  | .restart => 33

def Date.bytes (d : Date) : List Byte := u16 d.year ++ u8 d.month ++ u8 d.day

def CalendarTime.bytes (t : CalendarTime) : List Byte :=
  u16 t.year ++ u8 t.month ++ u8 t.day ++ u8 t.hour ++ u8 t.minute ++ u8 t.second

def BandTerms.fieldBytes (t : BandTerms) : List Byte :=
  u16 t.unlock ++ u8 t.free ++ u8 t.grace ++ u8 t.block ++ u16 t.price ++ u16 t.cap ++ u16 t.lateAfter ++ u16 t.lateFee ++
    u32 t.lostFee

def ClassFields.bytes (f : ClassFields) : List Byte := u8 f.percent ++ u16 f.dayCap ++ u8 f.hireLimit ++ u8 f.waived

def WindowFields.bytes (f : WindowFields) : List Byte :=
  u8 f.presence ++ u8 f.band ++ u8 f.weekdays ++ u8 f.firstMonth ++ u8 f.lastMonth ++ u16 f.startMinute ++ u16 f.endMinute

/-- The body of a request frame, its fields in the order of R186. -/
def Request.bytes : Request → List Byte
  | .getStatus | .getCause | .getTime | .readTariff | .readFaults | .readDocks | .readNeighbours | .closeSession | .readLoad
  | .readClaims | .readOptions | .restart => []
  | .setAttentionMask enables => u8 enables
  | .takeRecords n => u8 n
  | .setSettlement trigger timeout => u8 trigger ++ u16 timeout
  | .setTime t => CalendarTime.bytes t
  | .loadBand band terms => u8 band ++ BandTerms.fieldBytes terms
  | .loadClass cls fields => u8 cls ++ ClassFields.bytes fields
  | .loadWindow index fields => u8 index ++ WindowFields.bytes fields
  | .holdCard card reason | .liftHold card reason => u32 card ++ u8 reason
  | .queryCard card none => u32 card
  | .queryCard card (some date) => u32 card ++ Date.bytes date
  | .queryBike bike | .unload bike => u24 bike
  | .reportFault subject number kind severity => u8 subject ++ u24 number ++ u8 kind ++ u8 severity
  | .clearFault subject number => u8 subject ++ u24 number
  | .dockDisable dock | .dockEnable dock | .take dock => u8 dock
  | .claim station action amount lifetime => u16 station ++ u8 action ++ u8 amount ++ u8 lifetime
  | .openSession station => u16 station
  | .announceDelivery bikes => u8 bikes.length ++ bikesBytes bikes
  | .writeOptions block => block

/-- The check byte of a request frame (R164). -/
def Request.check (r : Request) : Byte := kioskCheck ([BitVec.ofNat 8 r.code, BitVec.ofNat 8 r.bytes.length] ++ r.bytes)

/-- The request is answered in the role (R166). For REPORT FAULT and CLEAR FAULT the subject decides in the request's rule. -/
def Request.roleOk (r : Request) (van : Bool) : Bool :=
  match r with
  | .loadBand .. | .loadClass .. | .loadWindow .. | .readTariff | .dockDisable _ | .dockEnable _ | .readDocks => !van
  | .claim .. | .openSession _ | .take _ | .announceDelivery _ | .closeSession | .unload _ | .readLoad | .readClaims => van
  | .getStatus | .getCause | .setAttentionMask _ | .takeRecords _ | .setSettlement .. | .setTime _ | .getTime | .holdCard ..
  | .liftHold .. | .queryCard .. | .queryBike _ | .reportFault .. | .clearFault .. | .readFaults | .readNeighbours
  | .readOptions | .writeOptions _ | .restart => true

/-- The request is answered in every start state from OPTIONS through RUN (R166). -/
def Request.anyStart : Request → Bool
  | .getStatus | .getCause | .readOptions | .writeOptions _ | .restart => true
  | .setAttentionMask _ | .takeRecords _ | .setSettlement .. | .setTime _ | .getTime | .loadBand .. | .loadClass ..
  | .loadWindow .. | .readTariff | .holdCard .. | .liftHold .. | .queryCard .. | .queryBike _ | .reportFault ..
  | .clearFault .. | .readFaults | .dockDisable _ | .dockEnable _ | .readDocks | .readNeighbours | .claim .. | .openSession _
  | .take _ | .announceDelivery _ | .closeSession | .unload _ | .readLoad | .readClaims => false

/-- Tests 5 and 6 of R164: the status of a request that is not answered in the role or in the start state. -/
def State.admission (s : State) (r : Request) : Option Status :=
  if !r.roleOk s.isVan then some .wrongRole
  else if !r.anyStart && !decide (s.sup.start = .run) then some .notReady
  else none

/-- The tests of R164 on a whole frame, in their order: the failing status, or the request. -/
def State.testRequest (s : State) (code : Byte) (body : List Byte) (check : Byte) : Except Status Request :=
  if check ≠ kioskCheck ([code, BitVec.ofNat 8 body.length] ++ body) then .error .badCheck
  else
    match requestLengthOk code.toNat body with
    | none => .error .unknownRequest
    | some false => .error .badLength
    | some true =>
      match requestOf code.toNat body with
      | none => .error .unknownRequest
      | some r =>
        match s.admission r with
        | some status => .error status
        | none => .ok r

/-- The taking of a handed request by the block that owns its matter (R165): it is taken when it is the request in progress, and
decided on the state the block finds; an event that finds another request in progress, or none, does not occur (assumption
log 3). The role and start state of R166 hold here as at the frame's test. -/
def State.serve (s : State) (r : Request) (effect : State → State) : State :=
  if s.inReset = false ∧ s.kl.link = .working ∧ s.kl.inProgress = some r then
    match s.admission r with
    | some status => s.reply status
    | none => effect s
  else s

/-! ### Ranges of request fields -/

/-- Every term of a band lies in its range (R93). -/
def BandTerms.inRange (t : BandTerms) : Bool :=
  decide (t.unlock ≤ 1000) && decide (t.free ≤ 120) && decide (t.grace ≤ 5) && decide (1 ≤ t.block) && decide (t.block ≤ 60) &&
    decide (t.price ≤ 2000) && decide (t.cap ≤ 20000) && decide (30 ≤ t.lateAfter) && decide (t.lateAfter ≤ 2880) &&
    decide (t.lateFee ≤ 5000) && decide (t.lostFee ≤ 100000)

/-- The class terms LOAD CLASS carries, when every one lies in its range (R94, R96). -/
def classTermsOf (f : ClassFields) : Option ClassTerms :=
  if f.percent ≤ 100 ∧ f.dayCap ≤ 50000 ∧ 1 ≤ f.hireLimit ∧ f.hireLimit ≤ 4 then
    (flagOf f.waived).map fun w => { percent := f.percent, dayCap := f.dayCap, hireLimit := f.hireLimit, waived := w }
  else none

/-- The window entry LOAD WINDOW carries, when every field lies in its range (R13, R186): a field whose presence bit is clear is
absent, a band given with kind CLOSED is stored as absent, and kind BAND needs a band. -/
def windowOf (f : WindowFields) : Option Window :=
  let closes := f.presence.testBit 1
  let hasBand := f.presence.testBit 2
  let hasDays := f.presence.testBit 3
  let hasMonths := f.presence.testBit 4
  let monthOk (m : Nat) : Bool := decide (1 ≤ m) && decide (m ≤ 12)
  if f.presence < 32 ∧ (closes ∨ (hasBand ∧ f.band ≤ 3)) ∧ (hasDays → 1 ≤ f.weekdays ∧ f.weekdays < 128) ∧
      (hasMonths → monthOk f.firstMonth ∧ monthOk f.lastMonth) ∧ f.startMinute ≤ 1439 ∧ f.endMinute ≤ 1439 then
    some { enabled := f.presence.testBit 0, closes := closes,
           band := if closes then none else some f.band,
           weekdays := if hasDays then some (BitVec.ofNat 7 f.weekdays) else none,
           months := if hasMonths then some (f.firstMonth, f.lastMonth) else none,
           startMinute := f.startMinute, endMinute := f.endMinute }
  else none

/-- A dock number from 1 to the dock count (R56). -/
def State.dockConfigured (s : State) (d : Nat) : Bool := decide (1 ≤ d) && decide (d ≤ s.sup.image.dockCount)

/-- The subject REPORT FAULT or CLEAR FAULT names, when its number is in range (R118, R121). -/
def State.subjectOf (s : State) (code number : Nat) : Option Subject :=
  match code with
  | 0 => if bikeInRange number then some (.bike number) else none
  | 1 => if s.dockConfigured number then some (.dock number) else none
  | 2 => if number = 0 then some .station else none
  | _ => none

/-- The kinds the host may report on a subject (R121). -/
def hostMayReport : Subject → FaultKind → Bool
  | .bike _, .brake | .bike _, .tyre | .bike _, .chain | .bike _, .light | .bike _, .reported => true
  | .dock _, .lock | .dock _, .dockJam => true
  | _, _ => false

/-- A station node a van may name: in range and not this node (R135, R138). -/
def State.otherNode (s : State) (n : Nat) : Bool := nodeInRange n && decide (n ≠ s.node)

/-- A card record whose fields are in range (R41, R188). -/
def cardRecordOf (a : CardAnswer) : Option CardRecord :=
  if cardInRange a.card && dateExists a.validUntil then
    cardClasses[a.classCode]?.map fun c => { card := a.card, cls := c, validUntil := a.validUntil }
  else none

end Sys2Proof.Machine
end

