-- ==== Sys2Proof/Machine/Balance.lean ====
section
/-!
DEFINITION. The balance unit at a station (Chapter 7): claim arbitration (R127, R128), the service session (R129 to R134), and
the claims' and session's timers. In role VAN the same notices are answered as a station in LISTEN answers them (R145).
-/
namespace Sys2Proof.Machine

/-- The FLT marks COLLECTED every OPEN entry of the bike (R117). -/
def State.collectFaults (s : State) (b : Bike) : State :=
  s.setFlt { s.flt with
    log := s.flt.log.map fun e => if e.subject = .bike b ∧ e.state = .opened then { e with state := .collected } else e }

/-! ### The session's end (R133) -/

/-- The summary of a session (R133, step 1). -/
def Session.summary (ss : Session) : SummaryBody :=
  { allowanceAtOpen := ss.allowanceAtOpen, allowanceUsed := ss.allowanceAtOpen - ss.allowance, collected := ss.collected,
    delivered := ss.delivered, undelivered := ss.expected }

/-- The session ends: the summary is sent, a SESSION note is posted, the van's claims are consumed, and the record gives way to
the kept summary, in the order of R133. -/
def State.endSession (s : State) (ss : Session) : State :=
  let s1 := s.originate (.sessionSummary ss.summary) ss.van
  let s2 := s1.postNote (.session ss.van s.node ss.collected ss.delivered ss.expected)
  let s3 := s2.setClaims (s2.bu.claims.filter fun c => !decide (c.id.node = ss.van))
  s3.setBu { s3.bu with session := none, summary := some { van := ss.van, body := ss.summary } }

/-- A session left in CLOSING with no take in flight ends (R131, R133). -/
def State.endIfDone (s : State) : State :=
  match s.bu.session with
  | some ss => if ss.closing && ss.inFlight.isEmpty then s.endSession ss else s
  | none => s

/-- The session record changed. -/
def State.setSession (s : State) (ss : Session) : State := s.setBu { s.bu with session := some ss }

/-- The idle timer restarts when the session is this van's (R133). -/
def State.touchSession (s : State) (van : Node) : State :=
  match s.bu.session with
  | some ss => if ss.van = van then s.setSession { ss with idleStart := s.timebase } else s
  | none => s

/-! ### Releases to the van (R131) -/

/-- The DU tells the BU that a release with purpose VAN lapsed without a bike (R131). The quarantined flag of such a TAKE DONE is
a free value, assumption log 19. -/
def State.releaseLapsed (s : State) (d : Nat) : State :=
  match s.bu.session with
  | none => s
  | some ss =>
    match ss.inFlight.find? fun t => decide (t.dock = d) with
    | none => s
    | some t =>
      ((s.setSession { ss with inFlight := ss.inFlight.eraseP (fun t => decide (t.dock = d)), idleStart := s.timebase }).originate
        (.takeDone t.request d none (Config.lapsedTakeFlag t.request d)) ss.van).endIfDone

/-- The DU hands the BU a completed release with purpose VAN (R131): the bike is collected, a counted take is charged to the
allowance, a quarantined bike's entries are marked COLLECTED, and TAKE DONE is sent. -/
def State.takeRecorded (s : State) (d : Nat) (b : Bike) : State :=
  match s.bu.session with
  | none => s
  | some ss =>
    match ss.inFlight.find? fun t => decide (t.dock = d) with
    | none => s
    | some t =>
      let s1 := s.setSession { ss with
        collected := if b ∈ ss.collected then ss.collected else ss.collected ++ [b],
        allowance := if t.counted then ss.allowance - 1 else ss.allowance,
        inFlight := ss.inFlight.eraseP (fun t => decide (t.dock = d)),
        idleStart := s.timebase }
      let s2 := if s.du.quarantined b then s1.collectFaults b else s1
      (s2.originate (.takeDone t.request d (some b) (!t.counted)) ss.van).endIfDone

/-- The HU asks whether an arrival is a delivery (R132): when it is, the bike moves from the expected-delivery list to the
delivered list and the idle timer restarts. -/
def State.delivery (s : State) (b : Bike) : Option State :=
  match s.bu.session with
  | none => none
  | some ss =>
    if b ∈ ss.expected then
      some (s.setSession { ss with
        expected := ss.expected.erase b,
        delivered := if b ∈ ss.delivered then ss.delivered else ss.delivered ++ [b],
        idleStart := s.timebase })
    else none

/-! ### Notices a van addresses to a station (R128 to R134) -/

/-- The station can hold claims and sessions: role STATION in RUN (R134, R145). -/
def State.serves (s : State) : Bool := !s.isVan && decide (s.sup.start = .run)

/-- The wanted amount for an action (R126). -/
def Bu.wanted (b : Bu) : ClaimAction → Nat
  | .deliver => b.wantDeliver
  | .collect => b.wantCollect

/-- The grant a new claim would get (R128). -/
def Bu.grant (b : Bu) (action : ClaimAction) (amount : Nat) : Nat := min (b.wanted action - grantedTotal action b.claims) amount

/-- A CLAIM (R128). -/
def State.takeClaim (s : State) (van : Node) (serial : Serial) (action : ClaimAction) (amount lifetime : Nat) : State :=
  if s.serves then
    let s := s.touchSession van
    let id : Ident := { node := van, serial := serial }
    match s.bu.claims.find? fun c => decide (c.id = id) with
    | some c => s.originate (.claimAnswer serial c.outcome c.granted) van
    | none =>
      let grant := s.bu.grant action amount
      if 4 ≤ s.bu.claims.length then s.originate (.claimAnswer serial .refusedFull 0) van
      else if grant = 0 then s.originate (.claimAnswer serial .refusedNoNeed 0) van
      else
        let outcome : ClaimOutcome := if grant < amount then .trimmed else .granted
        (s.setClaims (s.bu.claims ++ [{ id := id, action := action, granted := grant, outcome := outcome, lifetime := lifetime,
                                         start := s.timebase }])).originate (.claimAnswer serial outcome grant) van
  else s.originate (.claimAnswer serial .refusedNotAvailable 0) van

/-- The sum of the granted amounts of a van's COLLECT claims (R129). -/
def Bu.collectAllowance (b : Bu) (van : Node) : Nat := grantedTotal .collect (b.claims.filter fun c => decide (c.id.node = van))

/-- A SESSION OPEN (R129). -/
def State.takeSessionOpen (s : State) (van : Node) : State :=
  if s.serves then
    match s.bu.session with
    | none =>
      let allowance := s.bu.collectAllowance van
      (s.setBu { s.bu with
        session := some { van := van, closing := false, allowanceAtOpen := allowance, allowance := allowance, collected := [],
                          expected := [], delivered := [], inFlight := [], recent := [], idleStart := s.timebase },
        summary := none }).originate (.sessionAnswer .opened allowance) van
    | some ss =>
      if ss.van = van ∧ ss.closing = false then
        (s.setSession { ss with recent := [], idleStart := s.timebase }).originate (.sessionAnswer .opened ss.allowance) van
      else (s.touchSession van).originate (.sessionAnswer .busy 0) van
  else s.originate (.sessionAnswer .notAvailable 0) van

/-- The bikes added to the expected-delivery list in the order carried (R132). -/
def expectBikes (expected delivered : List Bike) : List Bike → List Bike
  | [] => expected
  | b :: rest =>
    if b ∈ expected ∨ 24 ≤ expected.length + delivered.length then expectBikes expected delivered rest
    else expectBikes (expected ++ [b]) delivered rest

/-- A DELIVERY NOTE (R132). One from the session's van while the session is CLOSING changes nothing, the idle timer of R133 included:
DESIGN CHOICE, assumption log 70. -/
def State.takeDeliveryNote (s : State) (van : Node) (bikes : List Bike) : State :=
  match s.bu.session with
  | none => s
  | some ss =>
    if ss.van = van ∧ ss.closing = false then
      s.setSession { ss with expected := expectBikes ss.expected ss.delivered bikes, idleStart := s.timebase }
    else s

/-- A SESSION CLOSE that finds no session held for its van: the kept summary again when it is that van's, or NO_SESSION
(R133). -/
def State.closeUnheld (s : State) (van : Node) : State :=
  match s.bu.summary with
  | some k => if k.van = van then s.originate (.sessionSummary k.body) van else s.originate (.sessionAnswer .noSession 0) van
  | none => s.originate (.sessionAnswer .noSession 0) van

/-- A SESSION CLOSE (R133): the session goes to CLOSING, and ends at once when no take is in flight. -/
def State.takeSessionClose (s : State) (van : Node) : State :=
  match s.bu.session with
  | some ss =>
    if ss.van = van then (s.setSession { ss with closing := true, idleStart := s.timebase }).endIfDone else s.closeUnheld van
  | none => s.closeUnheld van

/-! ### Timers of claims and the session -/

/-- CLAIM_EXPIRY (R127): the claim leaves the list unless its van holds the session here. -/
def State.claimExpiry (s : State) (id : Ident) : State :=
  match s.bu.claims.find? fun c => decide (c.id = id) with
  | none => s
  | some c =>
    let s := s.reached (c.start + c.lifetime * 60000)
    if s.bu.session.any fun ss => decide (ss.van = id.node) then s
    else s.setClaims (s.bu.claims.filter fun c => !decide (c.id = id))

/-- SESSION_IDLE_TIMEOUT (R133): the session ends while it is OPEN; the idle timer does not reach 15 minutes while a take is in
flight. -/
def State.sessionIdle (s : State) : State :=
  match s.bu.session with
  | none => s
  | some ss => if ss.closing || !ss.inFlight.isEmpty then s else (s.reached (ss.idleStart + 900000)).endSession ss

def execClaimExpiry (van : Node) (serial : Serial) (s : State) : Host.Outcome State Fault Refusal :=
  .next (if s.running then s.claimExpiry { node := van, serial := serial } else s)

def execSessionIdleTimeout (s : State) : Host.Outcome State Fault Refusal := .next (if s.running then s.sessionIdle else s)

end Sys2Proof.Machine
end

