-- ==== Sys2Proof/Machine/Docks.lean ====
section
/-!
DEFINITION. The dock unit's operations on the dock table and the bike status list (Chapter 3): resting and transient lamps
(R44), settling, releases and their abandonment (R46 to R49, R54), dock faults (R55), and the quarantine and missing parts of
bikes (R60 to R62). The events of the dock bus stand in DockEvents.lean.
-/
namespace Sys2Proof.Machine

/-! ### Entries of the dock table -/

/-- The entry of a dock number; an initial entry for a number outside 1 to 24. -/
def Du.dock (d : Du) (n : Nat) : Dock := if h : 1 ≤ n ∧ n ≤ 24 then d.docks[n - 1] else Dock.initial 0

/-- The entry of a dock number replaced; nothing for a number outside 1 to 24. -/
def Du.setDock (d : Du) (n : Nat) (k : Dock) : Du :=
  if h : 1 ≤ n ∧ n ≤ 24 then { d with docks := d.docks.set (n - 1) k } else d

def State.dock (s : State) (n : Nat) : Dock := s.du.dock n

def State.putDock (s : State) (n : Nat) (k : Dock) : State := s.setDu (s.du.setDock n k)

/-! ### Lamps (R44) -/

/-- The resting pattern of a dock; none where no command is placed (R44). -/
def restingFor (du : Du) (k : Dock) : Option Lamp :=
  match k.state with
  | .empty => some .off
  | .holding => if k.bike.any fun b => du.quarantined b.bike then some .amber else some .off
  | .releasing => some .green
  | .faulted => some .red
  | .disabled => some .off
  | .offline => none

/-- A pattern placed in the lamp slot (R41). -/
def Dock.placeLamp (k : Dock) (p : Lamp) : Dock := { k with lampSlot := some p, lampLast := some p }

/-- The resting pattern placed, where there is one. -/
def Dock.placeResting (k : Dock) : Dock :=
  match k.resting with
  | some p => k.placeLamp p
  | none => k

/-- The resting pattern worked out anew; when it has changed it is placed, unless a transient holds the slot (R44). -/
def Dock.refresh (du : Du) (k : Dock) : Dock :=
  let r := restingFor du k
  if r = k.resting then k
  else if k.transient.isSome then { k with resting := r }
  else Dock.placeResting { k with resting := r }

/-- A transient pattern begun at a moment; it replaces one that is running (R44). -/
def Dock.show (k : Dock) (p : Lamp) (t : Millis) : Dock := { k with transient := some { lamp := p, start := t } }.placeLamp p

/-- The dock moves to a state; entry to RELEASING, FAULTED or OFFLINE ends any transient (R44). -/
def Dock.enter (k : Dock) (st : DockState) : Dock :=
  if st ≠ k.state ∧ (st = .releasing ∨ st = .faulted ∨ st = .offline) then { k with state := st, transient := none }
  else { k with state := st }

/-- The settled state of a dock: the first that applies (R44). -/
def Dock.settledState (k : Dock) : DockState :=
  if k.hostDisabled then .disabled
  else if k.faultMark then .faulted
  else if k.silent then .offline
  else if k.bike.isSome then .holding
  else .empty

def Dock.settle (k : Dock) : Dock := k.enter k.settledState

/-- The release part removed with LOCK placed in the lock slot, and the dock moved on. -/
def Dock.endRelease (k : Dock) (st : DockState) : Dock := Dock.enter { k with release := none, lockSlot := some .lock } st

/-! ### Changes announced to the BU (R63) -/

/-- The BU recomputes its need when a count has changed from what it was before (R63). -/
def State.announced (s before : State) : State :=
  if s.countA = before.countA ∧ s.countQd = before.countQd ∧ s.countW = before.countW then s else s.recomputeNeed

/-- A dock changed: its resting lamp follows, and changed counts are announced. -/
def State.updateDock (s : State) (n : Nat) (f : Dock → Dock) : State :=
  (s.putDock n ((f (s.dock n)).refresh s.du)).announced s

/-- The bike status list changed: the resting lamps of docks follow, and changed counts are announced (R60). -/
def State.setBikes (s : State) (bikes : List BikeStatus) (drops : Nat) : State :=
  let du := { s.du with bikes := bikes, statusDrops := drops }
  (s.setDu { du with docks := du.docks.map (Dock.refresh du) }).announced s

/-! ### Releases (R46, R47, R54) -/

/-- A dock in HOLDING is released for a purpose: the release part, UNLOCK in the lock slot, and RELEASING (R46, R47). -/
def State.release (s : State) (n : Nat) (purpose : Purpose) (card : Option CardRecord) : State :=
  s.updateDock n fun k =>
    Dock.enter { k with release := some { purpose := purpose, card := card, start := s.timebase }, lockSlot := some .unlock }
      .releasing

/-- The dock's release has this purpose. -/
def Dock.releasesFor (k : Dock) (p : Purpose) : Bool := k.release.any fun r => decide (r.purpose = p)

/-- A release in force is abandoned and the dock moves to a state: LOCK is placed, and the BU is told of a VAN release (R54). A
dock with no release in force is left as it is. -/
def State.abandonRelease (s : State) (n : Nat) (st : DockState) : State :=
  if (s.dock n).state = .releasing then
    let s1 := s.updateDock n fun k => k.endRelease st
    if (s.dock n).releasesFor .van then s1.releaseLapsed n else s1
  else s

/-- A dock fault raised (R55): the mark is set, a release in force is abandoned, and a dock in EMPTY, HOLDING or RELEASING moves
to FAULTED. -/
def State.dockFaultRaised (s : State) (n : Nat) : State :=
  let s1 := s.updateDock n fun k => { k with faultMark := true }
  match (s.dock n).state with
  | .releasing => s1.abandonRelease n .faulted
  | .empty | .holding => s1.updateDock n fun k => k.enter .faulted
  | .faulted | .offline | .disabled => s1

/-- The dock's faults cleared (R55): the mark and the untaken-release count are cleared, and a FAULTED dock is settled. -/
def State.dockFaultsCleared (s : State) (n : Nat) : State :=
  s.updateDock n fun k =>
    if k.state = .faulted then Dock.settle { k with faultMark := false, untaken := 0 }
    else { k with faultMark := false, untaken := 0 }

/-! ### The bike status list (R60 to R62) -/

/-- The list with room for a new entry: from a full list the oldest entry with only its missing part is removed, or the oldest
of all (R62). -/
def roomForBike (l : List BikeStatus) : List BikeStatus :=
  if l.length < 64 then l
  else if l.any fun e => e.quarantine.isNone then l.eraseP fun e => e.quarantine.isNone
  else l.drop 1

/-- The bike's entry changed in place, or a new entry made at the end of the order (R60, R62). -/
def State.setBikePart (s : State) (b : Bike) (f : BikeStatus → BikeStatus) : State :=
  if s.du.bikes.any fun e => decide (e.bike = b) then
    s.setBikes (updateFirst (fun e => decide (e.bike = b)) f s.du.bikes) s.du.statusDrops
  else
    s.setBikes (roomForBike s.du.bikes ++ [f { bike := b, quarantine := none, missing := none }])
      (if s.du.bikes.length < 64 then s.du.statusDrops else saturate 65535 s.du.statusDrops)

/-- A part removed from the bike's entry; an entry left with neither part is removed (R60). -/
def State.clearBikePart (s : State) (b : Bike) (f : BikeStatus → BikeStatus) : State :=
  s.setBikes
    ((updateFirst (fun e => decide (e.bike = b)) f s.du.bikes).filter fun e =>
      !decide (e.bike = b) || e.quarantine.isSome || e.missing.isSome)
    s.du.statusDrops

/-- The missing part of a bike set, with its owner and since-time (R60). -/
def State.setMissing (s : State) (b : Bike) (owner : Node) (since : Time) : State :=
  s.setBikePart b fun e => { e with missing := some { owner := owner, since := since } }

/-- The missing part of a bike removed (R60). -/
def State.removeMissing (s : State) (b : Bike) : State := s.clearBikePart b fun e => { e with missing := none }

/-- The quarantine part of a bike removed (R60). -/
def State.removeQuarantine (s : State) (b : Bike) : State := s.clearBikePart b fun e => { e with quarantine := none }

/-- The dock numbers, in dock order. -/
def dockNumbers : List Nat := (List.range 24).map (· + 1)

/-- The dock records the bike. -/
def Dock.records (k : Dock) (b : Bike) : Bool := k.bike.any fun x => decide (x.bike = b)

/-- A member release of a bike that has become quarantined is abandoned (R61). -/
def State.abandonForQuarantine (s : State) (b : Bike) (n : Nat) : State :=
  if (s.dock n).state = .releasing ∧ (s.dock n).releasesFor .member ∧ (s.dock n).records b then
    s.updateDock n fun k =>
      Dock.show { k.endRelease .holding with lastRefusal := some .bikeQuarantined } .red s.timebase
  else s

/-- The quarantine part of a bike set, with its fault identity and severity (R60), and a member release of the bike abandoned
(R61). -/
def State.setQuarantine (s : State) (b : Bike) (id : Ident) (severity : Nat) : State :=
  dockNumbers.foldl (fun s n => s.abandonForQuarantine b n)
    (s.setBikePart b fun e => { e with quarantine := some { id := id, severity := severity } })

/-- The dock, other than the given one, at which a bike is recorded (R51, R64); of several, the one with the lowest number: DESIGN
CHOICE, assumption log 56. -/
def State.dockOf (s : State) (b : Bike) (except : Nat) : Option Nat :=
  dockNumbers.find? fun n => decide (n ≠ except) && (s.dock n).records b

/-! ### Sessions at the docks (R130) -/

/-- The outcome of a TAKE REQUEST that no recent answer covers (R130). -/
def State.takeOutcome (s : State) (van : Node) (d : Nat) : TakeOutcome :=
  match s.bu.session with
  | none => .refusedNoSession
  | some ss =>
    if ss.van ≠ van ∨ ss.closing then .refusedNoSession
    else if s.dockConfigured d ∧ (s.dock d).state = .releasing then .refusedBusy
    else if ¬ s.dockConfigured d ∨ (s.dock d).state ≠ .holding then .refusedEmpty
    else if 24 ≤ ss.collected.length + ss.inFlight.length then .refusedSessionFull
    else if !((s.dock d).bike.any fun b => s.du.quarantined b.bike) ∧ ss.allowance - ss.inFlight.countP (·.counted) = 0 then
      .refusedAllowance
    else .granted

/-- A TAKE REQUEST (R130): a repeat is answered from the recent take list; a grant records a take in flight and has the DU
release the dock. -/
def State.takeTakeRequest (s : State) (van : Node) (request : Serial) (d : Nat) : State :=
  match s.bu.session with
  | none => s.originate (.takeAnswer request .refusedNoSession) van
  | some ss =>
    if ss.van ≠ van then s.originate (.takeAnswer request .refusedNoSession) van
    else
      match ss.recent.find? fun r => decide (r.request = request) with
      | some r => (s.touchSession van).originate (.takeAnswer request r.answer) van
      | none =>
        match s.takeOutcome van d with
        | .refusedNoSession => (s.touchSession van).originate (.takeAnswer request .refusedNoSession) van
        | .granted =>
          let counted := !((s.dock d).bike.any fun b => s.du.quarantined b.bike)
          let s1 := s.setSession { ss with
            inFlight := ss.inFlight ++ [{ dock := d, request := request, counted := counted }],
            recent := pushBounded 8 ss.recent { request := request, dock := d, answer := .granted },
            idleStart := s.timebase }
          (s1.release d .van none).originate (.takeAnswer request .granted) van
        | outcome =>
          (s.setSession { ss with recent := pushBounded 8 ss.recent { request := request, dock := d, answer := outcome },
                                  idleStart := s.timebase }).originate (.takeAnswer request outcome) van

end Sys2Proof.Machine
end

