-- ==== Sys2Proof/Machine/Faults.lean ====
section
/-!
DEFINITION. The fault unit (Chapter 6): reports and their merging (R111 to R113), quarantine, dock faults and flooding (R114,
R115), notices heard from peers (R116, R119) and clearing (R118, R120). The host's requests on faults stand in
FaultRequests.lean.
-/
namespace Sys2Proof.Machine

/-- A report of a fault (R111): a member report states no severity and may name a card. -/
structure FaultReport where
  subject : Subject
  kind : FaultKind
  severity : Option Nat
  card : Option Card
  deriving DecidableEq, Repr

/-- The answer to a report (R121): the entry's identity, whether it is new and its severity, or no room. -/
inductive ReportResult where
  | taken (id : Ident) (isNew : Bool) (severity : Nat)
  | full
  deriving DecidableEq, Repr

/-- The state is OPEN or COLLECTED (R112). -/
def FaultEntry.live (e : FaultEntry) : Bool := !decide (e.state = .cleared)

/-- The entry a report on this subject and kind merges into (R112). -/
def FaultEntry.matches (e : FaultEntry) (subject : Subject) (kind : FaultKind) : Bool :=
  e.live && decide (e.subject = subject) && decide (e.kind = kind)

/-- A reporter card joins when it is not listed and fewer than 3 are (R112). -/
def addReporter (cards : List Card) : Option Card → List Card
  | none => cards
  | some c => if c ∈ cards ∨ 3 ≤ cards.length then cards else cards ++ [c]

/-- The entry after a report has merged into it (R112). A report that states no severity is a member report, whose reporter cards
warrant one severity each, up to 3. -/
def FaultEntry.merged (e : FaultEntry) (severity : Option Nat) (card : Option Card) (now : Time) : FaultEntry :=
  let cards := addReporter e.cards card
  { e with
    count := min 15 (e.count + 1), last := now, cards := cards,
    severity := match severity with
      | some v => max e.severity v
      | none => max e.severity (min 3 cards.length) }

/-- The log with room for a new entry: a full log loses its oldest CLEARED entry, or its oldest entry of severity 1; none when
it has neither (R113). -/
def roomForFault (log : List FaultEntry) : Option (List FaultEntry) :=
  if log.length < 32 then some log
  else if log.any fun e => !e.live then some (log.eraseP fun e => !e.live)
  else if log.any fun e => decide (e.severity = 1) then some (log.eraseP fun e => decide (e.severity = 1))
  else none

/-- A new entry (R113). -/
def newFault (id : Ident) (subject : Subject) (kind : FaultKind) (severity : Nat) (card : Option Card) (now : Time) : FaultEntry :=
  { id := id, subject := subject, kind := kind, severity := severity, count := 1, cards := card.toList, first := now, last := now,
    state := .opened }

/-- The identity the next local entry takes (R110). -/
def State.nextFaultId (s : State) : Ident := { node := s.node, serial := s.flt.serial }

/-- The fault serial counter advanced and its slot marked (R110). -/
def State.useFaultSerial (s : State) : State := (s.setFlt { s.flt with serial := nextSerial s.flt.serial }).mark .counters

def State.setLog (s : State) (log : List FaultEntry) : State := s.setFlt { s.flt with log := log }

/-- A rise of severity to 2 or more, or from 2 to 3: a FAULT note is posted and the FAULT cause raised (R114, R115). -/
def State.noteRise (s : State) (e : FaultEntry) : State :=
  (s.postNote (.fault e.id e.subject e.kind e.severity)).raise .fault

/-- What follows a report taken into an entry, `old` being the severity before it, 0 for a new entry (R114, R115). The DU takes the
quarantine part or the dock fault, with the releases it abandons, before the FAULT note is posted: DESIGN CHOICE, assumption log 66. -/
def State.faultEffects (s : State) (e : FaultEntry) (old : Nat) : State :=
  match e.subject with
  | .bike b =>
    if 2 ≤ e.severity then
      let s1 := s.setQuarantine b e.id e.severity
      if old < e.severity then (s1.flood (.fault e.id b e.kind e.severity)).noteRise e else s1
    else s
  | .dock d =>
    if 2 ≤ e.severity then
      let s1 := if e.kind = .postSilent then s else s.dockFaultRaised d
      if old < e.severity then s1.noteRise e else s1
    else s
  | .station => s

/-- The effects a refused report still has (R113). -/
def State.refusedEffects (s : State) (subject : Subject) (kind : FaultKind) (severity : Nat) : State :=
  match subject with
  | .bike b => if severity = 3 then (s.useFaultSerial).setQuarantine b s.nextFaultId 3 else s
  | .dock d => if 2 ≤ severity ∧ kind ≠ .postSilent then s.dockFaultRaised d else s
  | .station => s

/-- A report taken by the FLT: it merges (R112), makes a new entry (R113) or is refused, and the severity effects follow. -/
def State.reportFault (s : State) (r : FaultReport) : State × ReportResult :=
  match s.flt.log.find? fun e => e.matches r.subject r.kind with
  | some e =>
    let e' := e.merged r.severity r.card s.now
    let s1 := s.setLog (updateFirst (fun e => e.matches r.subject r.kind) (fun e => e.merged r.severity r.card s.now) s.flt.log)
    (s1.faultEffects e' e.severity, .taken e'.id false e'.severity)
  | none =>
    let severity := r.severity.getD 1
    match roomForFault s.flt.log with
    | some log =>
      let e := newFault s.nextFaultId r.subject r.kind severity r.card s.now
      let s1 := (s.setLog (log ++ [e])).useFaultSerial
      (s1.faultEffects e 0, .taken e.id true severity)
    | none =>
      ((s.setFlt { s.flt with drops := saturate 65535 s.flt.drops }).refusedEffects r.subject r.kind severity, .full)

/-- A report whose source asks for no answer. -/
def State.report (s : State) (subject : Subject) (kind : FaultKind) (severity : Nat) : State :=
  (s.reportFault { subject := subject, kind := kind, severity := some severity, card := none }).1

/-- A member report on a bike (R53, R111). -/
def State.memberReport (s : State) (b : Bike) (card : Option Card) : State :=
  (s.reportFault { subject := .bike b, kind := .reported, severity := none, card := card }).1

/-! ### Notices from peers -/

/-- A FAULT notice (R116): the first of its four cases that applies. A notice taken again, its identity gone from the seen list, that
meets the third case merges again: DESIGN CHOICE, assumption log 61. -/
def State.takeFault (s : State) (id : Ident) (b : Bike) (kind : FaultKind) (severity : Nat) : State :=
  if s.flt.log.any fun e => decide (e.id = id) && !e.live then s
  else
    match s.flt.log.find? fun e => decide (e.id = id) with
    | some e =>
      let raised := max e.severity severity
      (s.setLog (updateFirst (fun e => decide (e.id = id)) (fun e => { e with severity := max e.severity severity })
        s.flt.log)).setQuarantine b id raised
    | none =>
      match s.flt.log.find? fun e => e.matches (.bike b) kind with
      | some e =>
        (s.setLog (updateFirst (fun e => e.matches (.bike b) kind) (fun e => e.merged (some severity) none s.now)
          s.flt.log)).setQuarantine b e.id (max e.severity severity)
      | none =>
        match roomForFault s.flt.log with
        | some log => (s.setLog (log ++ [newFault id (.bike b) kind severity none s.now])).setQuarantine b id severity
        | none => (s.setFlt { s.flt with drops := saturate 65535 s.flt.drops }).setQuarantine b id severity

/-- A FAULT CLEAR notice (R119). -/
def State.takeFaultClear (s : State) (b : Bike) (clearedAt : Time) : State :=
  let s1 := s.setLog (s.flt.log.map fun e =>
    if e.subject = .bike b ∧ e.live ∧ e.first ≤ clearedAt + 120 then { e with state := .cleared } else e)
  if s1.flt.log.any fun e => decide (e.subject = .bike b) && e.live && decide (2 ≤ e.severity) then s1
  else s1.removeQuarantine b

/-! ### Clearing here -/

/-- Every OPEN or COLLECTED entry of a subject marked CLEARED (R118). -/
def clearSubject (subject : Subject) (log : List FaultEntry) : List FaultEntry :=
  log.map fun e => if e.subject = subject then { e with state := .cleared } else e

/-- The number of entries a clearing marks (R118). -/
def liveCount (subject : Subject) (log : List FaultEntry) : Nat := log.countP fun e => decide (e.subject = subject) && e.live

/-- CLEAR FAULT on a subject in range (R118). -/
def State.clearFaultsOf (s : State) (subject : Subject) : State :=
  let s1 := s.setLog (clearSubject subject s.flt.log)
  match subject with
  | .bike b => (s1.removeQuarantine b).flood (.faultClear b s.now)
  | .dock d => s1.dockFaultsCleared d
  | .station => s1

/-- The post of a dock is heard again: its POST_SILENT entries are marked CLEARED (R58, R120). -/
def State.clearPostSilent (s : State) (d : Nat) : State :=
  s.setLog (s.flt.log.map fun e =>
    if e.subject = .dock d ∧ e.kind = .postSilent then { e with state := .cleared } else e)

end Sys2Proof.Machine
end

