-- ==== Sys2Proof/Machine/Flags.lean ====
section
/-!
DEFINITION. The fare computation in its nine stages with the eight flags it can set (Chapter 5), and the day spend table it
reads and adds to (R98).
-/
namespace Sys2Proof.Machine

/-- The question the HU asks the FU (R100). -/
structure FareQuestion where
  terms : BandTerms
  classTerms : ClassSnapshot
  start : Time
  endTime : Time
  /-- the end node is the start node -/
  endsHere : Bool
  /-- the question is a late close (R85) -/
  late : Bool
  endGrade : Nat
  ownGrade : Nat
  /-- the hire's STEPPED flag; never set for a late close (R100) -/
  stepped : Bool
  /-- Z, the max hire time of the running image, in minutes -/
  maxHire : Nat
  /-- the card's spent amount (R104) -/
  spent : Cents
  deriving DecidableEq, Repr

/-- The FU's answer (R100, R106); `capped` is what the charge adds to the day spend table. -/
structure Fare where
  outcome : HireOutcome
  minutes : Nat
  amount : Cents
  flags : FareFlags
  capped : Cents
  deriving DecidableEq, Repr

/-- A divided by b, rounded up. -/
def ceilDiv (a b : Nat) : Nat := (a + b - 1) / b

/-- The raw duration of Stage 1, a signed difference (R101). -/
def FareQuestion.rawDuration (q : FareQuestion) : Int := (q.endTime : Int) - (q.start : Int)

/-- The SKEW flag: the raw duration is below 0 (R101). -/
def FareQuestion.skew (q : FareQuestion) : Bool := decide (q.rawDuration < 0)

/-- The CLAMPED flag: the raw duration is above Z × 60 (R101). -/
def FareQuestion.clamped (q : FareQuestion) : Bool := decide ((q.maxHire * 60 : Nat) < q.rawDuration)

/-- Stage 1: the duration D in seconds (R101). -/
def FareQuestion.duration (q : FareQuestion) : Nat := min q.rawDuration.toNat (q.maxHire * 60)

/-- Stage 2: the started minutes M (R102). -/
def FareQuestion.minutes (q : FareQuestion) : Nat := ceilDiv q.duration 60

/-- Stage 3: the ride is a false start (R102). -/
def FareQuestion.falseStart (q : FareQuestion) : Bool := decide (q.minutes ≤ q.terms.grace) && q.endsHere && !q.late

/-- Stage 4: the usage charge (R103). -/
def FareQuestion.usage (q : FareQuestion) : Cents :=
  q.terms.unlock + ceilDiv (q.minutes - q.terms.free) q.terms.block * q.terms.price

/-- Stage 5: the class's share, half a cent rounded up (R103). -/
def FareQuestion.adjusted (q : FareQuestion) : Cents := (q.usage * q.classTerms.percent + 50) / 100

/-- Stage 6: the ride charge (R103). -/
def FareQuestion.ride (q : FareQuestion) : Cents := min q.adjusted q.terms.cap

/-- The RIDE_CAP flag of Stage 6. -/
def FareQuestion.rideCapped (q : FareQuestion) : Bool := decide (q.terms.cap < q.adjusted)

/-- The room left under the day cap (R104). -/
def FareQuestion.room (q : FareQuestion) : Cents := q.classTerms.dayCap - q.spent

/-- Stage 7: the capped ride charge (R104). -/
def FareQuestion.cappedRide (q : FareQuestion) : Cents := min q.ride q.room

/-- The DAY_CAP flag of Stage 7. -/
def FareQuestion.dayCapped (q : FareQuestion) : Bool := decide (q.room < q.ride)

/-- The LATE flag: M exceeds H and late fees are not waived (R105). -/
def FareQuestion.isLate (q : FareQuestion) : Bool := decide (q.terms.lateAfter < q.minutes) && !q.classTerms.waived

/-- Stage 8: the late surcharge (R105). -/
def FareQuestion.surcharge (q : FareQuestion) : Cents :=
  if q.isLate then q.terms.lateFee * ceilDiv (q.minutes - q.terms.lateAfter) 60 else 0

/-- The CLOCK_UNSURE flag of Stage 9: the end grade or the own grade is 7 (R106). -/
def FareQuestion.clockUnsure (q : FareQuestion) : Bool := decide (q.endGrade = 7) || decide (q.ownGrade = 7)

/-- The fare of a hire (R101 to R106). A false start skips Stages 4 to 8. -/
def priceHire (q : FareQuestion) : Fare :=
  if q.falseStart then
    { outcome := .falseStart, minutes := q.minutes, amount := 0, capped := 0,
      flags := { skew := q.skew, clamped := q.clamped, falseStart := true, rideCap := false, dayCap := false, late := false,
                 clockUnsure := q.clockUnsure, stepped := q.stepped && !q.late } }
  else
    { outcome := .charged, minutes := q.minutes, amount := q.cappedRide + q.surcharge, capped := q.cappedRide,
      flags := { skew := q.skew, clamped := q.clamped, falseStart := false, rideCap := q.rideCapped, dayCap := q.dayCapped,
                 late := q.isLate, clockUnsure := q.clockUnsure, stepped := q.stepped && !q.late } }

/-! ### The day spend table (R98) -/

/-- The amount a card has spent today; a card with no entry has spent 0 (R98). -/
def spentBy (table : List DaySpend) (card : Card) : Cents :=
  ((table.find? fun e => decide (e.card = card)).map (·.spent)).getD 0

/-- The least amount of the entries. -/
def leastSpent : List DaySpend → Cents
  | [] => 0
  | [e] => e.spent
  | e :: rest => min e.spent (leastSpent rest)

/-- An amount added to a card's spend (R98). -/
def addSpend (table : List DaySpend) (card : Card) (amount : Cents) : List DaySpend :=
  if amount = 0 then table
  else if table.any fun e => decide (e.card = card) then
    updateFirst (fun e => decide (e.card = card)) (fun e => { e with spent := e.spent + amount }) table
  else if table.length < 32 then table ++ [{ card := card, spent := amount }]
  else table.eraseP (fun e => decide (e.spent = leastSpent table)) ++ [{ card := card, spent := amount }]

end Sys2Proof.Machine
end

