-- ==== Sys2Proof/Machine/Hires.lean ====
section
/-!
DEFINITION. The hire unit (Chapter 4): the hold list, the checkout decision, owned and heard hires, arrivals, closes and
settlements between stations, overdue conversion and late closes, and what a step of station time does to owned hires. The
kiosk requests on cards stand in CardRequests.lean.
-/
namespace Sys2Proof.Machine

/-! ### The hold list (R66 to R69) -/

def State.setHolds (s : State) (holds : List Hold) : State := s.setHu { s.hu with holds := holds }

def Hold.isFor (h : Hold) (card : Card) (reason : HoldReason) : Bool := decide (h.card = card) && decide (h.reason = reason)

/-- A full hold list loses its oldest entry, which is counted and marked (R66). -/
def State.roomForHold (s : State) : State :=
  match s.hu.holds with
  | h :: rest =>
    if s.hu.holds.length < 256 then s
    else (s.setHu { s.hu with holds := rest, holdsDisplaced := saturate 65535 s.hu.holdsDisplaced }).mark (.hold h.slot)
  | [] => s

/-- A new hold entry at the end of the order, in the lowest free slot of its region, marked (R66, R154). -/
def State.makeHold (s : State) (card : Card) (reason : HoldReason) (id : Ident) : State :=
  let s1 := s.roomForHold
  let slot := (lowestFree 256 (s1.hu.holds.map (·.slot))).getD 0
  (s1.setHolds (s1.hu.holds ++ [{ card := card, reason := reason, id := id, placed := s1.now, slot := slot }])).mark (.hold slot)

/-- A held entry refreshed: it keeps its place and identity, and its placed time becomes now (R66). -/
def State.refreshHold (s : State) (h : Hold) : State :=
  (s.setHolds (updateFirst (fun x => x.isFor h.card h.reason) (fun x => { x with placed := s.now }) s.hu.holds)).mark
    (.hold h.slot)

/-- The next hold serial taken, with this node as origin (R67). -/
def State.nextHoldId (s : State) : Ident := { node := s.node, serial := s.hu.holdSerial }

def State.useHoldSerial (s : State) : State := (s.setHu { s.hu with holdSerial := nextSerial s.hu.holdSerial }).mark .counters

/-- A hold placed here, by HOLD CARD or by overdue conversion: the entry made or refreshed, and a CARD HOLD flooded (R67, R87).
Also the entry's identity and whether it is new. -/
def State.placeHold (s : State) (card : Card) (reason : HoldReason) : State × Ident × Bool :=
  match s.hu.holds.find? fun h => h.isFor card reason with
  | some h => ((s.refreshHold h).flood (.cardHold h.id card reason), h.id, false)
  | none => ((s.useHoldSerial.makeHold card reason s.nextHoldId).flood (.cardHold s.nextHoldId card reason), s.nextHoldId, true)

/-- A CARD HOLD notice (R69). -/
def State.takeCardHold (s : State) (id : Ident) (card : Card) (reason : HoldReason) : State :=
  match s.hu.holds.find? fun h => h.isFor card reason with
  | some h => s.refreshHold h
  | none => s.makeHold card reason id

/-- A hold matches a card and a reason, or the card alone when the reason is ALL (R68). -/
def Hold.liftedBy (h : Hold) (card : Card) (reason : Option HoldReason) : Bool :=
  decide (h.card = card) && reason.all fun r => decide (h.reason = r)

/-- Every matching entry removed, and each removal marked (R68, R69), in the order of the list: DESIGN CHOICE, assumption log 62. -/
def State.liftHolds (s : State) (card : Card) (reason : Option HoldReason) : State :=
  let s1 := s.setHolds (s.hu.holds.filter fun h => !h.liftedBy card reason)
  (s.hu.holds.filter fun h => h.liftedBy card reason).foldl (fun s h => s.mark (.hold h.slot)) s1

/-! ### The checkout decision (R70, R71) -/

/-- The money slots in use, counted by the SQ (R71). -/
def Sq.moneyInUse (q : Sq) : Nat := q.queue.countP (·.isMoney) + q.leaving.length

/-- The capacity test fails (R71). -/
def State.atCapacity (s : State) : Bool :=
  decide (64 ≤ s.sq.moneyInUse + s.hu.owned.length + s.du.memberReleases) ||
    decide (48 ≤ s.hu.owned.length + s.du.memberReleases)

/-- The entry of the class table for a class (R94). -/
def Fu.classTerms (f : Fu) (c : CardClass) : ClassTerms :=
  f.classes.toList[codeIn cardClasses c]?.getD (ClassTerms.default c)

/-- The open hires of a card, owned and heard (R70, check 5). -/
def Hu.openHires (h : Hu) (card : Card) : Nat :=
  h.owned.countP (fun o => decide (o.fields.card = card)) + h.heard.countP (fun e => decide (e.card = card))

/-- Some dock is RELEASING for a member with a pending card of this number (R70, check 6). -/
def Du.pendingFor (d : Du) (card : Card) : Bool :=
  d.docks.toList.any fun k => decide (k.state = .releasing) && k.release.any fun r =>
    decide (r.purpose = .member) && r.card.any fun c => decide (c.card = card)

/-- The checkout decision: the reason of the first failing check, or none for a grant (R70). -/
def State.checkout (s : State) (d : Nat) (c : CardRecord) : Option Refused :=
  if s.sup.start ≠ .run ∨ s.sup.supply = .critical then some .notReady
  else if s.clk.closed then some .closed
  else if dateBefore c.validUntil (dateOf s.now) then some .cardInvalid
  else if s.hu.holds.any fun h => decide (h.card = c.card) then some .cardHeld
  else if (s.fu.classTerms c.cls).hireLimit ≤ s.hu.openHires c.card then some .hireLimit
  else if s.du.pendingFor c.card ∨ (s.dock d).state ≠ .holding then some .dockBusy
  else if (s.dock d).bike.any fun b => s.du.quarantined b.bike then some .bikeQuarantined
  else if s.atCapacity then some .capacity
  else none

/-! ### Opening a hire (R72 to R74) -/

def State.setOwned (s : State) (owned : List OwnedHire) : State := s.setHu { s.hu with owned := owned }

/-- The band table's entry of a band (R93). -/
def Fu.bandTerms (f : Fu) (band : Nat) : BandTerms := f.bands.toList[band]?.getD BandTerms.default

/-- The class terms a hire copies (R72). -/
def ClassTerms.snapshot (c : ClassTerms) : ClassSnapshot := { percent := c.percent, dayCap := c.dayCap, waived := c.waived }

/-- A completed member release opens a hire (R74). A bike recorded at two docks (assumption log 20) and released to members from both
opens two hires, the second beside the first: DESIGN CHOICE, assumption log 69. -/
def State.openHire (s : State) (d : Nat) (b : Bike) (c : CardRecord) : State :=
  let fields : OwnedFields :=
    { serial := s.hu.hireSerial, card := c.card, cls := c.cls, bike := b, dock := d, start := s.now, band := s.clk.band,
      terms := s.fu.bandTerms s.clk.band, classTerms := (s.fu.classTerms c.cls).snapshot, stepped := false }
  let slot := (lowestFree 48 (s.hu.owned.map (·.slot))).getD 0
  let s1 := ((s.setHu { s.hu with
    owned := s.hu.owned ++ [{ fields := fields, durable := false, slot := slot }],
    hireSerial := nextSerial s.hu.hireSerial }).mark .counters).mark (.owned slot)
  (s1.flood (.hireOpen { node := s.node, serial := fields.serial } c.card c.cls b s.now d)).countActivity true

/-! ### The settled list and closes (R78, R82, R85) -/

def State.setSettled (s : State) (l : List SettledHire) : State := s.setHu { s.hu with settled := l }

/-- A settled list entry made of an owned record (R82). -/
def State.pushSettled (s : State) (o : OwnedFields) (ending : Option (Node × Time)) (outcome : HireOutcome) : State :=
  s.setSettled (pushBounded 32 s.hu.settled
    { hire := { node := s.node, serial := o.serial }, bike := o.bike, card := o.card, start := o.start, terms := o.terms,
      classTerms := o.classTerms, ending := ending, outcome := outcome })

/-- The fare question of an owned hire (R100). -/
def State.questionOf (s : State) (o : OwnedFields) (endTime : Time) (endNode : Node) (endGrade : Nat) : FareQuestion :=
  { terms := o.terms, classTerms := o.classTerms, start := o.start, endTime := endTime, endsHere := decide (endNode = s.node),
    late := false, endGrade := endGrade, ownGrade := s.clk.dom.grade, stepped := o.stepped, maxHire := s.sup.image.maxHire,
    spent := spentBy s.fu.spend o.card }

/-- An owned hire ended, here or at another station, in the order of R78: the fare is computed and the card's spend added to, a
CHARGE is posted, a settled entry is made, the record is removed and its slot marked, and HIRE SETTLED is flooded. -/
def State.closeOwned (s : State) (h : OwnedHire) (endTime : Time) (endNode : Node) (endGrade : Nat) : State :=
  let o := h.fields
  let fare := priceHire (s.questionOf o endTime endNode endGrade)
  let hire : Ident := { node := s.node, serial := o.serial }
  let s1 := s.setFu { s.fu with spend := addSpend s.fu.spend o.card fare.capped }
  let s2 := s1.postMoney (.charge hire o.card o.cls o.bike o.start endTime endNode fare.minutes o.band fare.amount fare.flags) h.slot
  let s3 := s2.pushSettled o (some (endNode, endTime)) fare.outcome
  let s4 := (s3.setOwned (s3.hu.owned.filter fun x => !decide (x.fields.serial = o.serial))).mark (.owned h.slot)
  s4.flood (.hireSettled hire o.bike endNode endTime fare.outcome)

/-- The last entry with the property, changed. -/
def updateLast {α : Type} (p : α → Bool) (f : α → α) (l : List α) : List α := (updateFirst p f l.reverse).reverse

/-- An OVERDUE settled entry of the bike that has no end yet (R84, R85). -/
def SettledHire.awaitsReturn (e : SettledHire) (b : Bike) : Bool :=
  decide (e.bike = b) && decide (e.outcome = .overdue) && e.ending.isNone

/-- A late close of the most recent settled entry with the property (R85), in its order. -/
def State.lateClose (s : State) (e : SettledHire) (p : SettledHire → Bool) (endTime : Time) (endNode : Node) (endGrade : Nat) :
    State :=
  let fare := priceHire
    { terms := e.terms, classTerms := e.classTerms, start := e.start, endTime := endTime, endsHere := decide (endNode = s.node),
      late := true, endGrade := endGrade, ownGrade := s.clk.dom.grade, stepped := false, maxHire := s.sup.image.maxHire,
      spent := spentBy s.fu.spend e.card }
  let s1 := s.postNote (.lateReturn e.hire e.card e.bike endNode endTime fare.amount)
  let s2 := s1.setSettled
    (updateLast p (fun x => { x with ending := some (endNode, endTime), outcome := .late }) s1.hu.settled)
  let s3 := s2.flood (.hireSettled e.hire e.bike endNode endTime .late)
  let s4 := s3.removeMissing e.bike
  if s4.hu.settled.any fun x => decide (x.card = e.card) && decide (x.outcome = .overdue) && x.ending.isNone then s4
  else (s4.liftHolds e.card (some .overdue)).flood (.cardLift e.card (some .overdue))

/-! ### The pending-close list (R81) -/

def State.setPendingClose (s : State) (l : List PendingClose) : State := s.setHu { s.hu with pendingClose := l }

def PendingClose.isFor (p : PendingClose) (b : Bike) (endTime : Time) : Bool := decide (p.bike = b) && decide (p.endTime = endTime)

/-- A pending-close entry made, its first send counted; a full list first loses its oldest entry with an UNSETTLED_RETURN note.
An entry of the same bike and end time gives way (assumption log 12). -/
def State.makePendingClose (s : State) (b : Bike) (hire : Option Ident) : State :=
  let entry : PendingClose :=
    { bike := b, endTime := s.now, endGrade := s.clk.dom.grade, hire := hire, repeats := 0, timerStart := s.timebase }
  let others := s.hu.pendingClose.filter fun p => !p.isFor b s.now
  match others with
  | oldest :: rest =>
    if others.length < 16 then s.setPendingClose (others ++ [entry])
    else (s.setPendingClose (rest ++ [entry])).postNote (.unsettledReturn oldest.bike oldest.endTime)
  | [] => s.setPendingClose [entry]

/-- A pending-close repeat timer has reached 120 s (R81): a fresh HIRE CLOSE, or after five sends an UNSETTLED_RETURN note. -/
def State.repeatClose (s : State) (b : Bike) (endTime : Time) : State :=
  match s.hu.pendingClose.find? fun p => p.isFor b endTime with
  | none => s
  | some p =>
    let s := s.reached (p.timerStart + 120000)
    if p.repeats < 4 then
      (s.setPendingClose (updateFirst (fun p => p.isFor b endTime)
        (fun p => { p with repeats := p.repeats + 1, timerStart := s.timebase }) s.hu.pendingClose)).flood
        (.hireClose p.bike p.endTime p.endGrade p.hire)
    else
      (s.setPendingClose (s.hu.pendingClose.eraseP fun p => p.isFor b endTime)).postNote (.unsettledReturn p.bike p.endTime)

/-! ### Arrivals (R77 to R80) -/

def State.setHeard (s : State) (l : List HeardHire) : State := s.setHu { s.hu with heard := l }

/-- The heard hire entry of a bike removed (R77). -/
def State.forgetHeard (s : State) (b : Bike) : State := s.setHeard (s.hu.heard.filter fun e => !decide (e.bike = b))

/-- The owned record that holds a bike. -/
def State.ownedOf (s : State) (b : Bike) : Option OwnedHire := s.hu.owned.find? fun o => decide (o.fields.bike = b)

/-- A return without an owned hire, at a dock, and the card the DU is answered (R79). -/
def State.returnHere (s : State) (d : Nat) (b : Bike) : State × Option Card :=
  let entry := s.hu.heard.find? fun e => decide (e.bike = b)
  let hire := entry.map (·.hire)
  let s1 := (s.forgetHeard b).postNote (.returned b d s.now hire)
  let s2 := s1.flood (.hireClose b s.now s.clk.dom.grade hire)
  ((s2.makePendingClose b hire).countActivity false, entry.map (·.card))

/-- The DU hands the HU an arrival (R77): the part's state after it, and the card of the hire it ended. -/
def State.arrival (s : State) (d : Nat) (b : Bike) (startUp : Bool) : State × Option Card :=
  match s.ownedOf b with
  | some o =>
    let s1 := ((s.forgetHeard b).closeOwned o s.now s.node s.clk.dom.grade)
    (if startUp then s1 else s1.countActivity false, some o.fields.card)
  | none =>
    if startUp then (s.forgetHeard b, none)
    else
      match s.delivery b with
      | some s1 => (s1.forgetHeard b, none)
      | none =>
        match findLast (fun e => e.awaitsReturn b) s.hu.settled with
        | some e =>
          (((s.forgetHeard b).lateClose e (fun e => e.awaitsReturn b) s.now s.node s.clk.dom.grade).countActivity false,
            some e.card)
        | none => s.returnHere d b

/-! ### Notices from other stations (R76, R83 to R86) -/

/-- A HIRE OPEN notice (R76). Of several pending-close entries of the bike the oldest takes the identity, if it has none, and the
others stay as they are: DESIGN CHOICE, assumption log 52. -/
def State.takeHireOpen (s : State) (hire : Ident) (card : Card) (b : Bike) (start : Time) : State :=
  if s.isVan then s
  else if s.hu.pendingClose.any fun p => decide (p.bike = b) then
    s.setPendingClose (updateFirst (fun p => decide (p.bike = b)) (fun p => { p with hire := some (p.hire.getD hire) })
      s.hu.pendingClose)
  else if dockNumbers.any fun n => (s.dock n).bike.any fun x => decide (x.bike = b) && decide (start < x.time) then s
  else
    let others := s.hu.heard.filter fun e => !(decide (e.bike = b) && !decide (e.hire = hire))
    if others.any fun e => decide (e.hire = hire) then
      s.setHeard (updateFirst (fun e => decide (e.hire = hire))
        (fun e => { e with card := card, bike := b, start := start, heard := s.now }) others)
    else s.setHeard (pushBounded 64 others { hire := hire, card := card, bike := b, start := start, heard := s.now })

/-- The settled entry a repeated HIRE CLOSE meets: its bike, end node and end time (R84, test 1). -/
def SettledHire.endedAt (e : SettledHire) (b : Bike) (node : Node) (endTime : Time) : Bool :=
  decide (e.bike = b) && decide (e.ending = some (node, endTime))

/-- A close tested at this node as the start station (R84). -/
def State.remoteClose (s : State) (origin : Node) (b : Bike) (endTime : Time) (endGrade : Nat) (serial : Option Serial) : State :=
  match findLast (fun e => e.endedAt b origin endTime) s.hu.settled with
  | some e => s.flood (.hireSettled e.hire e.bike origin endTime e.outcome)
  | none =>
    match s.hu.owned.find? fun o => decide (o.fields.bike = b) && serial.all fun n => decide (n = o.fields.serial) with
    | some o => s.closeOwned o endTime origin endGrade
    | none =>
      let p := fun (e : SettledHire) => e.awaitsReturn b && serial.all fun n => decide (n = e.hire.serial)
      match findLast p s.hu.settled with
      | some e => s.lateClose e p endTime origin endGrade
      | none => s

/-- A HIRE CLOSE notice (R83). -/
def State.takeHireClose (s : State) (origin : Node) (b : Bike) (endTime : Time) (endGrade : Nat) (hire : Option Ident) : State :=
  if s.isVan then s
  else
    let s1 := s.setHeard (s.hu.heard.filter fun e =>
      match hire with
      | some h => !decide (e.hire = h)
      | none => !(decide (e.bike = b) && decide (e.start ≤ endTime)))
    if hire.all fun h => decide (h.node = s.node) then s1.remoteClose origin b endTime endGrade (hire.map (·.serial)) else s1

/-- A HIRE SETTLED notice (R86). -/
def State.takeHireSettled (s : State) (hire : Ident) (b : Bike) (endNode : Node) (endTime : Time) (outcome : HireOutcome) : State :=
  if s.isVan then s
  else
    let s1 := s.setHeard (s.hu.heard.filter fun e => !decide (e.hire = hire))
    let s2 := if endNode = s.node then s1.setPendingClose (s1.hu.pendingClose.filter fun p => !p.isFor b endTime) else s1
    if outcome = .late then s2.removeMissing b else s2

/-! ### Overdue conversion (R87), ageing of heard hires (R75) and steps (R88) -/

/-- A start time is Z minutes old or older, by the signed difference from now (R75, R87). -/
def State.isOverdue (s : State) (start : Time) : Bool :=
  decide (((s.sup.image.maxHire * 60 : Nat) : Int) ≤ (s.now : Int) - (start : Int))

/-- One owned record converted as overdue, in the order of R87. -/
def State.convertOverdue (s : State) (h : OwnedHire) : State :=
  let o := h.fields
  let s1 := s.postMoney
    (.overdue { node := s.node, serial := o.serial } o.card o.bike o.start (o.terms.cap + o.terms.lostFee)) h.slot
  let s2 := (s1.placeHold o.card .overdue).1
  let s3 := s2.setMissing o.bike s2.node s2.now
  let s4 := s3.pushSettled o none .overdue
  (s4.setOwned (s4.hu.owned.filter fun x => !decide (x.fields.serial = o.serial))).mark (.owned h.slot)

/-- A minute boundary announced to the HU, taken in LISTEN or RUN: overdue hires are converted one after another, and old heard
entries leave (R75, R87). Of several overdue hires the one that stands first in the table is converted first: DESIGN CHOICE,
assumption log 60. In role VAN it finds nothing (R91). -/
def State.hireBoundary (s : State) : State :=
  if s.sup.start = .listen ∨ s.sup.start = .run then
    let s1 := (s.hu.owned.filter fun o => s.isOverdue o.fields.start).foldl State.convertOverdue s
    s1.setHeard (s1.hu.heard.filter fun e => !s.isOverdue e.start)
  else s

/-- A start time shifted by a step, clamped to the range of station time (R88). -/
def shiftTime (t : Time) (amount : Int) : Time := (clampInt 0 (lastTime : Int) ((t : Int) + amount)).toNat

/-- Every owned hire shifted by a step, marked STEPPED and marked for a write, so no longer durable (R72, R88). The marks follow
the order of the table: DESIGN CHOICE, assumption log 62. -/
def State.shiftHires (s : State) (amount : Int) : State :=
  let s1 := s.setOwned (s.hu.owned.map fun o =>
    { o with durable := false, fields := { o.fields with start := shiftTime o.fields.start amount, stepped := true } })
  s.hu.owned.foldl (fun s o => s.mark (.owned o.slot)) s1

end Sys2Proof.Machine
end

