-- ==== Sys2Proof/Machine/CardRequests.lean ====
section
/-!
DEFINITION. The kiosk requests on cards (Chapter 4): HOLD CARD, LIFT HOLD and QUERY CARD.
-/
namespace Sys2Proof.Machine

/-- The hold reason HOLD CARD carries, when it may place it: LOST, PAYMENT or SCHEME (R67). -/
def placeableReason (code : Nat) : Option HoldReason :=
  match code with
  | 0 => some .lost
  | 1 => some .payment
  | 3 => some .scheme
  | _ => none

/-- HOLD CARD (R67). -/
def execHoldCard (card : Card) (reason : Nat) (s : State) : Host.Outcome State Fault Refusal :=
  .next (s.serve (.holdCard card reason) fun s =>
    match placeableReason reason with
    | some r =>
      if cardInRange card then
        let p := s.placeHold card r
        p.1.answer .ok (identBytes p.2.1 ++ flagByte p.2.2)
      else s.reply .badValue
    | none => s.reply .badValue)

/-- The reasons a LIFT HOLD code names; none for a code beyond the list. The inner none is ALL (R68, R184). -/
def liftReason (code : Nat) : Option (Option HoldReason) := if code = 4 then some none else holdReasons[code]?.map some

/-- LIFT HOLD (R68). -/
def execLiftHold (card : Card) (reason : Nat) (s : State) : Host.Outcome State Fault Refusal :=
  .next (s.serve (.liftHold card reason) fun s =>
    match liftReason reason with
    | some r =>
      if cardInRange card then
        ((s.liftHolds card r).flood (.cardLift card r)).answer .ok (u16 (s.hu.holds.countP fun h => h.liftedBy card r))
      else s.reply .badValue
    | none => s.reply .badValue)

/-- The outcome checks 3 and 4 of R70 would give the card now; check 3 only when a date is given (R90). -/
def State.assess (s : State) (card : Card) (validUntil : Option Date) : Option Refused :=
  if validUntil.any fun d => dateBefore d (dateOf s.now) then some .cardInvalid
  else if s.hu.holds.any fun h => decide (h.card = card) then some .cardHeld
  else none

/-- The body of a QUERY CARD answer (R90). -/
def State.cardBody (s : State) (card : Card) (validUntil : Option Date) : List Byte :=
  listBytes (fun (h : Hold) => u8 (codeIn holdReasons h.reason) ++ identBytes h.id ++ u32 h.placed)
      (s.hu.holds.filter fun h => decide (h.card = card)) ++
    listBytes (fun (o : OwnedHire) =>
        u16 o.fields.serial ++ u24 o.fields.bike ++ u8 o.fields.dock ++ u32 o.fields.start ++ u8 o.fields.band ++
          flagByte o.fields.stepped ++ flagByte o.durable)
      (s.hu.owned.filter fun o => decide (o.fields.card = card)) ++
    listBytes (fun (e : HeardHire) => identBytes e.hire ++ u24 e.bike ++ u32 e.start ++ u32 e.heard)
      (s.hu.heard.filter fun e => decide (e.card = card)) ++
    listBytes (fun (e : SettledHire) =>
        identBytes e.hire ++ u24 e.bike ++ optionBytes (fun (x : Node × Time) => u16 x.1 ++ u32 x.2) e.ending ++
          u8 (codeIn hireOutcomes e.outcome))
      (s.hu.settled.filter fun e => decide (e.card = card)) ++
    u8 ((s.assess card validUntil).elim 8 (codeIn refusals))

/-- QUERY CARD (R90). A valid-until date that does not exist is out of range (R165; assumption log 14). -/
def execQueryCard (card : Card) (validUntil : Option Date) (s : State) : Host.Outcome State Fault Refusal :=
  .next (s.serve (.queryCard card validUntil) fun s =>
    if cardInRange card && validUntil.all dateExists then s.answer .ok (s.cardBody card validUntil) else s.reply .badValue)

end Sys2Proof.Machine
end

