-- ==== Sys2Proof/Machine/DockEvents.lean ====
section
/-!
DEFINITION. The commands of the dock bus (Chapter 3): polls and their answers (R41, R42, R188), bikes leaving and arriving (R48,
R50 to R52), heartbeats (R45, R58, R59), cards, buttons and lock failures (R46, R53, R54), and the dock unit's timers (R44, R49,
R53, R57).
-/
namespace Sys2Proof.Machine

/-! ### Answers to polls (R41, R42) -/

/-- The dock bus runs: LISTEN or RUN in role STATION (R41). -/
def State.busRuns (s : State) : Bool := s.awake && !s.isVan

/-- The answer comes from the post polled, and a STATUS poll takes only a heartbeat (R188). -/
def State.answersPoll (s : State) (d : Nat) (heartbeat : Bool) : Bool :=
  s.busRuns && s.dockConfigured d && s.du.polled.any fun p => decide (p.1 = d) && (heartbeat || decide (p.2 = .event))

/-- The poll has no valid answer: both command slots keep their contents and the silence timer goes on (R41, R188). -/
def State.noAnswer (s : State) : State := s.setDu { s.du with polled := none }

/-- A valid answer taken: the command slots are emptied, the silence timer restarts and the last-heard time is now (R41, R42). -/
def State.postHeard (s : State) (d : Nat) : State :=
  (s.setDu { s.du with polled := none }).putDock d
    { s.dock d with lampSlot := none, lockSlot := none, silenceStart := s.timebase, silent := false, lastHeard := s.now }

/-- A post's answer taken as an event, or as no answer. An event that answers an EVENT poll of a post become silent since the poll
ends the silence and is taken in the dock's state, with none of the steps of R58: an OFFLINE dock stays so until a heartbeat answers its
next STATUS poll; a FAULTED or DISABLED dock is sent EVENT polls again, and its POST_SILENT entry stays open: DESIGN CHOICE, assumption
log 51. -/
def State.takeAnswer (s : State) (d : Nat) (heartbeat : Bool) (event : State → State) : State :=
  if s.answersPoll d heartbeat then event (s.postHeard d) else if s.busRuns then s.noAnswer else s

/-! ### Bikes leaving (R48, R50) -/

/-- A BIKE_OUT ends the dock's release (R48): a member's hire opens, or the van's take is recorded. -/
def State.completeRelease (s : State) (d : Nat) : State :=
  let k := s.dock d
  let s1 := s.updateDock d fun k =>
    Dock.enter { k with release := none, bike := none, untaken := 0, window := none, lockSlot := some .lock } .empty
  match k.release, k.bike with
  | some { purpose := .member, card := some c, start := _ }, some b => s1.openHire d b.bike c
  | some { purpose := .van, card := _, start := _ }, some b => s1.takeRecorded d b.bike
  | _, _ => s1

/-- A forced removal of the recorded bike (R50). -/
def State.forcedRemoval (s : State) (d : Nat) (b : Bike) : State :=
  let s1 := (s.report (.bike b) .forcedRemoval 3).setMissing b s.node s.now
  s1.updateDock d fun k =>
    let k' : Dock := { k with bike := none, window := none, lockSlot := some .lock }
    if k.state = .holding then k'.enter .empty else k'

/-- A BIKE_OUT taken in the dock's state (R48, R50). At an OFFLINE dock, whose post is sent STATUS polls, it changes nothing: DESIGN
CHOICE, assumption log 51. -/
def State.bikeLeaves (s : State) (d : Nat) : State :=
  match (s.dock d).state with
  | .releasing => s.completeRelease d
  | .holding | .faulted | .disabled =>
    match (s.dock d).bike with
    | some b => s.forcedRemoval d b.bike
    | none => s
  | .empty | .offline => s

/-! ### Bikes arriving (R51, R52) -/

/-- The bike found recorded at another dock, whose post has lost a BIKE_OUT (R51). -/
def State.leaveOther (s : State) (d : Nat) (b : Bike) : State :=
  match s.dockOf b d with
  | none => s
  | some n =>
    if (s.dock n).state = .releasing then s.completeRelease n
    else s.updateDock n fun k => Dock.settle { k with bike := none, window := none }

/-- An arrival at an EMPTY dock (R51). -/
def State.arrive (s : State) (d : Nat) (b : Bike) : State :=
  let s1 := (s.leaveOther d b).updateDock d fun k => Dock.enter { k with bike := some { bike := b, time := s.now } } .holding
  let r := (s1.removeMissing b).arrival d b false
  r.1.updateDock d fun k =>
    Dock.show { k with window := some { start := s.timebase, card := r.2, taken := false } } .greenFlash s.timebase

/-- An arrival at a dock in FAULTED or DISABLED, which keeps its state (R52). -/
def State.arriveUnavailable (s : State) (d : Nat) (b : Bike) : State :=
  let s1 := s.updateDock d fun k => { k with bike := some { bike := b, time := s.now }, window := none }
  ((s1.removeMissing b).arrival d b false).1

/-- A BIKE_IN taken in the dock's state (R51, R52). -/
def State.bikeArrives (s : State) (d : Nat) (b : Bike) : State :=
  match (s.dock d).state with
  | .empty => s.arrive d b
  | .holding | .releasing => if (s.dock d).records b then s else (s.bikeLeaves d).arrive d b
  | .faulted | .disabled => if (s.dock d).records b then s else s.arriveUnavailable d b
  | .offline => s

/-! ### Heartbeats (R45, R58, R59) -/

/-- A heartbeat's bike, 0 for none, compared with the recorded bike; a difference is taken as the events the post has lost
(R45). -/
def State.compareHeartbeat (s : State) (d : Nat) (b : Bike) : State :=
  match (s.dock d).bike with
  | none => if b = 0 then s else s.bikeArrives d b
  | some x =>
    if b = 0 then s.bikeLeaves d
    else if x.bike = b then s
    else (s.bikeLeaves d).bikeArrives d b

/-- The first heartbeat of a post since start (R59): the dock is settled, and a bike in it is a start-up arrival. -/
def State.firstHeartbeat (s : State) (d : Nat) (b : Bike) : State :=
  let s1 := s.updateDock d fun k => { k with heard := true }
  let s2 :=
    if b = 0 then s1
    else
      let s3 := s1.updateDock d fun k => { k with bike := some { bike := b, time := s.now } }
      ((s3.removeMissing b).arrival d b true).1
  s2.updateDock d fun k => (k.settle.refresh s2.du).placeResting

/-- A heartbeat that answers a STATUS poll, or the first valid answer from a silent post (R45, R58), in the order of R58. Where a
transient runs after the events, such as the GREEN_FLASH of a BIKE_IN taken here, the slot stays with it as R44 has it, and the resting
pattern of the last step of R58 is not placed: DESIGN CHOICE, assumption log 65. -/
def State.recoverPost (s : State) (d : Nat) (b : Bike) : State :=
  let s1 := s.clearPostSilent d
  let s2 := if (s1.dock d).state = .offline then s1.updateDock d Dock.settle else s1
  (s2.compareHeartbeat d b).updateDock d fun k => if k.transient.isSome then k else k.placeResting

/-! ### Cards, buttons and lock failures (R46, R53, R54) -/

/-- A card tap at a dock (R46): a grant releases the dock for the member, a refusal is stored and shown. -/
def State.tapCard (s : State) (d : Nat) (c : CardRecord) : State :=
  match s.checkout d c with
  | none => (s.updateDock d fun k => { k with lastRefusal := none }).release d .member (some c)
  | some r => s.updateDock d fun k => Dock.show { k with lastRefusal := some r } .red s.timebase

/-- A press of the fault button (R53). -/
def State.pressButton (s : State) (d : Nat) : State :=
  match (s.dock d).window, (s.dock d).bike with
  | some w, some b =>
    if w.taken then s
    else (s.memberReport b.bike w.card).updateDock d fun k =>
      { k with window := k.window.map fun w => { w with taken := true } }
  | none, some b => if (s.dock d).state = .holding then s.memberReport b.bike none else s
  | _, none => s

/-- A release deadline of 20 s has passed (R49). -/
def State.releaseTimesOut (s : State) (d : Nat) : State :=
  let k := s.dock d
  let s1 := s.updateDock d fun k => (k.endRelease .holding).show .red s.timebase
  let s2 := if k.releasesFor .van then s1.releaseLapsed d else s1
  if 3 ≤ k.untaken + 1 then
    ((s2.report (.dock d) .dockJam 2).dockFaultRaised d).updateDock d fun k => { k with untaken := 0 }
  else s2.updateDock d fun k => { k with untaken := k.untaken + 1 }

/-- A silence timer has reached 30 s (R57). -/
def State.postFallsSilent (s : State) (d : Nat) : State :=
  let s1 := (s.updateDock d fun k => { k with silent := true }).report (.dock d) .postSilent 2
  match (s1.dock d).state with
  | .empty | .holding => s1.updateDock d fun k => k.enter .offline
  | .releasing => s1.abandonRelease d .offline
  | .faulted | .offline | .disabled => s1

/-- The kind of poll a post is sent: STATUS while its dock is OFFLINE, its post is silent, or its first heartbeat since start has
not been taken (R41, R57, R59; DEDUCED, assumption log 15). A FAULTED or DISABLED dock whose silence an event has ended is sent EVENT
polls: DESIGN CHOICE, assumption log 51. -/
def Dock.pollKind (k : Dock) : PollKind := if k.state = .offline ∨ k.silent ∨ ¬ k.heard then .status else .event

/-- The next post polled, in dock order from 1 to the dock count and round again (R41). -/
def State.sendPoll (s : State) : State :=
  let d := if s.du.pollNext ≤ s.sup.image.dockCount then s.du.pollNext else 1
  let k := s.dock d
  s.setDu { s.du with
    polled := some (d, k.pollKind),
    pollNext := if d < s.sup.image.dockCount then d + 1 else 1,
    busOut := pollFrame d k.pollKind k.lockSlot k.lampSlot }

/-! ### The meanings -/

def execPoll (s : State) : Host.Outcome State Fault Refusal := .next (if s.busRuns then s.sendPoll else s)

def execPollAnswerTimeout (s : State) : Host.Outcome State Fault Refusal := .next (if s.busRuns then s.noAnswer else s)

/-- The poll outstanding is a STATUS poll (R41). -/
def Du.statusPolled (u : Du) : Bool := u.polled.any fun p => decide (p.2 = .status)

/-- HEARTBEAT: a post's first since start (R59); one that answers a STATUS poll, or comes from a silent post (R45, R58); or one that
answers an EVENT poll and is compared with the entry (R45). A heartbeat answering an EVENT poll follows R58 too when its post has
become silent since the poll: DESIGN CHOICE, assumption log 51. -/
def execHeartbeat (d : Nat) (b : Bike) (s : State) : Host.Outcome State Fault Refusal :=
  .next (s.takeAnswer d true fun t =>
    if (s.dock d).heard = false then t.firstHeartbeat d b
    else if (s.dock d).silent ∨ s.du.statusPolled then t.recoverPost d b
    else t.compareHeartbeat d b)

/-- CARD (R46); a card record with a field out of range is no answer (R41). -/
def execCard (d : Nat) (a : CardAnswer) (s : State) : Host.Outcome State Fault Refusal :=
  .next (match cardRecordOf a with
    | some c => s.takeAnswer d false fun t => t.tapCard d c
    | none => if s.busRuns then s.noAnswer else s)

/-- BIKE_OUT (R48, R50). -/
def execBikeOut (d : Nat) (s : State) : Host.Outcome State Fault Refusal := .next (s.takeAnswer d false fun t => t.bikeLeaves d)

/-- BIKE_IN (R51, R52); a bike number of 0 is no answer (R41). -/
def execBikeIn (d : Nat) (b : Bike) (s : State) : Host.Outcome State Fault Refusal :=
  .next (if bikeInRange b then s.takeAnswer d false fun t => t.bikeArrives d b else if s.busRuns then s.noAnswer else s)

/-- BUTTON (R53). -/
def execButton (d : Nat) (s : State) : Host.Outcome State Fault Refusal := .next (s.takeAnswer d false fun t => t.pressButton d)

/-- LOCK_FAIL (R54). -/
def execLockFail (d : Nat) (s : State) : Host.Outcome State Fault Refusal :=
  .next (s.takeAnswer d false fun t => (t.report (.dock d) .lock 2).dockFaultRaised d)

/-- RELEASE_TIMEOUT (R49). -/
def execReleaseTimeout (d : Nat) (s : State) : Host.Outcome State Fault Refusal :=
  .next (match (s.dock d).release with
    | some r => if s.busRuns ∧ (s.dock d).state = .releasing then (s.reached (r.start + 20000)).releaseTimesOut d else s
    | none => s)

/-- RETURN_WINDOW_EXPIRY (R53). -/
def execReturnWindowExpiry (d : Nat) (s : State) : Host.Outcome State Fault Refusal :=
  .next (match (s.dock d).window with
    | some w => if s.busRuns then (s.reached (w.start + 60000)).updateDock d fun k => { k with window := none } else s
    | none => s)

/-- LAMP_TRANSIENT_END (R44). -/
def execLampTransientEnd (d : Nat) (s : State) : Host.Outcome State Fault Refusal :=
  .next (match (s.dock d).transient with
    | some t =>
      if s.busRuns then
        (s.reached (t.start + 3000)).updateDock d fun k => Dock.placeResting { k with transient := none }
      else s
    | none => s)

/-- POST_SILENCE (R57). -/
def execPostSilence (d : Nat) (s : State) : Host.Outcome State Fault Refusal :=
  .next (if s.busRuns ∧ s.dockConfigured d ∧ (s.dock d).silent = false then
      (s.reached ((s.dock d).silenceStart + 30000)).postFallsSilent d
    else s)

/-- PENDING_CLOSE_REPEAT (R81). -/
def execPendingCloseRepeat (b : Bike) (endTime : Time) (s : State) : Host.Outcome State Fault Refusal :=
  .next (if s.awake then s.repeatClose b endTime else s)

end Sys2Proof.Machine
end

