-- ==== Sys2Proof/Machine/DockRequests.lean ====
section
/-!
DEFINITION. The kiosk requests on docks and bikes (Chapter 3): QUERY BIKE, DOCK DISABLE, DOCK ENABLE and READ DOCKS.
-/
namespace Sys2Proof.Machine

/-- The body of a QUERY BIKE answer (R64). -/
def State.bikeBody (s : State) (b : Bike) : List Byte :=
  optionBytes (fun (e : BikeStatus) =>
      optionBytes (fun (q : QuarantinePart) => identBytes q.id ++ u8 q.severity) e.quarantine ++
        optionBytes (fun (m : MissingPart) => u16 m.owner ++ u32 m.since) e.missing)
    (s.du.bikes.find? fun e => decide (e.bike = b)) ++
  (if s.isVan then []
   else optionBytes (fun (d : Nat) => u8 d ++ u8 (codeIn dockStates (s.dock d).state)) (s.dockOf b 0))

/-- QUERY BIKE (R64). A bike number of 0 is out of range (R165; assumption log 14). -/
def execQueryBike (b : Bike) (s : State) : Host.Outcome State Fault Refusal :=
  .next (s.serve (.queryBike b) fun s => if bikeInRange b then s.answer .ok (s.bikeBody b) else s.reply .badValue)

/-- A dock withdrawn by the host: DISABLED from any state, a release in force abandoned (R56). -/
def State.disableDock (s : State) (d : Nat) : State :=
  let s1 := s.updateDock d fun k => { k with hostDisabled := true }
  if (s.dock d).state = .releasing then s1.abandonRelease d .disabled else s1.updateDock d fun k => k.enter .disabled

/-- DOCK DISABLE (R56). -/
def execDockDisable (d : Nat) (s : State) : Host.Outcome State Fault Refusal :=
  .next (s.serve (.dockDisable d) fun s => if s.dockConfigured d then (s.disableDock d).reply .ok else s.reply .badValue)

/-- The host's disabling ended: a DISABLED dock is settled, any other is left as it is (R56). -/
def State.enableDock (s : State) (d : Nat) : State :=
  if (s.dock d).state = .disabled then s.updateDock d fun k => Dock.settle { k with hostDisabled := false } else s

/-- DOCK ENABLE (R56). -/
def execDockEnable (d : Nat) (s : State) : Host.Outcome State Fault Refusal :=
  .next (s.serve (.dockEnable d) fun s => if s.dockConfigured d then (s.enableDock d).reply .ok else s.reply .badValue)

/-- One dock's record in a READ DOCKS answer (R64). -/
def Dock.record (now : Millis) (d : Nat) (k : Dock) : List Byte :=
  u8 d ++ u8 (codeIn dockStates k.state) ++ optionBytes (fun (b : DockedBike) => u24 b.bike ++ u32 b.time) k.bike ++
    flagByte k.faultMark ++
    optionBytes (fun (r : Release) => u8 (codeIn purposes r.purpose) ++ u16 (secondsLeft now r.start 20000)) k.release ++
    u8 k.untaken ++ optionBytes (fun r => u8 (codeIn refusals r)) k.lastRefusal ++
    optionBytes (fun (w : ReturnWindow) => u16 (secondsLeft now w.start 60000) ++ flagByte w.taken) k.window ++
    u32 k.lastHeard ++ flagByte k.silent ++ u8 (lampCode k.lampLast)

/-- The body of a READ DOCKS answer: one record per configured dock, in dock order (R64). -/
def State.docksBody (s : State) : List Byte :=
  listBytes (fun d => Dock.record s.timebase d (s.dock d)) (dockNumbers.take s.sup.image.dockCount)

/-- READ DOCKS (R64). -/
def execReadDocks (s : State) : Host.Outcome State Fault Refusal :=
  .next (s.serve .readDocks fun s => s.answer .ok s.docksBody)

end Sys2Proof.Machine
end

