-- ==== Sys2Proof/Machine/FaultRequests.lean ====
section
/-!
DEFINITION. The kiosk requests on faults (Chapter 6): REPORT FAULT, CLEAR FAULT and READ FAULTS.
-/
namespace Sys2Proof.Machine

/-- The subject code names a dock; in role VAN such a subject is answered WRONG_ROLE before any other test (R118, R121). -/
def State.dockSubjectBarred (s : State) (code : Nat) : Bool := s.isVan && decide (code = 1)

/-- The report REPORT FAULT carries, when every field lies in its range (R121). -/
def State.hostReport (s : State) (subject number kind severity : Nat) : Option FaultReport :=
  match s.subjectOf subject number, faultKinds[kind]? with
  | some sub, some k =>
    if hostMayReport sub k && decide (1 ≤ severity) && decide (severity ≤ 3) then
      some { subject := sub, kind := k, severity := some severity, card := none }
    else none
  | _, _ => none

/-- REPORT FAULT (R121). -/
def execReportFault (subject number kind severity : Nat) (s : State) : Host.Outcome State Fault Refusal :=
  .next (s.serve (.reportFault subject number kind severity) fun s =>
    if s.dockSubjectBarred subject then s.reply .wrongRole
    else
      match s.hostReport subject number kind severity with
      | none => s.reply .badValue
      | some r =>
        match (s.reportFault r).2 with
        | .taken id isNew severity => (s.reportFault r).1.answer .ok (identBytes id ++ flagByte isNew ++ u8 severity)
        | .full => (s.reportFault r).1.reply .full)

/-- CLEAR FAULT (R118). -/
def execClearFault (subject number : Nat) (s : State) : Host.Outcome State Fault Refusal :=
  .next (s.serve (.clearFault subject number) fun s =>
    if s.dockSubjectBarred subject then s.reply .wrongRole
    else
      match s.subjectOf subject number with
      | none => s.reply .badValue
      | some sub => (s.clearFaultsOf sub).answer .ok (u16 (liveCount sub s.flt.log)))

/-- A fault log entry in an answer: every field of R109 in its order. -/
def FaultEntry.bytes (e : FaultEntry) : List Byte :=
  identBytes e.id ++ subjectBytes e.subject ++ u8 (codeIn faultKinds e.kind) ++ u8 e.severity ++ u8 e.count ++
    listBytes u32 e.cards ++ u32 e.first ++ u32 e.last ++ u8 (codeIn faultStates e.state)

/-- READ FAULTS (R122). -/
def execReadFaults (s : State) : Host.Outcome State Fault Refusal :=
  .next (s.serve .readFaults fun s => s.answer .ok (listBytes FaultEntry.bytes s.flt.log ++ u16 s.flt.drops))

end Sys2Proof.Machine
end

