-- ==== Sys2Proof/Machine/Settlement.lean ====
section
/-!
DEFINITION. The settlement queue's requests and timer (R152, R153), the journal's writes (R155, R156) and the option area (R177).
-/
namespace Sys2Proof.Machine

/-! ### The settlement queue -/

/-- The money slots of records the host takes, each marked and in use until its removal is written (R153). -/
def leavingSlots (taken : List SettlementRecord) : List LeavingSlot :=
  (taken.filterMap (·.slot)).map fun i => { slot := i, begun := false }

/-- Records removed from the head of the queue: the slots of money records are marked (R153), in queue order: DESIGN CHOICE,
assumption log 62. -/
def State.removeRecords (s : State) (taken : List SettlementRecord) : State :=
  let s1 := s.setSq { s.sq with queue := s.sq.queue.drop taken.length, leaving := s.sq.leaving ++ leavingSlots taken }
  ((taken.filterMap (·.slot)).foldl (fun s i => s.mark (.money i)) s1).evaluateSettlement

/-- TAKE RECORDS for an n in range (R153). -/
def State.takeRecords (s : State) (n : Nat) : State :=
  let taken := (takeable s.sq.queue).take n
  let left := s.sq.queue.drop taken.length
  (s.removeRecords taken).answer .ok
    (u8 taken.length ++ u8 left.length ++ u8 (takeable left).length ++ taken.flatMap fun r => r.fields.bytes)

/-- TAKE RECORDS (R153). -/
def execTakeRecords (n : Nat) (s : State) : Host.Outcome State Fault Refusal :=
  .next (s.serve (.takeRecords n) fun s => if 1 ≤ n ∧ n ≤ 8 then s.takeRecords n else s.reply .badValue)

/-- The trigger levels (R152). -/
def triggerLevels : List Nat := [1, 4, 16, 32]

/-- SET SETTLEMENT (R152). -/
def execSetSettlement (trigger timeout : Nat) (s : State) : Host.Outcome State Fault Refusal :=
  .next (s.serve (.setSettlement trigger timeout) fun s =>
    if trigger ∈ triggerLevels then
      ((s.setSq { s.sq with trigger := trigger, idle := clampNat 5 300 timeout }).evaluateSettlement).answer .ok
        (u8 trigger ++ u16 (clampNat 5 300 timeout))
    else s.reply .badValue)

/-- SETTLEMENT_IDLE_TIMEOUT (R152): the oldest takeable record's wait timer has reached the idle timeout. -/
def execSettlementIdleTimeout (s : State) : Host.Outcome State Fault Refusal :=
  .next (if s.running then
      match (takeable s.sq.queue).head? with
      | some r => (s.reached (r.waitStart + s.sq.idle * 1000)).evaluateSettlement
      | none => s
    else s)

/-! ### Journal writes (R155, R156) -/

def Hold.stored (h : Hold) : HoldFields := { card := h.card, reason := h.reason, id := h.id, placed := h.placed }

/-- The current serial counters (R154). -/
def State.counters (s : State) : Counters :=
  { origin := s.slc.originSerial, hire := s.hu.hireSerial, record := s.sq.seq, fault := s.flt.serial, hold := s.hu.holdSerial,
    claim := s.bu.claimSerial }

/-- A slot's content as it stands (R155, R156). -/
def State.slotContent (s : State) : Slot → SlotContent
  | .band i => .band (s.fu.bands.toList[i]?.getD BandTerms.default)
  | .cls i => .cls (s.fu.classes.toList[i]?.getD (ClassTerms.default .casual))
  | .window i => .window (s.clk.windows.toList[i]?.getD Window.blank)
  | .hold i => .hold ((s.hu.holds.find? fun h => decide (h.slot = i)).map Hold.stored)
  | .owned i => .owned ((s.hu.owned.find? fun o => decide (o.slot = i)).map (·.fields))
  | .money i => .money ((s.sq.queue.find? fun r => decide (r.slot = some i)).map (·.fields))
  | .counters => .counters s.counters

/-- A write of the slot has begun: the SQ notes the removals it will carry (R151, R153). -/
def Sq.writeBegun (q : Sq) : Slot → Sq
  | .owned i =>
    { q with queue := q.queue.map fun r => if r.isMoney ∧ r.ownedSlot = i then { r with ownedBegun := true } else r }
  | .money i => { q with leaving := q.leaving.map fun l => if l.slot = i then { l with begun := true } else l }
  | .band _ | .cls _ | .window _ | .hold _ | .counters => q

/-- The store is free: no journal write and no option write is in progress (R156, R177). -/
def State.storeFree (s : State) : Bool :=
  s.jnl.wip.isNone && match s.jnl.optionWork with
    | .writing _ _ => false
    | .none | .readWaiting | .writeWaiting _ => true

/-- An option request waits for the store; it goes before the next journal write (R177). -/
def OptionWork.waits : OptionWork → Bool
  | .readWaiting | .writeWaiting _ => true
  | .none | .writing _ _ => false

/-- JOURNAL_WRITE_START (R156): the slot at the head of the write list, with its current content. -/
def execJournalWriteStart (s : State) : Host.Outcome State Fault Refusal :=
  .next (match s.jnl.writeList with
    | [] => s
    | slot :: rest =>
      if s.awake && s.storeFree && !s.jnl.optionWork.waits then
        (s.setSq (s.sq.writeBegun slot)).setJnl { s.jnl with
          writeList := rest,
          wip := some { slot := slot, content := s.slotContent slot, again := false, touched := false } }
      else s)

/-- The HU sets the durable flag of the record written, if it still holds its slot unchanged since the write began (R156). -/
def Hu.written (h : Hu) (w : WriteInProgress) : Hu :=
  match w.slot, w.content with
  | .owned i, .owned (some fields) =>
    { h with owned := h.owned.map fun o =>
        if o.slot = i ∧ o.fields = fields ∧ w.touched = false then { o with durable := true } else o }
  | _, _ => h

/-- The SQ follows the two writes of each money record, and frees the slot of a record already taken (R151, R153, R156). -/
def Sq.written (q : Sq) (w : WriteInProgress) : Sq :=
  match w.slot with
  | .money i =>
    { q with
      queue := q.queue.map fun r => if r.slot = some i ∧ w.content = .money (some r.fields) then { r with slotDone := true } else r,
      leaving := q.leaving.filter fun l => !(decide (l.slot = i) && l.begun) }
  | .owned i =>
    { q with queue := q.queue.map fun r =>
        if r.isMoney ∧ r.ownedSlot = i ∧ r.ownedBegun then { r with ownedDone := true } else r }
  | .band _ | .cls _ | .window _ | .hold _ | .counters => q

/-- A write completed, or treated as completed: the JNL reports it to the slot's owner (R156). -/
def State.writeCompleted (s : State) (w : WriteInProgress) : State :=
  (((s.setHu (s.hu.written w)).setSq (s.sq.written w)).setJnl { s.jnl with wip := none }).evaluateSettlement

/-- The slot of a write, put in the store with a content. -/
def State.storeSlot (s : State) (slot : Slot) (c : SlotContent) : State :=
  s.setJnl { s.jnl with store := s.jnl.store.write slot.index c }

/-- What a slot holds after a second read-back that disagrees: the old content, the new content or an invalid one, which of them
the manual does not say. Free value, assumption log 5. -/
def State.failedWrite (s : State) (w : WriteInProgress) : State :=
  match Config.failedSlot s.draws % 3 with
  | 0 => s.drawn
  | 1 => (s.storeSlot w.slot w.content).drawn
  | _ => (s.storeSlot w.slot .invalid).drawn

/-- The store is found DEGRADED: the health is set and JOURNAL raised (R156). -/
def State.degrade (s : State) : State := (s.setJnl { s.jnl with degraded := true }).raise .journal

/-- JOURNAL_WRITE_END (R156): the read-back agrees, or the slot is written again at once, or the second read-back disagrees and
the write is treated as completed. The second attempt belongs to the write begun before it, so a slot marked since the first one
counts as changed since the write began: DEDUCED, assumption log 25. -/
def execJournalWriteEnd (agrees : Bool) (s : State) : Host.Outcome State Fault Refusal :=
  .next (match s.jnl.wip with
    | none => s
    | some w =>
      if s.inReset then s
      else if agrees then (s.storeSlot w.slot w.content).writeCompleted w
      else if w.again then ((s.failedWrite w).degrade).writeCompleted w
      else s.setJnl { s.jnl with
        wip := some { w with content := s.slotContent w.slot, again := true } })

/-! ### The option area (R177, R189) -/

/-- READ OPTIONS (R177): the area is read when the store is next free. -/
def execReadOptions (s : State) : Host.Outcome State Fault Refusal :=
  .next (s.serve .readOptions fun s =>
    if s.jnl.optionWork = .none then s.setJnl { s.jnl with optionWork := .readWaiting } else s)

/-- WRITE OPTIONS (R177): any field value is accepted, and the area is written when the store is next free. -/
def execWriteOptions (block : List Byte) (s : State) : Host.Outcome State Fault Refusal :=
  .next (s.serve (.writeOptions block) fun s =>
    if s.jnl.optionWork = .none then s.setJnl { s.jnl with optionWork := .writeWaiting block } else s)

/-- The body of a READ OPTIONS answer (R177, R189). -/
def State.optionsBody (s : State) : List Byte :=
  s.sup.image.bytes ++ s.jnl.optionArea.take 16 ++ u8 (codeIn blockConditions (judgeArea s.jnl.optionArea)) ++
    flagByte s.sup.adjusted ++ u16 s.sup.adjustedFields.toNat

def State.setOptionWork (s : State) (w : OptionWork) : State := s.setJnl { s.jnl with optionWork := w }

/-- OPTION_AREA_READ (R177). -/
def execOptionAreaRead (s : State) : Host.Outcome State Fault Refusal :=
  .next (if s.inReset = false ∧ s.storeFree ∧ s.jnl.optionWork = .readWaiting then
      (s.setOptionWork .none).answer .ok s.optionsBody
    else s)

/-- OPTION_WRITE_START (R177). -/
def execOptionWriteStart (s : State) : Host.Outcome State Fault Refusal :=
  .next (match s.jnl.optionWork with
    | .writeWaiting block => if s.inReset = false ∧ s.storeFree then s.setOptionWork (.writing block false) else s
    | .none | .readWaiting | .writing _ _ => s)

/-- The option area as it holds a block with its check (R189). -/
def storedBlock (block : List Byte) : List Byte := block ++ checkBytes block

def State.setOptionArea (s : State) (area : List Byte) : State := s.setJnl { s.jnl with optionArea := area }

/-- What the option area holds after a second read-back that disagrees; the manual does not say. Free value, assumption
log 5. -/
def State.failedArea (s : State) : State :=
  (s.setOptionArea ((List.range 18).map fun i => Config.failedAreaByte s.draws i)).drawn

/-- OPTION_WRITE_END (R177): the read-back agrees, or the area is written once more, or the second read-back disagrees. -/
def execOptionWriteEnd (agrees : Bool) (s : State) : Host.Outcome State Fault Refusal :=
  .next (match s.jnl.optionWork with
    | .writing block again =>
      if s.inReset then s
      else if agrees then ((s.setOptionArea (storedBlock block)).setOptionWork .none).answer .ok (flagByte true)
      else if again then (((s.failedArea).degrade).setOptionWork .none).answer .ok (flagByte false)
      else s.setOptionWork (.writing block true)
    | .none | .readWaiting | .writeWaiting _ => s)

end Sys2Proof.Machine
end

