-- ==== Sys2Proof/Machine/Clock.lean ====
section
/-!
DEFINITION. The station clock (Chapter 1): raw ticks with drift trim and slew (R2, R5, R10), the time grade (R6), temperature
samples (R4), the window evaluation (R15), steps (R7, R9, R11), adoption of a neighbour's time (R8), minute boundaries (R12) and
the loss of the backup domain (R3).
-/
namespace Sys2Proof.Machine

def State.setDom (s : State) (d : BackupDomain) : State := s.setClk { s.clk with dom := d }

/-! ### Windows (R15) -/

/-- The entries of the window table by index, with whether each matches the station time. -/
def windowMatches (windows : List Window) (t : Time) : List (Nat × Window) :=
  (windows.zipIdx.map fun p => (p.2, p.1)).filter fun p => p.2.holds t

/-- The match set: index n is bit n. -/
def matchBits : List (Nat × Window) → BitVec 8
  | [] => 0
  | (i, _) :: rest => BitVec.ofNat 8 (2 ^ i) ||| matchBits rest

/-- The band of the lowest-index matching entry of kind BAND, or band 0 (R15). -/
def matchBand (hits : List (Nat × Window)) : Nat :=
  ((hits.find? fun p => !p.2.closes).bind (·.2.band)).getD 0

/-- The CLK evaluates the windows: the match set, the current band and the closed flag (R15). -/
def Clk.evaluated (c : Clk) : Clk :=
  let hits := windowMatches c.windows.toList c.dom.time
  { c with matchSet := matchBits hits, band := matchBand hits, closed := hits.any fun p => p.2.closes }

def State.evaluateWindows (s : State) : State := s.setClk s.clk.evaluated

/-! ### Raw ticks (R2, R5, R10) -/

/-- The error e of R5, in units of 0.1 ppm. -/
def BackupDomain.error (d : BackupDomain) : Int :=
  d.trimA - (((d.temperature - (d.trimT0 : Int)) * (d.temperature - (d.trimT0 : Int)) * (d.trimK : Int)) / 100)

/-- The accumulator after adding e, and whether it marks a withhold or counts an extra second (R5). -/
structure DriftResult where
  accumulator : Int
  withhold : Bool
  extra : Bool
  deriving DecidableEq, Repr

def BackupDomain.drifted (d : BackupDomain) : DriftResult :=
  let acc := d.drift + d.error
  if 10000000 ≤ acc then { accumulator := acc - 10000000, withhold := true, extra := false }
  else if acc ≤ -10000000 then { accumulator := acc + 10000000, withhold := false, extra := true }
  else { accumulator := acc, withhold := false, extra := false }

/-- A slew correction in this direction is due at this tick (R10). -/
def Clk.correctionDue (c : Clk) (dir : SlewDirection) : Bool := c.slewDue && c.slew.any fun w => decide (w.direction = dir)

/-- A drift withhold and a slew withhold fall on this tick: the advance is zero and the slew withhold is carried (R2). -/
def Clk.carries (c : Clk) : Bool := c.dom.withhold && c.correctionDue .withhold

/-- The advance of a raw tick (R2). -/
def Clk.advance (c : Clk) : Nat :=
  if c.carries then 0
  else 1 + c.dom.drifted.extra.toNat + (c.correctionDue .insert).toNat - (c.dom.withhold.toNat + (c.correctionDue .withhold).toNat)

/-- The slew after a raw tick: an applied correction lowers the count, and a slew of 0 seconds is removed (R10). -/
def Clk.slewAfter (c : Clk) : Option Slew :=
  if c.slewDue && !c.carries then
    c.slew.bind fun w => if w.count ≤ 1 then none else some { w with count := w.count - 1 }
  else c.slew

/-- A station time that n divides lies after `t`, up to and including `u`. -/
def passes (n : Nat) (t u : Time) : Bool := decide (t / n < u / n)

/-- The clock after a raw tick; `held` while the part is held in reset, `mainPower` while the main supply is present. A slew goes on
being worked off while the part is held in reset or without main power, until a start clears it: DESIGN CHOICE, assumption
log 46. -/
def Clk.ticked (c : Clk) (held mainPower : Bool) : Clk :=
  let t := c.dom.time
  let u := min lastTime (t + c.advance)
  let r := c.dom.drifted
  { c with
    dom := { c.dom with
      time := u, drift := r.accumulator, withhold := r.withhold,
      gradeTimer := if c.dom.grade < 7 then c.dom.gradeTimer + 1 else c.dom.gradeTimer },
    slew := c.slewAfter,
    slewDue := c.slewAfter.isSome && (c.carries || passes 10 t u),
    sampleTicks := if mainPower then c.sampleTicks + 1 else c.sampleTicks,
    boundaries := if passes 60 t u && !held then c.boundaries ++ [u / 60 * 60] else c.boundaries }

/-- RAW_TICK (R2). Raw ticks run while the backup domain has power (R3). -/
def execRawTick (s : State) : Host.Outcome State Fault Refusal :=
  .next (if s.clk.dom.powered then s.setClk (s.clk.ticked s.inReset s.sup.powerHold.isNone) else s)

/-! ### The time grade and the temperature sample (R4, R6) -/

/-- GRADE_RISE (R6): the grade timer has reached 21,600 raw ticks. -/
def execGradeRise (s : State) : Host.Outcome State Fault Refusal :=
  .next (if s.clk.dom.powered ∧ s.clk.dom.grade < 7 ∧ 21600 ≤ s.clk.dom.gradeTimer then
      s.setDom { s.clk.dom with grade := s.clk.dom.grade + 1, gradeTimer := 0 }
    else s)

/-- A sample clamped to its range (R4). -/
def clampTemperature (t : Int) : Int := clampInt (-40) 85 t

/-- TEMPERATURE_SAMPLE (R4): 60 s of raw ticks have passed since the last sample, with main power present. -/
def execTemperatureSample (reading : Int) (s : State) : Host.Outcome State Fault Refusal :=
  .next (if s.sup.powerHold = none ∧ 60 ≤ s.clk.sampleTicks then
      s.setClk { s.clk with dom := { s.clk.dom with temperature := clampTemperature reading }, sampleTicks := 0 }
    else s)

/-! ### Steps (R7, R9, R11) -/

/-- The calendar date of one station time differs from that of another (R1). -/
def dateChanged (t u : Time) : Bool := decide (dayNumber t ≠ dayNumber u)

/-- The CLK hands the FU a date change: the day spend table is emptied (R99). -/
def State.emptySpend (s : State) : State := s.setFu { s.fu with spend := [] }

/-- The CLK hands the BU a step: every count of the ring becomes 0 and the need is computed (R125). -/
def State.zeroRing (s : State) : State :=
  (s.setBu { s.bu with ring := s.bu.ring.map fun _ => { outs := 0, ins := 0 } }).recomputeNeed

/-- The grade set by SET TIME or an adoption: the grade timer starts from zero and the clock-lost flag is cleared (R6, R7, R8). -/
def State.anchor (s : State) (grade : Nat) : State :=
  s.setDom { s.clk.dom with grade := grade, gradeTimer := 0, clockLost := false }

/-- The drift accumulator set to 0 with no withhold pending, and any slew cleared with its correction (R5, R10). -/
def State.clearTrim (s : State) : State :=
  s.setClk { s.clk with dom := { s.clk.dom with drift := 0, withhold := false }, slew := none, slewDue := false }

/-- A step of station time to `v`, with its source, and what R11 hands the other blocks. The CLOCK note is posted after the time is
set, so its posting time is the new time: DESIGN CHOICE, assumption log 57. The HU has the step before the SQ, so the slots of the shifted
hires are marked before the counters slot of the note: DESIGN CHOICE, assumption log 71. -/
def State.stepTo (s : State) (v : Time) (source : Option Node) : State :=
  let old := s.now
  let s1 := s.clearTrim
  let s2 := s1.setClk { s1.clk with dom := { s1.clk.dom with time := v },
                                    lastStep := some { source := source, amount := (v : Int) - (old : Int) } }
  let s3 := s2.shiftHires ((v : Int) - (old : Int))
  let s4 := if dateChanged old v then s3.emptySpend else s3
  ((s4.zeroRing).postNote (.clock old v source)).evaluateWindows

/-- SET TIME's effect, for a calendar time that exists (R7). -/
def State.setTime (s : State) (v : Time) : State :=
  let s1 := (s.anchor 0).clearTrim
  if v = s.now then s1 else s1.stepTo v none

/-- The slew an adoption records; a difference of 0 gives none (R10). -/
def slewOf (difference : Int) : Option Slew :=
  if 0 < difference then some { direction := .insert, count := difference.toNat }
  else if difference < 0 then some { direction := .withhold, count := (-difference).toNat }
  else none

/-- The SLC hands the CLK a beacon (R8 to R10). A difference of 0 gives no slew and leaves a slew already recorded in place
(R8, R10; DESIGN CHOICE, assumption log 22). -/
def State.takeBeaconTime (s : State) (sender : Node) (time : Time) (grade : Nat) : State :=
  if grade + 1 < s.clk.dom.grade then
    let difference : Int := (time : Int) - (s.now : Int)
    let s1 := s.anchor (grade + 1)
    if 30 ≤ difference.natAbs then (s1.stepTo time (some sender)).raise .time
    else if difference = 0 then s1
    else s1.setClk { s1.clk with slew := slewOf difference, slewDue := false }
  else s

/-! ### Minute boundaries (R12) -/

/-- The ring moves on by one bin (R125). In role VAN there is no ring to move. -/
def State.rotateRing (s : State) : State :=
  if s.isVan then s else s.setBu { s.bu with ring := ({ outs := 0, ins := 0 } : Bin) :: s.bu.ring.take 11 }

/-- A minute boundary taken (R12): the windows are evaluated, and the HU, the BU and, on a date change, the FU act on it. -/
def State.takeBoundary (s : State) (t : Time) : State :=
  let s1 := s.evaluateWindows
  let s2 := if t % 86400 = 0 then s1.emptySpend else s1
  let s3 := s2.hireBoundary
  (if t / 60 % 5 = 0 then s3.rotateRing else s3).recomputeNeed

/-- MINUTE_BOUNDARY (R12): the oldest boundary passed and not yet taken. -/
def execMinuteBoundary (s : State) : Host.Outcome State Fault Refusal :=
  .next (match s.clk.boundaries with
    | [] => s
    | t :: rest => if s.inReset then s else (s.setClk { s.clk with boundaries := rest }).takeBoundary t)

/-! ### The backup domain (R3) -/

/-- BACKUP_DOMAIN_POWER_LOST (R3): with main power absent the domain loses its state and its validity mark, and raw ticks stop. Its
state is not read again before a POWER start begins it afresh. -/
def execBackupDomainPowerLost (s : State) : Host.Outcome State Fault Refusal :=
  .next (if s.sup.powerHold.isSome then s.setDom { s.clk.dom with valid := false, powered := false } else s)

/-! ### Kiosk requests on time -/

/-- SET TIME (R7). -/
def execSetTime (t : CalendarTime) (s : State) : Host.Outcome State Fault Refusal :=
  .next (s.serve (.setTime t) fun s =>
    if calendarExists t then (s.setTime (secondsOf t)).reply .ok else s.reply .badValue)

/-- A calendar time in an answer, its weekday after the second (R186). -/
def calendarBytes (t : Time) : List Byte :=
  let c := calendarOf t
  u16 c.year ++ u8 c.month ++ u8 c.day ++ u8 c.hour ++ u8 c.minute ++ u8 c.second ++ u8 (weekdayOf t)

/-- A step amount: a sign byte and the size in 4 bytes (R186). -/
def stepBytes (a : Int) : List Byte := flagByte (decide (a < 0)) ++ u32 a.natAbs

/-- The body of a GET TIME answer (R16). -/
def State.timeBody (s : State) : List Byte :=
  u32 s.now ++ calendarBytes s.now ++ u8 s.clk.dom.grade ++ u16 s.clk.dom.gradeTimer ++ flagByte s.clk.dom.clockLost ++
    optionBytes (fun (w : Slew) => u8 (codeIn slewDirections w.direction) ++ u16 w.count) s.clk.slew ++
    signedBytes 4 s.clk.dom.drift ++ signedBytes 1 s.clk.dom.temperature ++
    optionBytes (fun (r : StepRecord) => u16 (r.source.getD 0) ++ stepBytes r.amount) s.clk.lastStep

/-- GET TIME (R16). -/
def execGetTime (s : State) : Host.Outcome State Fault Refusal :=
  .next (s.serve .getTime fun s => (s.putCause .time false).answer .ok s.timeBody)

/-- LOAD WINDOW (R13). -/
def execLoadWindow (index : Nat) (fields : WindowFields) (s : State) : Host.Outcome State Fault Refusal :=
  .next (s.serve (.loadWindow index fields) fun s =>
    match windowOf fields with
    | some w =>
      if h : index < 8 then
        (((s.setClk { s.clk with windows := s.clk.windows.set index w }).mark (.window index)).evaluateWindows).reply .ok
      else s.reply .badValue
    | none => s.reply .badValue)

end Sys2Proof.Machine
end

