-- ==== Sys2Proof/Machine/Van.lean ====
section
/-!
DEFINITION. The van role of the balance unit (R135 to R145): the own claim list, the van session with its takes in flight, and
the load list, with the requests of the van's host, the notices a station addresses to a van, and the van's timers.
-/
namespace Sys2Proof.Machine

def State.setVanSession (s : State) (v : Option VanSession) : State := s.setBu { s.bu with vanSession := v }

def State.setOwnClaims (s : State) (l : List VanClaim) : State := s.setBu { s.bu with ownClaims := l }

def State.setLastTake (s : State) (o : LastTake) : State := s.setBu { s.bu with lastTake := some o }

/-! ### Claims (R135 to R137) -/

def VanClaim.final (c : VanClaim) : Bool :=
  decide (c.state = .refused) || decide (c.state = .lapsed) || decide (c.state = .expired) || decide (c.state = .used)

/-- The claim is GRANTED or TRIMMED (R137). -/
def VanClaim.granting (c : VanClaim) : Bool := decide (c.state = .granted) || decide (c.state = .trimmed)

/-- The own claim list with room for a claim: from a full list the oldest claim in a final state is removed (R137). -/
def roomForClaim (l : List VanClaim) : Option (List VanClaim) :=
  if l.length < 4 then some l
  else if l.any VanClaim.final then some (l.eraseP VanClaim.final)
  else none

/-- The CLAIM notice of a claim (R135). -/
def VanClaim.notice (c : VanClaim) : NoticeBody := .claim c.serial c.action c.amount c.lifetime

/-- The serial counter advanced and marked (R135). -/
def State.useClaimSerial (s : State) : State :=
  (s.setBu { s.bu with claimSerial := nextByteSerial s.bu.claimSerial }).mark .counters

/-- The claim a CLAIM request makes (R135). It holds the amount 0 until an answer gives it one: DESIGN CHOICE, assumption log 67. -/
def State.newClaim (s : State) (station : Node) (action : ClaimAction) (amount lifetime : Nat) : VanClaim :=
  { serial := s.bu.claimSerial, station := station, action := action, amount := amount, lifetime := lifetime, granted := 0,
    state := .waiting, refusal := none, tries := 1, lifeStart := s.timebase, answerStart := s.timebase }

/-- The action CLAIM carries, when every field lies in its range (R135). -/
def State.claimFields (s : State) (station action amount lifetime : Nat) : Option ClaimAction :=
  if s.otherNode station && decide (1 ≤ amount) && decide (amount ≤ 24) && decide (5 ≤ lifetime) && decide (lifetime ≤ 90) then
    claimActions[action]?
  else none

/-- CLAIM (R135). -/
def execClaim (station : Node) (action amount lifetime : Nat) (s : State) : Host.Outcome State Fault Refusal :=
  .next (s.serve (.claim station action amount lifetime) fun s =>
    match s.claimFields station action amount lifetime with
    | none => s.reply .badValue
    | some a =>
      match roomForClaim s.bu.ownClaims with
      | none => s.reply .full
      | some l =>
        let c := s.newClaim station a amount lifetime
        (((s.setOwnClaims (l ++ [c])).useClaimSerial).originate c.notice station).answer .ok (u16 s.node ++ u8 c.serial))

/-- The claim with a serial that waits for its answer. -/
def VanClaim.waitsAs (c : VanClaim) (serial : Serial) : Bool := decide (c.serial = serial) && decide (c.state = .waiting)

/-- CLAIM_ANSWER_TIMEOUT (R136): the CLAIM is sent again, or after three sends the claim is LAPSED. -/
def execClaimAnswerTimeout (serial : Serial) (s : State) : Host.Outcome State Fault Refusal :=
  .next (if s.running then
      match s.bu.ownClaims.find? fun c => c.waitsAs serial with
      | none => s
      | some c =>
        let s := s.reached (c.answerStart + 10000)
        if c.tries < 3 then
          (s.setOwnClaims (updateFirst (fun c => c.waitsAs serial)
            (fun c => { c with tries := c.tries + 1, answerStart := s.timebase }) s.bu.ownClaims)).originate c.notice c.station
        else
          (s.setOwnClaims (updateFirst (fun c => c.waitsAs serial) (fun c => { c with state := .lapsed }) s.bu.ownClaims)).raise
            .van
    else s)

/-- A claim after its CLAIM ANSWER (R136). -/
def VanClaim.answered (c : VanClaim) (outcome : ClaimOutcome) (granted : Nat) : VanClaim :=
  match outcome with
  | .granted => { c with state := .granted, granted := granted }
  | .trimmed => { c with state := .trimmed, granted := granted }
  | .refusedNoNeed | .refusedFull | .refusedNotAvailable => { c with state := .refused, refusal := some outcome, granted := 0 }

/-- A CLAIM ANSWER (R136). -/
def State.takeClaimAnswer (s : State) (serial : Serial) (outcome : ClaimOutcome) (granted : Nat) : State :=
  if s.bu.ownClaims.any fun c => c.waitsAs serial then
    (s.setOwnClaims (updateFirst (fun c => c.waitsAs serial) (fun c => c.answered outcome granted) s.bu.ownClaims)).raise .van
  else s

/-- The van session is with this station, OPEN or CLOSING (R137). -/
def State.servedBy (s : State) (station : Node) : Bool :=
  s.bu.vanSession.any fun v => decide (v.station = station) && !decide (v.state = .opening)

/-- VAN_CLAIM_EXPIRY (R137). -/
def execVanClaimExpiry (serial : Serial) (s : State) : Host.Outcome State Fault Refusal :=
  .next (if s.running then
      match s.bu.ownClaims.find? fun c => decide (c.serial = serial) && c.granting with
      | none => s
      | some c =>
        let s := s.reached (c.lifeStart + c.lifetime * 60000)
        if s.servedBy c.station then s
        else
          s.setOwnClaims (updateFirst (fun c => decide (c.serial = serial) && c.granting) (fun c => { c with state := .expired })
            s.bu.ownClaims)
    else s)

/-! ### The van session (R138, R139, R142, R143) -/

/-- A session with a station ends: every take in flight is ended, the station's GRANTED and TRIMMED claims become USED and VAN is
raised (R137, R139, R142, R143). -/
def State.endVanSession (s : State) (station : Node) : State :=
  ((s.setVanSession none).setOwnClaims (s.bu.ownClaims.map fun c =>
    if c.station = station ∧ c.granting then { c with state := .used } else c)).raise .van

/-- OPEN SESSION (R138). Until a SESSION ANSWER has reported an allowance the session holds 0: DESIGN CHOICE, assumption log 54. -/
def execOpenSession (station : Node) (s : State) : Host.Outcome State Fault Refusal :=
  .next (s.serve (.openSession station) fun s =>
    if s.otherNode station = false then s.reply .badValue
    else if s.bu.vanSession.isSome then s.reply .busy
    else
      ((s.setVanSession (some { state := .opening, station := station, tries := 1, answerStart := s.timebase, allowance := 0,
                                inFlight := [], nextRequest := 0, idleStart := s.timebase })).originate .sessionOpen
        station).reply .ok)

/-- The answer timer of a session sends its notice again and starts afresh (R138, R142). -/
def State.retrySession (s : State) (v : VanSession) (body : NoticeBody) : State :=
  (s.setVanSession (some { v with tries := v.tries + 1, answerStart := s.timebase })).originate body v.station

/-- SESSION_ANSWER_TIMEOUT (R138, R142): the SESSION OPEN or SESSION CLOSE is sent again, or after three sends the session is
given up. -/
def execSessionAnswerTimeout (s : State) : Host.Outcome State Fault Refusal :=
  .next (if s.running then
      match s.bu.vanSession with
      | none => s
      | some v =>
        match v.state with
        | .opened => s
        | .opening =>
          let s := s.reached (v.answerStart + 10000)
          if v.tries < 3 then s.retrySession v .sessionOpen else (s.setVanSession none).raise .van
        | .closing =>
          let s := s.reached (v.answerStart + 10000)
          if v.tries < 3 then s.retrySession v .sessionClose else s.endVanSession v.station
    else s)

/-- A SESSION ANSWER (R138, R142). -/
def State.takeSessionAnswer (s : State) (station : Node) (outcome : SessionOutcome) (allowance : Nat) : State :=
  match s.bu.vanSession with
  | none => s
  | some v =>
    if v.station = station then
      match v.state, outcome with
      | .opening, .opened =>
        (s.setBu { s.bu with
          vanSession := some { v with state := .opened, allowance := allowance, nextRequest := 0, inFlight := [],
                                      idleStart := s.timebase },
          vanSummary := none }).raise .van
      | .opening, .busy | .opening, .notAvailable => (s.setVanSession none).raise .van
      | .closing, .noSession => s.endVanSession station
      | _, _ => s
    else s

/-- VAN_SESSION_IDLE_TIMEOUT (R139). The idle timer runs in every state of the session (R138) and ends one in OPEN only: DESIGN CHOICE,
assumption log 72. -/
def execVanSessionIdleTimeout (s : State) : Host.Outcome State Fault Refusal :=
  .next (if s.running then
      match s.bu.vanSession with
      | none => s
      | some v => if v.state = .opened then (s.reached (v.idleStart + 900000)).endVanSession v.station else s
    else s)

/-- ANNOUNCE DELIVERY (R142). -/
def execAnnounceDelivery (bikes : List Bike) (s : State) : Host.Outcome State Fault Refusal :=
  .next (s.serve (.announceDelivery bikes) fun s =>
    if bikes.isEmpty || decide (8 < bikes.length) || !bikes.all bikeInRange then s.reply .badValue
    else
      match s.bu.vanSession with
      | none => s.reply .notFound
      | some v => if v.state = .opened then (s.originate (.deliveryNote bikes) v.station).reply .ok else s.reply .notFound)

/-- CLOSE SESSION (R142). -/
def execCloseSession (s : State) : Host.Outcome State Fault Refusal :=
  .next (s.serve .closeSession fun s =>
    match s.bu.vanSession with
    | none => s.reply .notFound
    | some v =>
      if v.state = .opened then
        ((s.setVanSession (some { v with state := .closing, tries := 1, answerStart := s.timebase })).originate .sessionClose
          v.station).reply .ok
      else s.reply .notFound)

/-! ### The load list (R144, R145) -/

/-- A bike added to the load list, or refused with a SESSION note when the list holds 30 (R144). -/
def State.addLoad (s : State) (b : Bike) (station : Node) (quarantined : Bool) : State :=
  if s.bu.load.any fun l => decide (l.bike = b) then s
  else if 30 ≤ s.bu.load.length then s.postNote (.session s.node station [b] [] [])
  else
    s.setBu { s.bu with load := s.bu.load ++ [{ bike := b, station := station, quarantined := quarantined, time := s.now }] }

/-- UNLOAD (R145). -/
def execUnload (b : Bike) (s : State) : Host.Outcome State Fault Refusal :=
  .next (s.serve (.unload b) fun s =>
    if bikeInRange b = false then s.reply .badValue
    else if s.bu.load.any fun l => decide (l.bike = b) then
      (s.setBu { s.bu with load := s.bu.load.filter fun l => !decide (l.bike = b) }).reply .ok
    else s.reply .notFound)

/-- A SESSION SUMMARY (R143): the load list is reconciled and the session ends. The collected bikes are added before the delivered ones
are removed: DESIGN CHOICE, assumption log 68. -/
def State.takeSessionSummary (s : State) (station : Node) (m : SummaryBody) : State :=
  if s.servedBy station then
    let s1 := m.collected.foldl (fun t b => t.addLoad b station (t.du.quarantined b)) s
    let s2 := s1.setBu { s1.bu with load := s1.bu.load.filter fun l => !m.delivered.contains l.bike, vanSummary := some m }
    s2.endVanSession station
  else s

/-! ### Takes (R140, R141) -/

/-- The request's take waits for its answer. -/
def VanTake.asks (t : VanTake) (request : Serial) : Bool := decide (t.request = request) && decide (t.state = .asked)

/-- The takes in flight of the session changed. -/
def State.setTakes (s : State) (v : VanSession) (l : List VanTake) : State := s.setVanSession (some { v with inFlight := l })

/-- TAKE (R140). -/
def execTake (dock : Nat) (s : State) : Host.Outcome State Fault Refusal :=
  .next (s.serve (.take dock) fun s =>
    if dockInRange dock = false then s.reply .badValue
    else
      match s.bu.vanSession with
      | none => s.reply .notFound
      | some v =>
        if v.state ≠ .opened then s.reply .notFound
        else if 30 ≤ s.bu.load.length + v.inFlight.length then s.reply .vanFull
        else
          let t : VanTake := { request := v.nextRequest, dock := dock, state := .asked, tries := 1, timerStart := s.timebase }
          ((s.setVanSession (some { v with inFlight := v.inFlight ++ [t], nextRequest := nextByteSerial v.nextRequest })).originate
            (.takeRequest t.request dock) v.station).answer .ok (u8 t.request))

/-- A take ends with an outcome and VAN is raised (R140). -/
def State.endTake (s : State) (v : VanSession) (p : VanTake → Bool) (o : LastTake) : State :=
  ((s.setTakes v (v.inFlight.eraseP p)).setLastTake o).raise .van

/-- TAKE_ANSWER_TIMEOUT (R140): the TAKE REQUEST is sent again, or after three sends the take ends. -/
def execTakeAnswerTimeout (request : Serial) (s : State) : Host.Outcome State Fault Refusal :=
  .next (if s.running then
      match s.bu.vanSession with
      | none => s
      | some v =>
        match v.inFlight.find? fun t => t.asks request with
        | none => s
        | some t =>
          let s := s.reached (t.timerStart + 2000)
          if t.tries < 3 then
            (s.setTakes v (updateFirst (fun t => t.asks request)
              (fun t => { t with tries := t.tries + 1, timerStart := s.timebase }) v.inFlight)).originate
              (.takeRequest request t.dock) v.station
          else s.endTake v (fun t => t.asks request) .noAnswer
    else s)

/-- The request's take waits for its completion. -/
def VanTake.completes (t : VanTake) (request : Serial) : Bool := decide (t.request = request) && decide (t.state = .granted)

/-- TAKE_COMPLETION_TIMEOUT (R140). -/
def execTakeCompletionTimeout (request : Serial) (s : State) : Host.Outcome State Fault Refusal :=
  .next (if s.running then
      match s.bu.vanSession with
      | none => s
      | some v =>
        match v.inFlight.find? fun t => t.completes request with
        | none => s
        | some t => (s.reached (t.timerStart + 30000)).endTake v (fun t => t.completes request) .noAnswer
    else s)

/-- A TAKE ANSWER (R139, R140). One for a request not in flight, or for a take already GRANTED, changes nothing. -/
def State.takeVanTakeAnswer (s : State) (station : Node) (request : Serial) (outcome : TakeOutcome) : State :=
  match s.bu.vanSession with
  | none => s
  | some v =>
    if v.station = station ∧ (v.inFlight.any fun t => t.asks request) then
      if outcome = .granted then
        s.setTakes v (updateFirst (fun t => t.asks request) (fun t => { t with state := .granted, timerStart := s.timebase })
          v.inFlight)
      else if outcome = .refusedNoSession ∧ v.state = .opened then s.endVanSession station
      else s.endTake v (fun t => t.asks request) (.answered outcome)
    else s

/-- A TAKE DONE (R141): the take in flight ends, VAN is raised, and the bike carried is loaded. -/
def State.takeDone (s : State) (station : Node) (request : Serial) (bike : Option Bike) (quarantined : Bool) : State :=
  match s.bu.vanSession with
  | none => s
  | some v =>
    if v.station = station then
      let s1 :=
        if v.inFlight.any fun t => decide (t.request = request) then
          s.endTake v (fun t => decide (t.request = request)) (if bike.isSome then .answered .granted else .lapsed)
        else s.raise .van
      match bike with
      | some b => s1.addLoad b station quarantined
      | none => s1
    else s

/-! ### Reading the van's state (R145) -/

/-- A kept summary in an answer: its fields in the order of R133, each list preceded by its own count (R186). -/
def SummaryBody.answerBytes (m : SummaryBody) : List Byte :=
  listBytes u24 m.collected ++ listBytes u24 m.delivered ++ listBytes u24 m.undelivered ++ u8 m.allowanceAtOpen ++
    u8 m.allowanceUsed

/-- The body of a READ LOAD answer (R145). -/
def State.loadBody (s : State) : List Byte :=
  listBytes (fun (l : LoadedBike) => u24 l.bike ++ u16 l.station ++ flagByte l.quarantined ++ u32 l.time) s.bu.load ++
    u16 s.bu.load.length ++
    (match s.bu.vanSession with
      | none => u8 0 ++ u16 0 ++ [0]
      | some v => u8 (codeIn vanSessionStates v.state + 1) ++ u16 v.station ++ (1 :: u8 v.allowance)) ++
    listBytes (fun (t : VanTake) => u8 t.request ++ u8 t.dock ++ u8 (codeIn vanTakeStates t.state))
      ((s.bu.vanSession.map (·.inFlight)).getD []) ++
    optionBytes (fun o => u8 (LastTake.code o)) s.bu.lastTake ++
    optionBytes SummaryBody.answerBytes s.bu.vanSummary

/-- READ LOAD (R145). -/
def execReadLoad (s : State) : Host.Outcome State Fault Refusal :=
  .next (s.serve .readLoad fun s => s.answer .ok s.loadBody)

/-- One claim in a READ CLAIMS answer (R145). -/
def VanClaim.bytes (node : Node) (now : Millis) (c : VanClaim) : List Byte :=
  u16 node ++ u8 c.serial ++ u16 c.station ++ u8 (codeIn claimActions c.action) ++ u8 c.amount ++ u8 c.granted ++
    u8 (codeIn vanClaimStates c.state) ++ optionBytes (fun o => u8 (codeIn claimOutcomes o)) c.refusal ++ u8 c.tries ++
    u16 (secondsLeft now c.lifeStart (c.lifetime * 60000))

/-- READ CLAIMS (R145). -/
def execReadClaims (s : State) : Host.Outcome State Fault Refusal :=
  .next (s.serve .readClaims fun s => s.answer .ok (listBytes (VanClaim.bytes s.node s.timebase) s.bu.ownClaims))

end Sys2Proof.Machine
end

