-- ==== Sys2Proof/Machine/Street.lean ====
section
/-!
DEFINITION. The street link controller (Chapter 2): medium access (R22 to R25), receiving (R26 to R28), the seen list (R29, R30),
relaying (R31 to R33), quiet (R34 to R36), the neighbour table (R37) and beacons (R38, R39).
-/
namespace Sys2Proof.Machine

/-! ### Beacons (R38, R39) -/

/-- The body of a BEACON from the state as it stands (R39). -/
def State.beaconBody (s : State) : BeaconBody :=
  let van := s.isVan
  { role := s.sup.image.role, time := s.now, grade := s.clk.dom.grade, supply := s.sup.supply,
    closed := !van && s.clk.closed,
    available := if van then s.bu.load.length else s.countA,
    quarantined := if van then 0 else s.countQd,
    working := if van then 0 else s.countW,
    need := if van then 0 else s.bu.published,
    quiet := decide (6 ≤ s.slc.relays.length) }

/-- The beacon period of a supply state in ms (R38). -/
def beaconPeriod : SupplyState → Nat
  | .normal => 15000
  | .saving => 60000
  | .critical => 120000

/-- The beacon timer set to a time from now plus a random 0 to 1000 ms (R38). -/
def State.setBeaconTimer (s : State) (after : Nat) : State :=
  (s.setSlc { s.slc with beaconTimer := some (s.timebase + after + s.draw 1001) }).drawn

/-- BEACON_TIMER_EXPIRY (R38). -/
def execBeaconTimerExpiry (s : State) : Host.Outcome State Fault Refusal :=
  .next (match s.slc.beaconTimer with
    | none => s
    | some t =>
      if s.running then
        let s := s.reached t
        (if s.neighbourQuiet then s else s.flood (.beacon s.beaconBody)).setBeaconTimer (beaconPeriod s.sup.supply)
      else s)

/-! ### Medium access (R22 to R25) -/

/-- A busy find (R22, R23): k rises up to 7, a fresh draw is added to a held count, and the access is back in SENSE. -/
def Access.busyFind (a : Access) (draw : Nat → Nat) : Access :=
  let k := min 7 (a.exponent + 1)
  { phase := .sense, exponent := k, busyFinds := a.busyFinds + 1, held := a.held.map fun h => h + draw (2 ^ k), idleSlots := 0 }

/-- The entry in access. -/
def State.inAccess (s : State) : Option QueueEntry := s.slc.queue.find? fun e => e.access.isSome

/-- The access of the entry in access replaced. -/
def State.setAccess (s : State) (a : Access) : State :=
  s.setSlc { s.slc with
    queue := updateFirst (fun e => e.access.isSome) (fun e => { e with access := some a }) s.slc.queue }

/-- The eighth busy find ends an access: a BACKGROUND notice is dropped, any other moves to the tail of its class (R24). -/
def State.abandonAccess (s : State) (e : QueueEntry) : State :=
  let others := s.slc.queue.eraseP fun x => x.access.isSome
  (if e.cls = .background then
    s.setSlc { s.slc with queue := others, txDrops := saturate 65535 s.slc.txDrops }
  else s.setSlc { s.slc with queue := others ++ [{ e with access := none }] }).reselect

/-- The notice in access counts a busy find (R22 to R24). -/
def State.findBusy (s : State) : State :=
  match s.inAccess with
  | some e =>
    match e.access with
    | some a =>
      if 8 ≤ a.busyFinds + 1 then s.abandonAccess e
      else
        let s1 := s.setAccess (a.busyFind s.draw)
        if a.held.isSome then s1.drawn else s1
    | none => s
  | none => s

/-- The radio is listened to: LISTEN or RUN, and no frame of this node's own in flight (R26). -/
def State.listening (s : State) : Bool := s.awake && s.slc.transmitting.isNone

def State.setAssembly (s : State) (a : Assembly) : State := s.setSlc { s.slc with assembly := a }

/-- CARRIER_RISE (R22, R23, R26). The line's level is followed at all times; while the part transmits or does not receive, the
rise has no other effect (R25, R40). -/
def execCarrierRise (s : State) : Host.Outcome State Fault Refusal :=
  .next (if s.slc.carrier then s
    else
      let s1 := s.setSlc { s.slc with carrier := true }
      if s.listening then (s1.setAssembly (.receiving none)).findBusy else s1)

/-- The seen list after an identity enters it: from a full list the oldest is removed first (R29). -/
def enterSeen (seen : List Ident) (id : Ident) : List Ident := if id ∈ seen then seen else pushBounded 64 seen id

def Notice.ident (n : Notice) : Ident := { node := n.origin, serial := n.serial }

/-- The notice as it goes on air: the body of a BEACON is formed now (R25, R39). -/
def State.formed (s : State) (n : Notice) : Notice :=
  match n.body with
  | .beacon _ => { n with body := .beacon s.beaconBody }
  | _ => n

/-- The transmission of the notice in access begins (R25, R34). -/
def State.transmit (s : State) (e : QueueEntry) : State :=
  let n := s.formed e.notice
  s.setSlc { s.slc with
    queue := s.slc.queue.eraseP fun x => x.access.isSome,
    transmitting := some n,
    radioOut := n.frame,
    seen := if n.body.scope = .flooded ∧ n.origin = s.node then enterSeen s.slc.seen n.ident else s.slc.seen,
    ownQuiet := if n.body.kindCode = 8 then some s.timebase else s.slc.ownQuiet }

/-- The access goes on in COUNT with a held count, or its transmission begins when the count is 0 (R22, R23). -/
def State.countDown (s : State) (e : QueueEntry) (a : Access) (count : Nat) : State :=
  if count = 0 then s.transmit e else s.setAccess { a with phase := .count, held := some count, idleSlots := 0 }

/-- An idle slot of the access ends (R22, R23). -/
def State.slotEnds (s : State) (e : QueueEntry) (a : Access) : State :=
  match a.phase with
  | .sense =>
    if a.idleSlots + 1 < 2 then s.setAccess { a with idleSlots := a.idleSlots + 1 }
    else
      match a.held with
      | some h => s.countDown e a h
      | none => (s.countDown e a (s.draw (2 ^ a.exponent))).drawn
  | .count => s.countDown e a (a.held.getD 0 - 1)

/-- SLOT_END (R22, R23): an idle slot of 10 ms ends with a notice in access. -/
def execSlotEnd (s : State) : Host.Outcome State Fault Refusal :=
  .next (match s.inAccess with
    | some e =>
      match e.access with
      | some a =>
        if s.running && s.slc.transmitting.isNone && !s.slc.carrier then
          let s1 := s.reached (s.slc.slotStart + 10)
          (s1.setSlc { s1.slc with slotStart := s.slc.slotStart + 10 }).slotEnds e a
        else s
      | none => s
    | none => s)

/-- TRANSMISSION_END (R25): the next notice is chosen and its access begins. -/
def execTransmissionEnd (s : State) : Host.Outcome State Fault Refusal :=
  .next (if s.slc.transmitting.isSome ∧ s.inReset = false then (s.setSlc { s.slc with transmitting := none }).reselect else s)

/-! ### Receiving (R26, R27) -/

/-- An error counted adds to the new-error sum, and a sum of 16 raises LINK (R27). -/
def State.countError (s : State) : State :=
  let sum := saturate 65535 s.slc.newErrors
  let s1 := s.setSlc { s.slc with newErrors := sum }
  if 16 ≤ sum then s1.raise .link else s1

def State.checkError (s : State) : State := (s.setSlc { s.slc with errCheck := saturate 65535 s.slc.errCheck }).countError
def State.lengthError (s : State) : State := (s.setSlc { s.slc with errLength := saturate 65535 s.slc.errLength }).countError
def State.overrunError (s : State) : State := (s.setSlc { s.slc with errOverrun := saturate 65535 s.slc.errOverrun }).countError
def State.truncatedError (s : State) : State :=
  (s.setSlc { s.slc with errTruncated := saturate 65535 s.slc.errTruncated }).countError

/-- BODY_LENGTH_ARRIVED (R26): a length over 255 ends the frame at once. -/
def execBodyLengthArrived (length : Nat) (s : State) : Host.Outcome State Fault Refusal :=
  .next (if s.listening ∧ s.slc.assembly = .receiving none then
      if 255 < length then (s.setAssembly .ended).lengthError else s.setAssembly (.receiving (some length))
    else s)

/-- CARRIER_FALL (R26): a frame begun and not complete is discarded as TRUNCATED; slots are measured from now. -/
def execCarrierFall (gotByte : Bool) (s : State) : Host.Outcome State Fault Refusal :=
  .next (if s.slc.carrier then
      let s1 := s.setSlc { s.slc with carrier := false, slotStart := s.timebase }
      if s.listening then
        match s.slc.assembly with
        | .receiving none => if gotByte then (s1.setAssembly .idle).truncatedError else s1.setAssembly .idle
        | .receiving (some _) => (s1.setAssembly .idle).truncatedError
        | .ended | .idle => s1.setAssembly .idle
      else s1
    else s)

/-- A frame of this stated body length can complete in the assembly. -/
def Assembly.completes (a : Assembly) (length : Nat) : Bool :=
  match a with
  | .receiving none => true
  | .receiving (some n) => decide (n = length)
  | .idle | .ended => false

/-- The bytes are a whole frame: a body length of at most 255, and as many bytes as it requires (R26, R185). -/
def wholeFrame (frame : List Byte) : Bool :=
  decide (fieldAt frame 0 2 ≤ 255) && decide (frame.length = 14 + fieldAt frame 0 2)

/-- FRAME_COMPLETED (R26): the frame enters the receive buffer, or is discarded as OVERRUN. -/
def execFrameCompleted (frame : List Byte) (s : State) : Host.Outcome State Fault Refusal :=
  .next (if s.listening ∧ wholeFrame frame ∧ s.slc.assembly.completes (fieldAt frame 0 2) then
      let s1 := s.setAssembly .ended
      if s.slc.rxBuffer.length < 4 then s1.setSlc { s1.slc with rxBuffer := s1.slc.rxBuffer ++ [frame] } else s1.overrunError
    else s)

/-! ### The neighbour table (R35, R37) -/

def State.setNeighbours (s : State) (l : List Neighbour) : State := s.setSlc { s.slc with neighbours := l }

/-- A fresh entry of a node heard now (R37). -/
def State.newNeighbour (s : State) (node : Node) : Neighbour :=
  { node := node, role := none, lastHeard := s.now, ageStart := s.timebase, beacon := none, quietUntil := none }

/-- The start of the age timer of the oldest entry (R37). -/
def oldestStart : List Neighbour → Option Millis
  | [] => none
  | n :: rest => some ((oldestStart rest).elim n.ageStart (min n.ageStart))

/-- The entry of a valid notice's sender made or refreshed (R37). Of several entries of a full table that share the greatest age the
first in table order is replaced: DESIGN CHOICE, assumption log 47. -/
def State.hearSender (s : State) (node : Node) : State :=
  if s.slc.neighbours.any fun e => decide (e.node = node) then
    s.setNeighbours (updateFirst (fun e => decide (e.node = node))
      (fun e => { e with lastHeard := s.now, ageStart := s.timebase }) s.slc.neighbours)
  else if s.slc.neighbours.length < 16 then s.setNeighbours (s.slc.neighbours ++ [s.newNeighbour node])
  else
    match oldestStart s.slc.neighbours with
    | some t =>
      if t + 60000 < s.timebase then
        s.setNeighbours (updateFirst (fun e => decide (e.ageStart = t)) (fun _ => s.newNeighbour node) s.slc.neighbours)
      else s.setSlc { s.slc with neighbourDrops := saturate 65535 s.slc.neighbourDrops }
    | none => s

/-- A neighbour's entry changed, where there is one. -/
def State.updateNeighbour (s : State) (node : Node) (f : Neighbour → Neighbour) : State :=
  s.setNeighbours (updateFirst (fun e => decide (e.node = node)) f s.slc.neighbours)

/-- The quiet-until after a beacon whose quiet flag is set, heard at a moment (R35). -/
def quietFromBeacon (now : Millis) : Option Millis → Option Millis
  | none => some (now + 20000)
  | some t => some (max t (now + 20000))

def BeaconBody.part (b : BeaconBody) : BeaconPart :=
  { time := b.time, grade := b.grade, supply := b.supply, closed := b.closed, available := b.available,
    quarantined := b.quarantined, working := b.working, need := b.need }

/-- A beacon heard: the sender's role, beacon part and quiet flag, and the CLK's adoption (R8, R35, R39). -/
def State.hearBeacon (s : State) (sender : Node) (b : BeaconBody) : State :=
  (s.updateNeighbour sender fun e =>
    { e with role := some b.role, beacon := some b.part,
             quietUntil := if b.quiet then quietFromBeacon s.timebase e.quietUntil else e.quietUntil }).takeBeaconTime sender
    b.time b.grade

/-! ### Handing notices on (R18, R28) -/

/-- A valid notice handed to the block that owns its kind. -/
def State.deliver (s : State) (n : Notice) : State :=
  match n.body with
  | .hireOpen hire card _ bike start _ => s.takeHireOpen hire card bike start
  | .hireClose bike endTime endGrade hire => s.takeHireClose n.origin bike endTime endGrade hire
  | .hireSettled hire bike endNode endTime outcome => s.takeHireSettled hire bike endNode endTime outcome
  | .cardHold hold card reason => s.takeCardHold hold card reason
  | .cardLift card reason => s.liftHolds card reason
  | .fault id bike kind severity => s.takeFault id bike kind severity
  | .faultClear bike clearedAt => s.takeFaultClear bike clearedAt
  | .beacon b => s.hearBeacon n.sender b
  | .quiet seconds => s.updateNeighbour n.sender fun e => { e with quietUntil := some (s.timebase + seconds * 1000) }
  | .resume => s.updateNeighbour n.sender fun e => { e with quietUntil := none }
  | .claim serial action amount lifetime => s.takeClaim n.origin serial action amount lifetime
  | .claimAnswer serial outcome granted => if s.isVan then s.takeClaimAnswer serial outcome granted else s
  | .sessionOpen => s.takeSessionOpen n.origin
  | .sessionAnswer outcome allowance => if s.isVan then s.takeSessionAnswer n.origin outcome allowance else s
  | .takeRequest request dock => s.takeTakeRequest n.origin request dock
  | .takeAnswer request outcome => if s.isVan then s.takeVanTakeAnswer n.origin request outcome else s
  | .takeDone request _ bike quarantined => if s.isVan then s.takeDone n.origin request bike quarantined else s
  | .deliveryNote bikes => s.takeDeliveryNote n.origin bikes
  | .sessionClose => s.takeSessionClose n.origin
  | .sessionSummary m => if s.isVan then s.takeSessionSummary n.origin m else s

/-! ### Flooding (R30 to R33) -/

def RelayEntry.isFor (e : RelayEntry) (id : Ident) : Bool := decide (e.notice.ident = id)

/-- A further hearing of a relay entry's identity: the second cancels it (R32). -/
def State.suppress (s : State) (id : Ident) : State :=
  match s.slc.relays.find? fun e => e.isFor id with
  | none => s
  | some e =>
    if 2 ≤ e.hearings + 1 then s.setRelays (s.slc.relays.eraseP fun e => e.isFor id)
    else s.setRelays (updateFirst (fun e => e.isFor id) (fun e => { e with hearings := e.hearings + 1 }) s.slc.relays)

/-- The supply state and the quiet neighbours let the kind be relayed (R31, R33, R36). -/
def State.mayRelay (s : State) (body : NoticeBody) : Bool :=
  relayPermitted s.sup.supply body && (!s.neighbourQuiet || body.passesQuiet)

/-- The copy a relay sends (R31). -/
def State.relayCopy (s : State) (n : Notice) : Notice := { n with hops := n.hops - 1, sender := s.node }

/-- A relay entry made for a notice heard first, when the conditions of R31 hold. -/
def State.relay (s : State) (n : Notice) : State :=
  if s.sup.start = .run ∧ 1 ≤ n.hops ∧ s.mayRelay n.body then
    if 8 ≤ s.slc.relays.length then s.setSlc { s.slc with relayDrops := saturate 65535 s.slc.relayDrops }
    else
      (s.drawn).setRelays (s.slc.relays ++
        [{ notice := s.relayCopy n, start := s.timebase, delay := s.draw 2001, hearings := 0 }])
  else s

/-- A valid flooded notice heard (R30, R31). At its first hearing it is handed on first, with what its owner then originates, and the
relay entry is made after that: DESIGN CHOICE, assumption log 59. -/
def State.hearFlooded (s : State) (n : Notice) : State :=
  if n.ident ∈ s.slc.seen then s.suppress n.ident
  else
    let s1 := s.setSlc { s.slc with seen := enterSeen s.slc.seen n.ident }
    if n.origin = s.node then s1
    else
      let s2 := s1.deliver n
      if s2.slc.relays.any fun e => e.isFor n.ident then s2.suppress n.ident else s2.relay n

/-- A valid notice dealt with by its scope (R28). -/
def State.hear (s : State) (n : Notice) : State :=
  let s1 := s.hearSender n.sender
  match n.body.scope with
  | .flooded => s1.hearFlooded n
  | .broadcast => s1.deliver n
  | .addressed => if n.dest = s.node then s1.deliver n else s1

/-- FRAME_PROCESSED (R27, R28): the oldest buffered frame leaves the buffer and is checked. -/
def execFrameProcessed (s : State) : Host.Outcome State Fault Refusal :=
  .next (match s.slc.rxBuffer with
    | [] => s
    | frame :: rest =>
      if s.awake then
        let s1 := s.setSlc { s.slc with rxBuffer := rest }
        match testFrame s.node frame with
        | .badCheck => s1.checkError
        | .badLength => s1.lengthError
        | .valid n => s1.hear n
      else s)

/-- The class of a relayed copy (R18). -/
def relayClass (body : NoticeBody) : TxClass := if body.passesQuiet then .urgent else .normal

/-- RELAY_DELAY_EXPIRY (R32). When the entry that leaves is the third, the RESUME or the withdrawal of R34 comes before the copy joins
the transmit queue: DESIGN CHOICE, assumption log 58. -/
def execRelayDelayExpiry (origin : Node) (serial : Serial) (s : State) : Host.Outcome State Fault Refusal :=
  let id : Ident := { node := origin, serial := serial }
  .next (match s.slc.relays.find? fun e => e.isFor id with
    | none => s
    | some e =>
      if s.awake then
        let s1 := (s.reached (e.start + e.delay)).setRelays (s.slc.relays.eraseP fun e => e.isFor id)
        if s1.mayRelay e.notice.body then s1.enqueue e.notice (relayClass e.notice.body) true else s1
      else s)

/-! ### Timers of quiet and age (R34, R35, R37) -/

/-- OWN_QUIET_EXPIRY (R34). -/
def execOwnQuietExpiry (s : State) : Host.Outcome State Fault Refusal :=
  .next (match s.slc.ownQuiet with
    | none => s
    | some t =>
      if s.awake then
        let s1 := (s.reached (t + 20000)).setSlc { s.slc with ownQuiet := none }
        if 6 ≤ s.slc.relays.length then s1.flood (.quiet 20) else s1
      else s)

/-- NEIGHBOUR_QUIET_EXPIRY (R35). -/
def execNeighbourQuietExpiry (node : Node) (s : State) : Host.Outcome State Fault Refusal :=
  .next (match (s.slc.neighbours.find? fun e => decide (e.node = node)).bind (·.quietUntil) with
    | none => s
    | some t => if s.awake then (s.reached t).updateNeighbour node fun e => { e with quietUntil := none } else s)

/-- NEIGHBOUR_AGE_EXPIRY (R37). -/
def execNeighbourAgeExpiry (node : Node) (s : State) : Host.Outcome State Fault Refusal :=
  .next (match s.slc.neighbours.find? fun e => decide (e.node = node) with
    | none => s
    | some e =>
      if s.awake then
        (s.reached (e.ageStart + 300000)).setNeighbours (s.slc.neighbours.eraseP fun e => decide (e.node = node))
      else s)

/-! ### A change of supply state (R33, R38) -/

/-- The queued entry is a relayed copy of a kind the supply state does not permit (R33). -/
def QueueEntry.barred (e : QueueEntry) (supply : SupplyState) : Bool := e.relayed && !relayPermitted supply e.notice.body

/-- SUP reports a change of supply state: the relays it does not permit are removed and counted, and in RUN the beacon timer
starts again (R33, R38). The copies leave the transmit queue before a RESUME that the fall of the relay queue originates joins it (R34):
DESIGN CHOICE, assumption log 48. -/
def State.supplyChanged (s : State) : State :=
  let supply := s.sup.supply
  let kept := s.slc.relays.filter fun e => relayPermitted supply e.notice.body
  let queue := s.slc.queue.filter fun e => !e.barred supply
  let removed := (s.slc.relays.length - kept.length) + (s.slc.queue.length - queue.length)
  let s1 := (s.setSlc { s.slc with queue := queue, relayDrops := min 65535 (s.slc.relayDrops + removed) }).reselect
  let s2 := s1.setRelays kept
  if s.sup.start = .run then s2.setBeaconTimer 0 else s2

/-! ### Reading the neighbour table (R37) -/

def BeaconPart.bytes (b : BeaconPart) : List Byte :=
  u32 b.time ++ u8 b.grade ++ u8 (codeIn supplyStates b.supply) ++ flagByte b.closed ++ u8 b.available ++ u8 b.quarantined ++
    u8 b.working ++ signedBytes 1 b.need

/-- One entry in a READ NEIGHBOURS answer: the fields of R37 in order, the age standing for its timer (assumption log 13). -/
def Neighbour.bytes (now : Millis) (e : Neighbour) : List Byte :=
  u16 e.node ++ optionBytes (fun r => u8 (codeIn roles r)) e.role ++ u32 e.lastHeard ++ u16 ((now - e.ageStart) / 1000) ++
    optionBytes BeaconPart.bytes e.beacon ++ optionBytes (fun t => u16 (secondsUntil now t)) e.quietUntil

/-- READ NEIGHBOURS (R37). -/
def execReadNeighbours (s : State) : Host.Outcome State Fault Refusal :=
  .next (s.serve .readNeighbours fun s => s.answer .ok (listBytes (Neighbour.bytes s.timebase) s.slc.neighbours))

end Sys2Proof.Machine
end

