-- ==== Sys2Proof/Machine/Supply.lean ====
section
/-!
DEFINITION. Supply and start-up control (Chapter 10): battery readings and supply states (R178 to R180), resets (R181), the start
sequence (R176, R182) and the journal replay (R158, R159, R89).
-/
namespace Sys2Proof.Machine

/-! ### Supply states (R178 to R180) -/

/-- A reading of the battery sense input (R178). -/
def clampReading (input : Nat) : Nat := min 2000 input

/-- The supply state the first reading sets, against the given thresholds (R178). -/
def firstSupply (saving critical reading : Nat) : SupplyState :=
  if reading < critical then .critical else if reading < saving then .saving else .normal

/-- The reading meets the down condition of the state (R179). -/
def meetsDown (i : Image) (st : SupplyState) (reading : Nat) : Bool :=
  match st with
  | .normal => decide (reading < i.saving.level)
  | .saving => decide (reading < i.critical.level)
  | .critical => false

/-- The reading meets the up condition of the state (R179). -/
def meetsUp (i : Image) (st : SupplyState) (reading : Nat) : Bool :=
  match st with
  | .normal => false
  | .saving => decide (i.saving.level + 30 < reading)
  | .critical => decide (i.critical.level + 30 < reading)

def SupplyState.lower : SupplyState → SupplyState
  | .normal => .saving
  | .saving | .critical => .critical

def SupplyState.higher : SupplyState → SupplyState
  | .critical => .saving
  | .saving | .normal => .normal

/-- The supply state and the filter counts after a reading (R179), with the state before it. -/
def Sup.filtered (p : Sup) (reading : Nat) : Sup :=
  let down := if meetsDown p.image p.supply reading then p.down + 1 else 0
  let up := if meetsUp p.image p.supply reading then p.up + 1 else 0
  if 10 ≤ down then { p with battery := reading, supply := p.supply.lower, down := 0, up := 0 }
  else if 10 ≤ up then { p with battery := reading, supply := p.supply.higher, down := 0, up := 0 }
  else { p with battery := reading, down := down, up := up }

/-- The SUPPLY fault, reported when the part enters CRITICAL in LISTEN or RUN (R180). -/
def State.supplyFault (s : State) : State := s.report .station .supply 1

/-- A change of supply state handed to the KL and the SLC, and to the FLT on entering CRITICAL (R180). -/
def State.announceSupply (s : State) : State :=
  let s1 := (s.raise .supply).supplyChanged
  if s.sup.supply = .critical ∧ s.awake then s1.supplyFault else s1

/-- BATTERY_READING (R178, R179): one second after the last reading. -/
def execBatteryReading (input : Nat) (s : State) : Host.Outcome State Fault Refusal :=
  .next (if s.inReset then s
    else
      let s1 := s.reached (s.sup.readingAt + 1000)
      let s2 := s1.setSup { s1.sup.filtered (clampReading input) with readingAt := s1.timebase }
      if s2.sup.supply = s.sup.supply then s2 else s2.announceSupply)

/-! ### The start sequence at OPTIONS (R3, R4, R176, R178, R181) -/

/-- The image formed from the option area, with the options-adjusted flag and the set of adjusted fields (R176). -/
def formImage (area : List Byte) : Image × Bool × BitVec 16 :=
  match judgeArea area with
  | .valid => (imageOf (area.take 16), decide (adjustedSet (area.take 16) ≠ 0), adjustedSet (area.take 16))
  | .blank | .invalid => (Image.default, true, 0)

/-- The backup domain at a start of the given cause: a POWER start finds it as it was kept, or begins it afresh (R3). -/
def BackupDomain.atStart (d : BackupDomain) (cause : ResetCause) : BackupDomain :=
  if cause = .power ∧ d.valid = false then BackupDomain.afresh else d

/-- The trim constants copied from the image, and a temperature sample latched (R4). -/
def BackupDomain.trimmed (d : BackupDomain) (i : Image) (temperature : Int) : BackupDomain :=
  { d with trimA := i.trimA, trimK := i.trimK, trimT0 := i.trimT0, temperature := clampTemperature temperature }

/-- The causes pending after OPTIONS: TIME when the domain was begun afresh (R3), SUPPLY when the first state is not NORMAL
(R178, R180). -/
def startCauses (time supply : Bool) : CauseSet := { CauseSet.none with time := time, supply := supply }

/-- A start at OPTIONS: every block's volatile state is cleared and the start sequence runs up to the image (R176, R181 to R183).
A start whose cause would be LINE or RESTART has cause POWER if the brown-out detector has acted since the last one (R181). -/
def State.beginStart (s : State) (kind : ResetCause) (sense : Sense) : State :=
  let cause := if s.sup.brownOut then .power else kind
  let lost := decide (cause = .power) && !s.clk.dom.valid
  let reading := clampReading sense.battery
  let supply := firstSupply Image.default.saving.level Image.default.critical.level reading
  let formed := formImage s.jnl.optionArea
  { clk := Clk.afterReset ((s.clk.dom.atStart cause).trimmed formed.1 sense.temperature),
    slc := Slc.afterReset s.slc.carrier,
    du := Du.afterReset,
    hu := Hu.afterReset,
    fu := Fu.afterReset,
    flt := Flt.afterReset,
    bu := Bu.afterReset,
    sq := Sq.afterReset,
    jnl := Jnl.afterReset s.jnl.store s.jnl.optionArea,
    kl := { Kl.afterReset with raised := startCauses lost (decide (supply ≠ .normal)) },
    sup :=
      { image := formed.1, adjusted := formed.2.1, adjustedFields := formed.2.2, battery := reading, supply := supply, down := 0,
        up := 0, readingAt := s.timebase, start := if formed.1.node = 0 then .options else .replay, listenStart := 0,
        cause := cause, powerHold := none, lineHold := false, brownOut := false },
    timebase := s.timebase,
    draws := s.draws,
    pending := s.pending }

/-! ### Resets (R181) -/

/-- The operations a reset cuts off (R157, R177, R181): the write in progress leaves its slot as it was, the option area keeps
its content, and the dock bus and the radio go idle. -/
def State.cutOff (s : State) : State :=
  ((s.setJnl { s.jnl with wip := none, optionWork := .none }).setSlc
    { s.slc with transmitting := none, assembly := .idle }).setDu { s.du with polled := none }

/-- BROWN_OUT (R181): the part is held in a POWER reset. A dip while it is held begins the hold anew, for the supply stood above the
level before it. -/
def execBrownOut (s : State) : Host.Outcome State Fault Refusal :=
  .next (s.cutOff.setSup { s.sup with powerHold := some s.timebase, brownOut := true })

/-- The moment 100 ms after the supply has risen, for one that fell at a moment and stayed below the level for a time (R181). -/
def holdDeadline (fall below : Millis) : Millis := fall + below + 100

/-- POWER_HOLD_END (R181): 100 ms after the supply has risen a POWER start begins, unless the reset input still holds the part. The
backup domain has power again (R3). How long the supply stayed below the level comes with the command (assumption log 55). -/
def execPowerHoldEnd (hold : HoldEnd) (s : State) : Host.Outcome State Fault Refusal :=
  .next (match s.sup.powerHold with
    | none => s
    | some fall =>
      let s1 := ((s.reached (holdDeadline fall hold.below)).setDom { s.clk.dom with powered := true }).setSup
        { s.sup with powerHold := none }
      if s.sup.lineHold then s1 else s1.beginStart .power hold.sense)

/-- RESET_ASSERT (R181). -/
def execResetAssert (s : State) : Host.Outcome State Fault Refusal := .next (s.cutOff.setSup { s.sup with lineHold := true })

/-- RESET_RELEASE (R181): a LINE start begins, unless a POWER hold is still running. -/
def execResetRelease (sense : Sense) (s : State) : Host.Outcome State Fault Refusal :=
  .next (if s.sup.lineHold then
      let s1 := s.setSup { s.sup with lineHold := false }
      if s.sup.powerHold.isSome then s1 else s1.beginStart .line sense
    else s)

/-! ### Replay (R89, R158, R159) -/

/-- The contents of a region of the store that a reading picks out, with their slots, in slot order. -/
def regionOf {α : Type} (store : Store) (base size : Nat) (f : SlotContent → Option α) : List (Nat × α) :=
  (List.range size).filterMap fun i => ((store.read (base + i)).bind f).map fun a => (i, a)

def SlotContent.asBand : SlotContent → Option BandTerms
  | .band t => some t
  | _ => none
def SlotContent.asClass : SlotContent → Option ClassTerms
  | .cls t => some t
  | _ => none
def SlotContent.asWindow : SlotContent → Option Window
  | .window w => some w
  | _ => none
def SlotContent.asHold : SlotContent → Option HoldFields
  | .hold e => e
  | _ => none
def SlotContent.asOwned : SlotContent → Option OwnedFields
  | .owned e => e
  | _ => none
def SlotContent.asMoney : SlotContent → Option RecordFields
  | .money e => e
  | _ => none
def SlotContent.asCounters : SlotContent → Option Counters
  | .counters c => some c
  | _ => none

/-- The replayed counters; 0 where no valid entry is handed over (R158). -/
def Store.counters (store : Store) : Counters :=
  ((store.read 384).bind SlotContent.asCounters).getD { origin := 0, hire := 0, record := 0, fault := 0, hold := 0, claim := 0 }

/-- A list sorted by insertion: an element goes before the first one it comes before. -/
def insertBy {α : Type} (before : α → α → Bool) (a : α) : List α → List α
  | [] => [a]
  | b :: rest => if before a b then a :: b :: rest else b :: insertBy before a rest

def sortBy {α : Type} (before : α → α → Bool) : List α → List α
  | [] => []
  | a :: rest => insertBy before a (sortBy before rest)

/-- The elements of a list, each with whether it is dropped for what stands after it. -/
def sortOut {α : Type} (drops : α → List α → Bool) : List α → List (α × Bool)
  | [] => []
  | a :: rest => (a, drops a rest) :: sortOut drops rest

/-- The rows that stay, and the rows that are dropped. -/
def keptOf {α : Type} (rows : List (α × Bool)) : List α := (rows.filter fun r => !r.2).map (·.1)
def droppedOf {α : Type} (rows : List (α × Bool)) : List α := (rows.filter (·.2)).map (·.1)

/-- The hold entries handed over, by placed time, and by slot among equal times (R158). -/
def holdsRead (store : Store) : List Hold :=
  sortBy (fun a b => decide (a.placed < b.placed) || (a.placed == b.placed && decide (a.slot ≤ b.slot)))
    ((regionOf store 16 256 SlotContent.asHold).map fun p =>
      { card := p.2.card, reason := p.2.reason, id := p.2.id, placed := p.2.placed, slot := p.1 })

/-- A later entry of the list is for the same card and reason. -/
def Hold.superseded (h : Hold) (later : List Hold) : Bool := later.any fun x => x.isFor h.card h.reason

/-- The HU takes the hold list region. The hold list has one entry per pair of card and reason (R66): of several slots with one pair
the last in the order of R158 gives the entry, and the others are dropped and marked. Which one stays is a DESIGN CHOICE, assumption
log 53, and the order of the marks is another, assumption log 62. -/
def State.replayHolds (s : State) : State :=
  let rows := sortOut Hold.superseded (holdsRead s.jnl.store)
  (droppedOf rows).foldl (fun s h => s.mark (.hold h.slot)) (s.setHolds (keptOf rows))

/-- How far a sequence lies behind the replayed counter, counted forward from it through 65535 to 0 (R159). -/
def behind (counter seq : Serial) : Nat := (counter + 65536 - seq) % 65536

/-- The queue rebuilt from the money slots: the record furthest behind the counter is the oldest, and every record is ready
(R159). -/
def replayMoney (store : Store) (counter : Serial) (now : Millis) : List SettlementRecord :=
  sortBy (fun a b => decide (behind counter b.fields.seq ≤ behind counter a.fields.seq))
    ((regionOf store 320 64 SlotContent.asMoney).map fun p =>
      { fields := p.2, waitStart := now, slot := some p.1, slotDone := true, ownedSlot := 0, ownedBegun := true,
        ownedDone := true })

/-- The hire a money record names. -/
def RecordBody.moneyHire : RecordBody → Option Ident
  | .charge hire .. => some hire
  | .overdue hire .. => some hire
  | .lateReturn .. | .returned .. | .unsettledReturn .. | .fault .. | .session .. | .clock .. => none

/-- The owned records handed over, by S and by hire serial among equal S (R158). -/
def ownedRead (store : Store) : List OwnedHire :=
  sortBy (fun a b => decide (a.fields.start < b.fields.start) ||
      (a.fields.start == b.fields.start && decide (a.fields.serial ≤ b.fields.serial)))
    ((regionOf store 272 48 SlotContent.asOwned).map fun p => { fields := p.2, durable := true, slot := p.1 })

/-- A rebuilt record is dropped: its hire stands on a replayed money record, or a later record of the list holds the same bike.
The list is in order of S, so the record with the earlier S goes; of two with one S, the one with the lower serial (R89;
DESIGN CHOICE, assumption log 23). -/
def replayDrops (node : Node) (money : List SettlementRecord) (o : OwnedHire) (later : List OwnedHire) : Bool :=
  (money.any fun r => decide (r.fields.body.moneyHire = some { node := node, serial := o.fields.serial })) ||
    later.any fun x => decide (x.fields.bike = o.fields.bike)

/-- A kept record after a start that lost the station time: S is now and STEPPED is set, so it is no longer durable (R72, R89). -/
def OwnedHire.restarted (o : OwnedHire) (now : Time) : OwnedHire :=
  { o with durable := false, fields := { o.fields with start := now, stepped := true } }

/-- The HU takes the owned hires region (R89). The dropped records are marked in the order of their list, and then the restarted ones:
DESIGN CHOICE, assumption log 62. -/
def State.replayOwned (s : State) : State :=
  let rows := sortOut (replayDrops s.node s.sq.queue) (ownedRead s.jnl.store)
  let dropped := droppedOf rows
  let kept := keptOf rows
  let s1 := s.setOwned (if s.clk.dom.clockLost then kept.map fun o => o.restarted s.now else kept)
  let s2 := dropped.foldl (fun s o => s.mark (.owned o.slot)) s1
  if s.clk.dom.clockLost then kept.foldl (fun s o => s.mark (.owned o.slot)) s2 else s2

/-- An invalid slot among those REPLAY reads: every region, and in role VAN every region but the owned hires (R158, R160). -/
def State.replayFindsInvalid (s : State) : Bool :=
  s.jnl.store.any fun p => decide (p.2 = .invalid) && !(s.isVan && decide (272 ≤ p.1) && decide (p.1 < 320))

/-- The counters taken: each owner adds 64 to its own, wrapping, but for the hold serial, and the slot is marked (R158). -/
def State.replayCounters (s : State) : State :=
  let c := s.jnl.store.counters
  (((((s.setSlc { s.slc with originSerial := (c.origin + 64) % 65536 }).setHu
    { s.hu with hireSerial := (c.hire + 64) % 65536, holdSerial := c.hold }).setFlt
    { s.flt with serial := (c.fault + 64) % 65536 }).setBu
    { s.bu with claimSerial := (c.claim + 64) % 256 }).setSq
    { s.sq with seq := (c.record + 64) % 65536 }).mark .counters

/-- The tariff set taken: each valid entry replaces its default; in role VAN the CLK takes no window (R158). -/
def State.replayTariff (s : State) : State :=
  let store := s.jnl.store
  let s1 := s.setFu { s.fu with
    bands := s.fu.bands.mapFinIdx fun i t _ => ((store.read i).bind SlotContent.asBand).getD t,
    classes := s.fu.classes.mapFinIdx fun i t _ => ((store.read (4 + i)).bind SlotContent.asClass).getD t }
  if s.isVan then s1
  else s1.setClk { s1.clk with
    windows := s1.clk.windows.mapFinIdx fun i w _ => ((store.read (8 + i)).bind SlotContent.asWindow).getD w }

/-- The hold list and the settlement queue rebuilt (R158, R159). -/
def State.replayLists (s : State) : State :=
  s.replayHolds.setSq
    { s.sq with queue := replayMoney s.jnl.store s.jnl.store.counters.record s.timebase }

/-- Every slot read and handed over, in the order of R158. -/
def State.replayStore (s : State) : State :=
  let s1 := ((s.replayCounters).replayTariff).replayLists
  let s2 := if s.isVan then s1 else s1.replayOwned
  if s.replayFindsInvalid then s2.degrade else s2

/-- LISTEN begins (R15, R40, R59, R180, R182). -/
def State.enterListen (s : State) : State :=
  let s1 := (((s.setSup { s.sup with start := .listen, listenStart := s.timebase }).setSlc
    { s.slc with channel := some s.sup.image.channel }).setDu
    { s.du with docks := Vector.replicate 24 (Dock.initial s.timebase), pollNext := 1 }).evaluateWindows
  if s.sup.supply = .critical then s1.supplyFault else s1

/-- REPLAY_COMPLETE (R158, R182). An option write in progress has the store until it ends (R177). -/
def execReplayComplete (s : State) : Host.Outcome State Fault Refusal :=
  .next (if s.inReset = false ∧ s.sup.start = .replay ∧ s.storeFree then (s.replayStore).enterListen else s)

/-- LISTEN_TIMER_EXPIRY (R182): the part enters RUN. -/
def execListenTimerExpiry (s : State) : Host.Outcome State Fault Refusal :=
  .next (if s.inReset = false ∧ s.sup.start = .listen then
      let s1 := s.reached (s.sup.listenStart + 30000)
      (((s1.setSup { s1.sup with start := .run }).setBeaconTimer 0).reselect).evaluateSettlement
    else s)

end Sys2Proof.Machine
end

