-- ==== Sys2Proof/Machine/Kiosk.lean ====
section
/-!
DEFINITION. The kiosk link (Chapter 9): transfers (R162, R163), RESTART (R167), the attention mask and GET CAUSE (R169, R171), and
GET STATUS (R172, R173).
-/
namespace Sys2Proof.Machine

/-! ### What a transfer shifts out (R162, R186) -/

/-- The bytes the part shifts out in a transfer. -/
def State.shiftOut (s : State) (bytes : List Byte) : State := s.setKl { s.kl with shiftedOut := bytes }

/-- What the part shifts out while the host shifts in n bytes that carry no answer (R186). -/
def fill (n : Nat) : List Byte := List.replicate n 0xFF

/-- The first `n` bytes of an answer, a receipt or a marker, followed by the fill (R162, R186). -/
def filled (out : List Byte) (n : Nat) : List Byte := out.take n ++ fill (n - out.length)

/-! ### Send transfers (R163, R164) -/

/-- The next request is taken: the held answer is discarded, counted if no fetch has delivered it whole, and the link goes to
WORKING (R163). -/
def State.takeRequest (s : State) : State :=
  s.setKl { s.kl with
    link := .working, held := none, delivered := false, inProgress := none,
    unfetched := if s.kl.held.isSome && !s.kl.delivered then saturate 65535 s.kl.unfetched else s.kl.unfetched }

/-- The receipt TAKEN (R186). -/
def takenReceipt : List Byte := [0xF0]

/-- The BUSY receipt: a whole answer frame (R163). -/
def busyReceipt : List Byte := Answer.frame { status := .busy, body := [] }

/-- The receipt the check byte of a send finds (R163). -/
def Kl.receipt (k : Kl) : List Byte := if k.link = .idle then takenReceipt else busyReceipt

/-- A whole frame taken in IDLE and tested (R163, R164). -/
def State.takeFrame (s : State) (code : Byte) (body : List Byte) (check : Byte) : State :=
  match s.testRequest code body check with
  | .error status => s.takeRequest.reply status
  | .ok r => s.takeRequest.setKl { s.takeRequest.kl with inProgress := some r }

/-- A send whose check byte has arrived: in IDLE its frame is taken, otherwise nothing is (R163). -/
def State.sendEnds (s : State) (code : Byte) (body : List Byte) (check : Byte) : State :=
  if s.kl.link = .idle then s.takeFrame code body check else s

/-- SEND_TRANSFER (R163, R164): 0xFF goes out while the frame comes in, and the receipt after its check byte (R186). A transfer
whose first byte names neither a send nor a fetch is ignored (R162); one that is no whole send is not this command's event
(assumption log 3). -/
def execSendTransfer (first : Byte) (frame clocked : List Byte) (s : State) : Host.Outcome State Fault Refusal :=
  let shiftedIn := first :: (frame ++ clocked)
  .next (if s.inReset then s
    else
      match transferOf shiftedIn with
      | .send code body check after =>
        (s.sendEnds code body check).shiftOut (fill (shiftedIn.length - after) ++ filled s.kl.receipt after)
      | .ignored => s.shiftOut (fill shiftedIn.length)
      | .cut | .fetch _ => s)

/-- A send cut off before its check byte: in IDLE the incomplete frame is taken and answered BAD_LENGTH; otherwise it leaves no
trace (R163). -/
def State.sendCut (s : State) : State := if s.kl.link = .idle then s.takeRequest.reply .badLength else s

/-- SEND_TRANSFER_CUT (R163): no receipt is shifted out. -/
def execSendTransferCut (shiftedIn : List Byte) (s : State) : Host.Outcome State Fault Refusal :=
  .next (if s.inReset then s
    else
      match transferOf shiftedIn with
      | .cut => s.sendCut.shiftOut (fill shiftedIn.length)
      | .ignored => s.shiftOut (fill shiftedIn.length)
      | .send .. | .fetch _ => s)

/-! ### Fetch transfers and RESTART (R162, R167) -/

/-- What a fetch shifts out after its first byte and before its fill (R162, R186). -/
def Kl.output (k : Kl) : List Byte :=
  if k.link = .working then [0xF1]
  else
    match k.held with
    | some a => a.frame
    | none => [0xF2]

/-- A fetch that clocks n bytes after its first delivers the held answer whole (R163). -/
def Kl.deliversWhole (k : Kl) (n : Nat) : Bool := decide (k.link ≠ .working) && k.held.any fun a => decide (a.frame.length ≤ n)

/-- A fetch ends that clocked n bytes after its first: the link stays as it was, and the first to deliver the whole RESTART answer
begins the restart (R162, R167). -/
def State.fetchEnds (s : State) (n : Nat) (sense : Sense) : State :=
  if s.kl.deliversWhole n ∧ s.kl.link = .restarting then s.beginStart .restart sense
  else s.setKl { s.kl with delivered := s.kl.delivered || s.kl.deliversWhole n }

/-- FETCH_TRANSFER (R162, R163): 0xFF goes out while the first byte comes in, and then the answer or marker (R186). -/
def execFetchTransfer (shiftedIn : List Byte) (sense : Sense) (s : State) : Host.Outcome State Fault Refusal :=
  .next (if s.inReset then s
    else
      match transferOf shiftedIn with
      | .fetch n => (s.fetchEnds n sense).shiftOut (fill 1 ++ filled s.kl.output n)
      | .ignored => s.shiftOut (fill shiftedIn.length)
      | .send .. | .cut => s)

/-- RESTART (R167): the OK answer is held at once and the link waits for its fetch. -/
def execRestart (s : State) : Host.Outcome State Fault Refusal :=
  .next (s.serve .restart fun s =>
    (s.reply .ok).setKl { (s.reply .ok).kl with link := .restarting, restartStart := s.timebase })

/-- RESTART_ANSWER_TIMEOUT (R167): the restart begins 1 s after its answer was formed. -/
def execRestartAnswerTimeout (sense : Sense) (s : State) : Host.Outcome State Fault Refusal :=
  .next (if s.inReset = false ∧ s.kl.link = .restarting then
      (s.reached (s.kl.restartStart + 1000)).beginStart .restart sense
    else s)

/-! ### Attention (R168 to R171) -/

/-- SET ATTENTION MASK (R169). -/
def execSetAttentionMask (enables : Nat) (s : State) : Host.Outcome State Fault Refusal :=
  .next (s.serve (.setAttentionMask enables) fun s =>
    match causeSetOf enables with
    | some mask => (s.setKl { s.kl with mask := mask }).answer .ok (u8 mask.byte ++ u8 s.kl.raised.byte)
    | none => s.reply .badValue)

/-- The highest-priority cause that is both pending and enabled (R171). -/
def Kl.topCause (k : Kl) : Option Cause := causes.find? fun c => k.raised.has c && k.mask.has c

/-- The cause is cleared merely by being reported (R168, R171). -/
def Cause.clearedByReport : Cause → Bool
  | .supply | .fault | .van => true
  | .journal | .settlement | .time | .link => false

/-- The pending set after GET CAUSE has reported a cause (R171). -/
def CauseSet.reported (raised : CauseSet) : Option Cause → CauseSet
  | .some c => if c.clearedByReport then raised.put false c else raised
  | .none => raised

/-- An attention cause in an answer: NONE 0, then the causes by priority (R184). -/
def causeCode : Option Cause → Nat
  | none => 0
  | some c => codeIn causes c + 1

/-- GET CAUSE (R171). -/
def execGetCause (s : State) : Host.Outcome State Fault Refusal :=
  .next (s.serve .getCause fun s =>
    (s.setKl { s.kl with latched := s.kl.topCause, raised := s.kl.raised.reported s.kl.topCause }).answer .ok
      (u8 (causeCode s.kl.topCause) ++ u8 s.kl.raised.byte))

/-! ### GET STATUS (R172, R173) -/

/-- The body of a GET STATUS answer (R172). -/
def State.statusBody (s : State) : List Byte :=
  u16 s.node ++ u8 (codeIn roles s.sup.image.role) ++ u8 (codeIn startStates s.sup.start) ++ u8 (codeIn resetCauses s.sup.cause) ++
    flagByte s.sup.adjusted ++
    u8 (codeIn supplyStates s.sup.supply) ++ u16 s.sup.battery ++ u8 s.clk.dom.grade ++ flagByte s.clk.dom.clockLost ++
    u16 s.sq.queue.length ++ u16 (s.sq.queue.countP (·.isMoney)) ++ u16 (takeable s.sq.queue).length ++ u16 s.sq.drops ++
    u16 s.hu.owned.length ++ u16 s.hu.holdsDisplaced ++
    u16 s.du.statusDrops ++ u16 s.flt.drops ++
    u16 s.slc.errCheck ++ u16 s.slc.errLength ++ u16 s.slc.errOverrun ++ u16 s.slc.errTruncated ++ u16 s.slc.newErrors ++
    u16 s.slc.txDrops ++ u16 s.slc.relayDrops ++ u16 s.slc.neighbourDrops ++ u16 s.slc.seen.length ++
    flagByte s.jnl.degraded ++ u16 s.jnl.writeList.length ++ flagByte s.jnl.wip.isSome ++
    u8 s.kl.mask.byte ++ u8 s.kl.raised.byte ++ u16 s.kl.unfetched

/-- What the taking of GET STATUS changes besides answering it (R173). -/
def State.statusTaken (s : State) : State :=
  ((s.setSlc { s.slc with newErrors := 0 }).putCause .journal false).putCause .link false

/-- GET STATUS (R172, R173). -/
def execGetStatus (s : State) : Host.Outcome State Fault Refusal :=
  .next (s.serve .getStatus fun s => s.statusTaken.answer .ok s.statusBody)

end Sys2Proof.Machine
end

