-- ==== Sys2Proof/Machine/TariffRequests.lean ====
section
/-!
DEFINITION. The kiosk requests on tariffs (Chapter 5): LOAD BAND, LOAD CLASS and READ TARIFF. LOAD WINDOW stands with the clock.
The form of the answers is R186's; where it leaves a coding open, assumption log 13 says what the model does.
-/
namespace Sys2Proof.Machine

/-- LOAD BAND (R95). -/
def execLoadBand (band : Nat) (terms : BandTerms) (s : State) : Host.Outcome State Fault Refusal :=
  .next (s.serve (.loadBand band terms) fun s =>
    if h : band < 4 then
      if BandTerms.inRange terms then ((s.setFu { s.fu with bands := s.fu.bands.set band terms }).mark (.band band)).reply .ok
      else s.reply .badValue
    else s.reply .badValue)

/-- LOAD CLASS (R96). -/
def execLoadClass (cls : Nat) (fields : ClassFields) (s : State) : Host.Outcome State Fault Refusal :=
  .next (s.serve (.loadClass cls fields) fun s =>
    match classTermsOf fields with
    | some terms =>
      if h : cls < 4 then ((s.setFu { s.fu with classes := s.fu.classes.set cls terms }).mark (.cls cls)).reply .ok
      else s.reply .badValue
    | none => s.reply .badValue)

/-- The terms of a class as LOAD CLASS codes them (R186). -/
def ClassTerms.bytes (t : ClassTerms) : List Byte := u8 t.percent ++ u16 t.dayCap ++ u8 t.hireLimit ++ flagByte t.waived

/-- A number as a byte, or what the byte of an absent field at this place holds: a free value, assumption log 13. -/
def fieldByte (place : Nat) (v : Option Nat) : List Byte := v.elim [Config.absentFieldByte place] u8

/-- A window entry as LOAD WINDOW codes it (R186). -/
def Window.bytes (w : Window) : List Byte :=
  u8 (w.enabled.toNat + 2 * w.closes.toNat + 4 * w.band.isSome.toNat + 8 * w.weekdays.isSome.toNat + 16 * w.months.isSome.toNat) ++
    fieldByte 0 w.band ++ fieldByte 1 (w.weekdays.map (·.toNat)) ++ fieldByte 2 (w.months.map (·.1)) ++
    fieldByte 3 (w.months.map (·.2)) ++ u16 w.startMinute ++ u16 w.endMinute

/-- The body of a READ TARIFF answer (R107). -/
def State.tariffBody (s : State) : List Byte :=
  listBytes BandTerms.fieldBytes s.fu.bands.toList ++ listBytes ClassTerms.bytes s.fu.classes.toList ++
    listBytes Window.bytes s.clk.windows.toList ++ u8 s.clk.matchSet.toNat ++ u8 s.clk.band ++ flagByte s.clk.closed ++
    listBytes (fun (e : DaySpend) => u32 e.card ++ u32 e.spent) s.fu.spend ++ u16 s.fu.spend.length

/-- READ TARIFF (R107). -/
def execReadTariff (s : State) : Host.Outcome State Fault Refusal :=
  .next (s.serve .readTariff fun s => s.answer .ok s.tariffBody)

end Sys2Proof.Machine
end

