-- ==== Sys2Proof/Machine/Dispatch.lean ====
section
/-!
DEFINITION. The effect of each command: one arm per constructor, in the order of spec/opcode_table.json.
-/
namespace Sys2Proof.Machine

def exec (i : Instr) (s : State) : Host.Outcome State Fault Refusal :=
  match i with
  | .sendTransfer first frame clocked => Sys2Proof.Machine.execSendTransfer first frame clocked s
  | .sendTransferCut shiftedIn => Sys2Proof.Machine.execSendTransferCut shiftedIn s
  | .fetchTransfer shiftedIn sense => Sys2Proof.Machine.execFetchTransfer shiftedIn sense s
  | .restartAnswerTimeout sense => Sys2Proof.Machine.execRestartAnswerTimeout sense s
  | .getStatus => Sys2Proof.Machine.execGetStatus s
  | .getCause => Sys2Proof.Machine.execGetCause s
  | .setAttentionMask enables => Sys2Proof.Machine.execSetAttentionMask enables s
  | .takeRecords n => Sys2Proof.Machine.execTakeRecords n s
  | .setSettlement trigger timeout => Sys2Proof.Machine.execSetSettlement trigger timeout s
  | .setTime t => Sys2Proof.Machine.execSetTime t s
  | .getTime => Sys2Proof.Machine.execGetTime s
  | .loadBand band terms => Sys2Proof.Machine.execLoadBand band terms s
  | .loadClass cls fields => Sys2Proof.Machine.execLoadClass cls fields s
  | .loadWindow index fields => Sys2Proof.Machine.execLoadWindow index fields s
  | .readTariff => Sys2Proof.Machine.execReadTariff s
  | .holdCard card reason => Sys2Proof.Machine.execHoldCard card reason s
  | .liftHold card reason => Sys2Proof.Machine.execLiftHold card reason s
  | .queryCard card validUntil => Sys2Proof.Machine.execQueryCard card validUntil s
  | .queryBike bike => Sys2Proof.Machine.execQueryBike bike s
  | .reportFault subject number kind severity => Sys2Proof.Machine.execReportFault subject number kind severity s
  | .clearFault subject number => Sys2Proof.Machine.execClearFault subject number s
  | .readFaults => Sys2Proof.Machine.execReadFaults s
  | .dockDisable dock => Sys2Proof.Machine.execDockDisable dock s
  | .dockEnable dock => Sys2Proof.Machine.execDockEnable dock s
  | .readDocks => Sys2Proof.Machine.execReadDocks s
  | .readNeighbours => Sys2Proof.Machine.execReadNeighbours s
  | .claim station action amount lifetime => Sys2Proof.Machine.execClaim station action amount lifetime s
  | .openSession station => Sys2Proof.Machine.execOpenSession station s
  | .take dock => Sys2Proof.Machine.execTake dock s
  | .announceDelivery bikes => Sys2Proof.Machine.execAnnounceDelivery bikes s
  | .closeSession => Sys2Proof.Machine.execCloseSession s
  | .unload bike => Sys2Proof.Machine.execUnload bike s
  | .readLoad => Sys2Proof.Machine.execReadLoad s
  | .readClaims => Sys2Proof.Machine.execReadClaims s
  | .readOptions => Sys2Proof.Machine.execReadOptions s
  | .writeOptions block => Sys2Proof.Machine.execWriteOptions block s
  | .restart => Sys2Proof.Machine.execRestart s
  | .optionAreaRead => Sys2Proof.Machine.execOptionAreaRead s
  | .optionWriteStart => Sys2Proof.Machine.execOptionWriteStart s
  | .optionWriteEnd agrees => Sys2Proof.Machine.execOptionWriteEnd agrees s
  | .brownOut => Sys2Proof.Machine.execBrownOut s
  | .powerHoldEnd hold => Sys2Proof.Machine.execPowerHoldEnd hold s
  | .resetAssert => Sys2Proof.Machine.execResetAssert s
  | .resetRelease sense => Sys2Proof.Machine.execResetRelease sense s
  | .replayComplete => Sys2Proof.Machine.execReplayComplete s
  | .listenTimerExpiry => Sys2Proof.Machine.execListenTimerExpiry s
  | .batteryReading input => Sys2Proof.Machine.execBatteryReading input s
  | .rawTick => Sys2Proof.Machine.execRawTick s
  | .gradeRise => Sys2Proof.Machine.execGradeRise s
  | .temperatureSample reading => Sys2Proof.Machine.execTemperatureSample reading s
  | .minuteBoundary => Sys2Proof.Machine.execMinuteBoundary s
  | .carrierRise => Sys2Proof.Machine.execCarrierRise s
  | .carrierFall gotByte => Sys2Proof.Machine.execCarrierFall gotByte s
  | .frameCompleted frame => Sys2Proof.Machine.execFrameCompleted frame s
  | .frameProcessed => Sys2Proof.Machine.execFrameProcessed s
  | .slotEnd => Sys2Proof.Machine.execSlotEnd s
  | .transmissionEnd => Sys2Proof.Machine.execTransmissionEnd s
  | .relayDelayExpiry origin serial => Sys2Proof.Machine.execRelayDelayExpiry origin serial s
  | .ownQuietExpiry => Sys2Proof.Machine.execOwnQuietExpiry s
  | .neighbourQuietExpiry node => Sys2Proof.Machine.execNeighbourQuietExpiry node s
  | .neighbourAgeExpiry node => Sys2Proof.Machine.execNeighbourAgeExpiry node s
  | .beaconTimerExpiry => Sys2Proof.Machine.execBeaconTimerExpiry s
  | .poll => Sys2Proof.Machine.execPoll s
  | .pollAnswerTimeout => Sys2Proof.Machine.execPollAnswerTimeout s
  | .heartbeat dock bike => Sys2Proof.Machine.execHeartbeat dock bike s
  | .card dock answer => Sys2Proof.Machine.execCard dock answer s
  | .bikeOut dock => Sys2Proof.Machine.execBikeOut dock s
  | .bikeIn dock bike => Sys2Proof.Machine.execBikeIn dock bike s
  | .button dock => Sys2Proof.Machine.execButton dock s
  | .lockFail dock => Sys2Proof.Machine.execLockFail dock s
  | .releaseTimeout dock => Sys2Proof.Machine.execReleaseTimeout dock s
  | .returnWindowExpiry dock => Sys2Proof.Machine.execReturnWindowExpiry dock s
  | .lampTransientEnd dock => Sys2Proof.Machine.execLampTransientEnd dock s
  | .postSilence dock => Sys2Proof.Machine.execPostSilence dock s
  | .pendingCloseRepeat bike endTime => Sys2Proof.Machine.execPendingCloseRepeat bike endTime s
  | .claimExpiry van serial => Sys2Proof.Machine.execClaimExpiry van serial s
  | .sessionIdleTimeout => Sys2Proof.Machine.execSessionIdleTimeout s
  | .claimAnswerTimeout serial => Sys2Proof.Machine.execClaimAnswerTimeout serial s
  | .vanClaimExpiry serial => Sys2Proof.Machine.execVanClaimExpiry serial s
  | .sessionAnswerTimeout => Sys2Proof.Machine.execSessionAnswerTimeout s
  | .vanSessionIdleTimeout => Sys2Proof.Machine.execVanSessionIdleTimeout s
  | .takeAnswerTimeout request => Sys2Proof.Machine.execTakeAnswerTimeout request s
  | .takeCompletionTimeout request => Sys2Proof.Machine.execTakeCompletionTimeout request s
  | .settlementIdleTimeout => Sys2Proof.Machine.execSettlementIdleTimeout s
  | .journalWriteStart => Sys2Proof.Machine.execJournalWriteStart s
  | .journalWriteEnd agrees => Sys2Proof.Machine.execJournalWriteEnd agrees s
  | .bodyLengthArrived length => Sys2Proof.Machine.execBodyLengthArrived length s
  | .backupDomainPowerLost => Sys2Proof.Machine.execBackupDomainPowerLost s

end Sys2Proof.Machine
end

