-- ==== Sys2Proof/Machine/Step.lean ====
section
/-!
DEFINITION. One step of the part: the command at the front of the queue is taken, or a millisecond of the timebase passes.
-/
namespace Sys2Proof.Machine

/-- One step. With a command waiting, the one at the front is taken, on the state whose queue is the rest. With none waiting the
block idles, and its own timebase goes on by 1 ms (DESIGN CHOICE, assumption log 1). -/
def step (s : State) : Host.Outcome State Fault Refusal :=
  match s.pending with
  | [] => .next (s.setTimebase (s.timebase + 1))
  | c :: rest => exec c (s.setPending rest)

/-- The command that a word spells, put at the front of the queue; no row of the table gives bits, so no word spells one. -/
def State.withFetchWord (s : State) (nbits w : Nat) : State :=
  match decodeTableWord nbits w with
  | some c => s.setPending (c :: s.pending)
  | none => s

end Sys2Proof.Machine
end

