-- ==== Sys2Proof/Safety.lean ====
section
/-!
DEFINITION. What the statements speak of: a request that is being taken (R165), the bounds of the collections each chapter states,
and the form of the store. A run is safe when every state it passes meets the bounds.
-/
namespace Sys2Proof.Machine

/-- The request is the one in progress and is answered in the part's role and start state, so its owner takes it (R165, R166). -/
def State.Takes (s : State) (r : Request) : Prop :=
  s.inReset = false ∧ s.kl.link = .working ∧ s.kl.inProgress = some r ∧ s.admission r = none

/-- The kiosk link after the request in progress is answered (R165). -/
def Kl.answered (k : Kl) (status : Status) (body : List Byte) : Kl :=
  { k with link := .idle, inProgress := none, held := some { status := status, body := body }, delivered := false }

/-- The request a command takes to its owner: each kiosk request of R166 is the command of its own name. -/
def requestOfInstr : Instr → Option Request
  | .getStatus => some .getStatus
  | .getCause => some .getCause
  | .setAttentionMask enables => some (.setAttentionMask enables)
  | .takeRecords n => some (.takeRecords n)
  | .setSettlement trigger timeout => some (.setSettlement trigger timeout)
  | .setTime t => some (.setTime t)
  | .getTime => some .getTime
  | .loadBand band terms => some (.loadBand band terms)
  | .loadClass cls fields => some (.loadClass cls fields)
  | .loadWindow index fields => some (.loadWindow index fields)
  | .readTariff => some .readTariff
  | .holdCard card reason => some (.holdCard card reason)
  | .liftHold card reason => some (.liftHold card reason)
  | .queryCard card validUntil => some (.queryCard card validUntil)
  | .queryBike bike => some (.queryBike bike)
  | .reportFault subject number kind severity => some (.reportFault subject number kind severity)
  | .clearFault subject number => some (.clearFault subject number)
  | .readFaults => some .readFaults
  | .dockDisable dock => some (.dockDisable dock)
  | .dockEnable dock => some (.dockEnable dock)
  | .readDocks => some .readDocks
  | .readNeighbours => some .readNeighbours
  | .claim station action amount lifetime => some (.claim station action amount lifetime)
  | .openSession station => some (.openSession station)
  | .take dock => some (.take dock)
  | .announceDelivery bikes => some (.announceDelivery bikes)
  | .closeSession => some .closeSession
  | .unload bike => some (.unload bike)
  | .readLoad => some .readLoad
  | .readClaims => some .readClaims
  | .readOptions => some .readOptions
  | .writeOptions block => some (.writeOptions block)
  | .restart => some .restart
  | .sendTransfer .. | .sendTransferCut _ | .fetchTransfer .. | .restartAnswerTimeout _ | .optionAreaRead | .optionWriteStart
  | .optionWriteEnd _ | .brownOut | .powerHoldEnd _ | .resetAssert | .resetRelease _ | .replayComplete | .listenTimerExpiry
  | .batteryReading _ | .rawTick | .gradeRise | .temperatureSample _ | .minuteBoundary | .carrierRise | .carrierFall _
  | .frameCompleted _ | .frameProcessed | .slotEnd | .transmissionEnd | .relayDelayExpiry .. | .ownQuietExpiry
  | .neighbourQuietExpiry _ | .neighbourAgeExpiry _ | .beaconTimerExpiry | .poll | .pollAnswerTimeout | .heartbeat ..
  | .card .. | .bikeOut _ | .bikeIn .. | .button _ | .lockFail _ | .releaseTimeout _ | .returnWindowExpiry _
  | .lampTransientEnd _ | .postSilence _ | .pendingCloseRepeat .. | .claimExpiry .. | .sessionIdleTimeout
  | .claimAnswerTimeout _ | .vanClaimExpiry _ | .sessionAnswerTimeout | .vanSessionIdleTimeout | .takeAnswerTimeout _
  | .takeCompletionTimeout _ | .settlementIdleTimeout | .journalWriteStart | .journalWriteEnd _ | .bodyLengthArrived _
  | .backupDomainPowerLost => none

/-- The kiosk link is WORKING exactly while a request is in progress, and the request in progress is answered in the part's role and
start state, for no other is taken (R164, R165, R166). -/
structure State.RequestAdmitted (s : State) : Prop where
  working : s.kl.link = .working ↔ s.kl.inProgress.isSome = true
  admitted : ∀ r, s.kl.inProgress = some r → s.admission r = none

/-- The clock's values lie in their ranges: station time (R1), the trim constants and the sample (R4), the drift accumulator
between steps (R5), the grade and its timer (R6) and a slew's count (R10). -/
structure State.ClockBounded (s : State) : Prop where
  time : s.clk.dom.time ≤ lastTime
  grade : s.clk.dom.grade ≤ 7
  sampleLow : -40 ≤ s.clk.dom.temperature
  sampleHigh : s.clk.dom.temperature ≤ 85
  trimLow : -200 ≤ s.clk.dom.trimA
  trimHigh : s.clk.dom.trimA ≤ 200
  trimK : s.clk.dom.trimK ≤ 63
  trimT0 : s.clk.dom.trimT0 ≤ 50
  driftLow : -10000000 < s.clk.dom.drift
  driftHigh : s.clk.dom.drift < 10000000
  slew : ∀ w, s.clk.slew = some w → 1 ≤ w.count ∧ w.count ≤ 29

/-- The journal after some slots have been marked and nothing else has been done to it: every slot marked is in the write list, those
listed before keep their places, no other slot has joined, and the write in progress goes on with the content it took (R155). -/
structure Jnl.Marked (before after : Jnl) (slots : List Slot) : Prop where
  listed : ∀ slot ∈ slots, slot ∈ after.writeList
  placed : before.writeList <+: after.writeList
  only : ∀ slot ∈ after.writeList, slot ∈ before.writeList ∨ slot ∈ slots
  writing : after.wip.map (fun w => (w.slot, w.content, w.again)) = before.wip.map fun w => (w.slot, w.content, w.again)
  rest : after = { before with writeList := after.writeList, wip := after.wip }

/-- The clock as SET TIME and an adoption by step anchor it: the grade set, its timer restarted, the clock-lost flag cleared, the
drift accumulator at 0 with no withhold pending, and no slew (R5, R6, R7, R10). -/
def Clk.anchored (c : Clk) (grade : Nat) : Clk :=
  { c with
    dom := { c.dom with grade := grade, gradeTimer := 0, clockLost := false, drift := 0, withhold := false },
    slew := none, slewDue := false }

/-- What a step of station time from `s.now` to `v` leaves, `clk` being the clock it finds: station time is `v`, the step is recorded
and the windows are evaluated; every owned hire is shifted, marked STEPPED, marked for a write and so no longer durable; a date
change empties the day spend table; the activity ring is zeroed; and a CLOCK note is posted, or dropped and counted where there is
no room for notes (R11, R88, R99, R125, R150). -/
structure State.SteppedTo (s t : State) (clk : Clk) (v : Time) (source : Option Node) : Prop where
  clock : t.clk = Clk.evaluated { clk with
    dom := { clk.dom with time := v }, lastStep := some { source := source, amount := (v : Int) - (s.now : Int) } }
  owned : t.hu = { s.hu with owned := s.hu.owned.map fun o => { o with
    durable := false,
    fields := { o.fields with
      start := (max 0 (min (lastTime : Int) ((o.fields.start : Int) + ((v : Int) - (s.now : Int))))).toNat, stepped := true } } }
  spend : t.fu = if dayNumber s.now = dayNumber v then s.fu else { s.fu with spend := [] }
  activity : t.bu = (State.recomputeNeed { s with bu := { s.bu with ring := s.bu.ring.map fun _ => { outs := 0, ins := 0 } } }).bu
  noted : s.sq.queue.length < s.noteLimit → ∃ r, t.sq = { s.sq with
      queue := s.sq.queue ++ [r], seq := (s.sq.seq + 1) % 65536 } ∧
    r.fields = { seq := s.sq.seq, time := v, body := .clock s.now v source } ∧ r.waitStart = s.timebase
  dropped : s.noteLimit ≤ s.sq.queue.length → t.sq = { s.sq with drops := min 65535 (s.sq.drops + 1) }
  marked : ∃ slots, s.jnl.Marked t.jnl (s.hu.owned.map (fun o => .owned o.slot) ++ slots) ∧
    slots = if s.sq.queue.length < s.noteLimit then [.counters] else []
  others : t.slc = s.slc ∧ t.du = s.du ∧ t.flt = s.flt ∧ t.sup = s.sup ∧ t.timebase = s.timebase ∧ t.draws = s.draws ∧
    t.pending = s.pending

/-- The oldest queued notice of the highest class that has any is in access (R20). -/
def State.OldestInAccess (s : State) : Prop :=
  ∃ before e rest, s.slc.queue = before ++ e :: rest ∧ e.access.isSome = true ∧ (∀ x ∈ before, x.cls ≠ e.cls) ∧
    (e.cls = .urgent ∨ (∀ x ∈ s.slc.queue, x.cls ≠ .urgent) ∧ (e.cls = .normal ∨ ∀ x ∈ s.slc.queue, x.cls ≠ .normal))

/-- What setting the quarantine part of bike b to q leaves, t, of the state s (R60 to R62). The bike's entry is changed in its place, or
a new one is made at the end of the order, where a full list first loses its oldest entry without a quarantine part, or its oldest where
every entry has one, and counts it. A member release of the bike is abandoned: LOCK is placed, the dock is HOLDING again with the bike
still recorded and its untaken-release count as it was, BIKE_QUARANTINED is its last refusal, and the RED transient runs. A release to
the van goes on, and every other dock keeps its state. -/
structure State.Quarantined (s t : State) (b : Bike) (q : QuarantinePart) : Prop where
  changed : ∀ before x rest, s.du.bikes = before ++ x :: rest → x.bike = b → (∀ y ∈ before, y.bike ≠ b) →
    t.du.bikes = before ++ { x with quarantine := some q } :: rest ∧ t.du.statusDrops = s.du.statusDrops
  entered : (∀ x ∈ s.du.bikes, x.bike ≠ b) → s.du.bikes.length < 64 →
    t.du.bikes = s.du.bikes ++ [{ bike := b, quarantine := some q, missing := none }] ∧ t.du.statusDrops = s.du.statusDrops
  evicted : ∀ before x rest, (∀ y ∈ s.du.bikes, y.bike ≠ b) → 64 ≤ s.du.bikes.length → s.du.bikes = before ++ x :: rest →
    x.quarantine = none ∧ (∀ y ∈ before, y.quarantine ≠ none) ∨ before = [] ∧ (∀ y ∈ s.du.bikes, y.quarantine ≠ none) →
      t.du.bikes = before ++ rest ++ [{ bike := b, quarantine := some q, missing := none }] ∧
      t.du.statusDrops = min 65535 (s.du.statusDrops + 1)
  abandoned : ∀ d r x, (s.dock d).state = .releasing → (s.dock d).release = some r → r.purpose = .member →
    (s.dock d).bike = some x → x.bike = b →
      (t.dock d).state = .holding ∧ (t.dock d).release = none ∧ (t.dock d).bike = some x ∧ (t.dock d).lockSlot = some .lock ∧
      (t.dock d).lastRefusal = some .bikeQuarantined ∧ (t.dock d).untaken = (s.dock d).untaken ∧
      (t.dock d).transient = some { lamp := .red, start := s.timebase } ∧ (t.dock d).lampSlot = some .red
  others : ∀ d, (∀ r x, (s.dock d).state = .releasing → (s.dock d).release = some r → (s.dock d).bike = some x → x.bike = b →
    r.purpose = .van) →
      (t.dock d).state = (s.dock d).state ∧ (t.dock d).release = (s.dock d).release ∧ (t.dock d).bike = (s.dock d).bike

/-- What the lapse of a release to the van at dock d leaves, t, of the state s it is taken in (R131, R133). The take in flight for the
dock goes and the allowance stays; the van is sent one TAKE DONE with the request serial and the dock, without a bike, its quarantined
flag being free (assumption log 19); and the idle timer restarts. A session in CLOSING ends with its last take: the summary follows, a
SESSION note is posted where there is room for notes, the van's claims are consumed, and the summary is kept. Without a session, or
without a take for the dock, none of it happens. -/
structure State.TakeLapsed (s t : State) (d : Nat) : Prop where
  lapsed : ∀ ss before f rest, s.bu.session = some ss → ss.inFlight = before ++ f :: rest → f.dock = d →
    (∀ y ∈ before, y.dock ≠ d) → ∃ flag : Bool,
      let told := State.originate { s with timebase := t.timebase } (.takeDone f.request d none flag) ss.van
      let body : SummaryBody :=
        { allowanceAtOpen := ss.allowanceAtOpen, allowanceUsed := ss.allowanceAtOpen - ss.allowance, collected := ss.collected,
          delivered := ss.delivered, undelivered := ss.expected }
      let last := ss.closing = true ∧ before ++ rest = []
      (¬ last → t.slc = told.slc ∧ t.bu.claims = s.bu.claims ∧ t.bu.summary = s.bu.summary ∧
        t.bu.session = some { ss with inFlight := before ++ rest, idleStart := t.timebase }) ∧
      (last → t.slc = (told.originate (.sessionSummary body) ss.van).slc ∧ t.bu.session = none ∧
        t.bu.summary = some { van := ss.van, body := body } ∧
        t.bu.claims = s.bu.claims.filter (fun c => decide (c.id.node ≠ ss.van)) ∧
        (s.sq.queue.length + 1 < s.noteLimit → ∃ r ∈ t.sq.queue,
          r.fields.body = .session ss.van s.node ss.collected ss.delivered ss.expected))
  unknown : (∀ ss, s.bu.session = some ss → ∀ f ∈ ss.inFlight, f.dock ≠ d) →
    t.slc = s.slc ∧ t.bu.session = s.bu.session ∧ t.bu.summary = s.bu.summary ∧ t.bu.claims = s.bu.claims
  ring : t.bu.ring = s.bu.ring

/-- What a command that ends the releases of dock d by itself leaves, t, of the state s to the session and the street link (R54, R131): a
release to the van lapses, and without one neither is touched. -/
structure State.ReleaseGivenUp (s t : State) (d : Nat) : Prop where
  van : ∀ r, (s.dock d).state = .releasing → (s.dock d).release = some r → r.purpose = .van → s.TakeLapsed t d
  others : ((s.dock d).state = .releasing → ∀ r, (s.dock d).release = some r → r.purpose = .member) →
    t.slc = s.slc ∧ t.bu.session = s.bu.session ∧ t.bu.summary = s.bu.summary ∧ t.bu.claims = s.bu.claims ∧ t.bu.ring = s.bu.ring

/-- What a fault raised on dock d leaves, t, of the state s (R55): the fault mark is set; a dock in EMPTY, HOLDING or RELEASING is FAULTED,
its release abandoned with LOCK placed and lapsed where it was the van's, and any other keeps its state. -/
structure State.DockFaulted (s t : State) (d : Nat) : Prop where
  marked : (t.dock d).faultMark = true
  bikes : t.du.bikes = s.du.bikes
  lapsed : s.ReleaseGivenUp t d
  faulted : (s.dock d).state = .empty ∨ (s.dock d).state = .holding ∨ (s.dock d).state = .releasing →
    (t.dock d).state = .faulted
  kept : (s.dock d).state = .faulted ∨ (s.dock d).state = .offline ∨ (s.dock d).state = .disabled →
    (t.dock d).state = (s.dock d).state
  abandoned : (s.dock d).state = .releasing → (t.dock d).release = none ∧ (t.dock d).lockSlot = some .lock

/-- What follows a report of the state s on a bike or a dock that has been taken into the entry e, as e stands after it, in the state t;
old is the severity before it, 0 for a new entry (R114, R115). At severity 1 nothing follows. At 2 or more the bike is quarantined, or the
dock's fault mark set, a working dock FAULTED and its release abandoned. A rise of the severity to that or above it is flooded for a bike,
posted where there is room for notes, and raises FAULT; without a rise nothing is flooded for a bike, nothing posted and nothing raised.
The note follows what the DU does (assumption log 66). -/
structure State.FaultTaken (s t : State) (e : FaultEntry) (old : Nat) : Prop where
  mild : e.severity < 2 → t.du.bikes = s.du.bikes ∧ t.bu = s.bu ∧ t.slc = s.slc ∧ t.sq = s.sq
  bike : ∀ b, e.subject = .bike b → 2 ≤ e.severity → s.Quarantined t b { id := e.id, severity := e.severity }
  dock : ∀ d, e.subject = .dock d → e.kind ≠ .postSilent → 2 ≤ e.severity → 1 ≤ d → d ≤ 24 → s.DockFaulted t d
  flooded : ∀ b, e.subject = .bike b → 2 ≤ e.severity → old < e.severity →
    t.slc = (s.flood (.fault e.id b e.kind e.severity)).slc
  posted : 2 ≤ e.severity → old < e.severity → (∀ d, e.subject = .dock d → s.bu.session = none) →
    s.sq.queue.length < s.noteLimit →
      ∃ r, t.sq.queue = s.sq.queue ++ [r] ∧ r.fields.body = .fault e.id e.subject e.kind e.severity
  dropped : 2 ≤ e.severity → old < e.severity → s.du.memberReleases = 0 → s.bu.session = none →
    s.noteLimit ≤ s.sq.queue.length → t.sq = { s.sq with drops := min 65535 (s.sq.drops + 1) }
  risen : 2 ≤ e.severity → old < e.severity → t.kl.raised.fault = true
  still : e.severity < 2 ∨ e.severity ≤ old → t.kl.raised.fault = s.kl.raised.fault
  quiet : ∀ b, e.subject = .bike b → e.severity ≤ old → t.slc = s.slc ∧ t.sq = s.sq

/-- What the end of the owned hire o here and now leaves, t, of the state m it is taken in (R78): a CHARGE of its fare, not ready, in the
place of the oldest note where the queue is full; the fare added to the card's day spend; a settled entry with this end, last; the record
gone, with its slot marked; and its HIRE SETTLED flooded. -/
def State.ClosedHere (m t : State) (o : OwnedHire) : Prop :=
  let f := o.fields
  let hire : Ident := { node := m.node, serial := f.serial }
  let fare := priceHire
    { terms := f.terms, classTerms := f.classTerms, start := f.start, endTime := m.now, endsHere := true, late := false,
      endGrade := m.clk.dom.grade, ownGrade := m.clk.dom.grade, stepped := f.stepped, maxHire := m.sup.image.maxHire,
      spent := spentBy m.fu.spend f.card }
  (∃ r kept, t.sq.queue = kept ++ [r] ∧ (m.sq.queue.length < 64 → kept = m.sq.queue) ∧
    (64 ≤ m.sq.queue.length → kept = m.sq.queue.eraseP fun r => !r.isMoney) ∧
    r.fields.seq = m.sq.seq ∧ r.fields.time = m.now ∧ r.fields.body =
      .charge hire f.card f.cls f.bike f.start m.now m.node fare.minutes f.band fare.amount fare.flags ∧
    r.ready = false ∧ r.ownedSlot = o.slot) ∧
  t.fu = { m.fu with spend := addSpend m.fu.spend f.card fare.capped } ∧
  t.hu.owned = m.hu.owned.filter (fun x => decide (x.fields.serial ≠ f.serial)) ∧
  t.hu.settled = (if m.hu.settled.length < 32 then m.hu.settled else m.hu.settled.drop 1) ++
    [{ hire := hire, bike := f.bike, card := f.card, start := f.start, terms := f.terms, classTerms := f.classTerms,
       ending := some (m.node, m.now), outcome := fare.outcome }] ∧
  Slot.owned o.slot ∈ t.jnl.writeList ∧
  t.slc = (m.flood (.hireSettled hire f.bike m.node m.now fare.outcome)).slc

/-- What the arrival of bike b at dock d leaves, t, of the state m it is handed on in, and the card the HU answers (R77 to R80, R85,
R91, R132): no heard hire and no missing part of the bike; and the first of these that applies. Held by an owned hire, the hire ends
here with a CHARGE of its fare. Expected by a service session, it is a delivery and nothing of a hire. Last settled as OVERDUE without
an end, it is a late close, with its LATE_RETURN note, its HIRE SETTLED and the lift of the card's OVERDUE hold unless another such hire
bars it. Otherwise it is a return, with its RETURN note, its HIRE CLOSE and its pending close, which stands last
where the list held one of the same bike and end time (assumption log 12). -/
structure State.ArrivalTaken (m t : State) (d : Nat) (b : Bike) (card : Option Card) : Prop where
  found : ∀ e ∈ t.du.bikes, e.bike = b → e.missing = none
  heard : ∀ e, e ∈ t.hu.heard ↔ e ∈ m.hu.heard ∧ e.bike ≠ b
  kept : t.clk = m.clk ∧ t.sup = m.sup ∧ t.flt = m.flt ∧ t.timebase = m.timebase ∧ t.draws = m.draws ∧ t.pending = m.pending
  counted : (∃ o ∈ m.hu.owned, o.fields.bike = b) ∨ (∀ ss, m.bu.session = some ss → b ∉ ss.expected) →
    ∀ bin rest, m.bu.ring = bin :: rest → t.bu.ring = { bin with ins := min 65535 (bin.ins + 1) } :: rest
  closed : ∀ before o rest, m.hu.owned = before ++ o :: rest → o.fields.bike = b → (∀ x ∈ before, x.fields.bike ≠ b) →
    card = some o.fields.card ∧ m.ClosedHere t o
  delivered : (∀ o ∈ m.hu.owned, o.fields.bike ≠ b) → ∀ ss, m.bu.session = some ss → b ∈ ss.expected →
    card = none ∧ t.bu.ring = m.bu.ring ∧
    t.bu.session = some { ss with
      expected := ss.expected.erase b, delivered := if b ∈ ss.delivered then ss.delivered else ss.delivered ++ [b],
      idleStart := m.timebase } ∧
    t = { m with du := t.du, bu := t.bu, hu := { m.hu with heard := t.hu.heard } }
  late : (∀ o ∈ m.hu.owned, o.fields.bike ≠ b) → (∀ ss, m.bu.session = some ss → b ∉ ss.expected) →
    ∀ before e rest, m.hu.settled = before ++ e :: rest → e.bike = b → e.outcome = .overdue → e.ending = none →
      (∀ x ∈ rest, ¬ (x.bike = b ∧ x.outcome = .overdue ∧ x.ending = none)) →
        let fare := priceHire
          { terms := e.terms, classTerms := e.classTerms, start := e.start, endTime := m.now, endsHere := true, late := true,
            endGrade := m.clk.dom.grade, ownGrade := m.clk.dom.grade, stepped := false, maxHire := m.sup.image.maxHire,
            spent := spentBy m.fu.spend e.card }
        card = some e.card ∧ t.hu.owned = m.hu.owned ∧ t.fu = m.fu ∧
        let settled := before ++ { e with ending := some (m.node, m.now), outcome := .late } :: rest
        let told := m.flood (.hireSettled e.hire b m.node m.now .late)
        let barred := ∃ x ∈ settled, x.card = e.card ∧ x.outcome = .overdue ∧ x.ending = none
        t.hu.settled = settled ∧
        (barred → t.hu.holds = m.hu.holds ∧ t.slc = told.slc) ∧
        (¬ barred →
          t.hu.holds = m.hu.holds.filter (fun h => !(decide (h.card = e.card) && decide (h.reason = .overdue))) ∧
          t.slc = (told.flood (.cardLift e.card (some .overdue))).slc) ∧
        (m.sq.queue.length < m.noteLimit → ∃ r, t.sq.queue = m.sq.queue ++ [r] ∧
          r.fields.body = .lateReturn e.hire e.card b m.node m.now fare.amount)
  returned : (∀ o ∈ m.hu.owned, o.fields.bike ≠ b) → (∀ ss, m.bu.session = some ss → b ∉ ss.expected) →
    (∀ x ∈ m.hu.settled, ¬ (x.bike = b ∧ x.outcome = .overdue ∧ x.ending = none)) →
      let known := m.hu.heard.find? fun e => decide (e.bike = b)
      card = known.map (·.card) ∧ t.hu.owned = m.hu.owned ∧ t.hu.settled = m.hu.settled ∧ t.fu = m.fu ∧
      t.slc = (m.flood (.hireClose b m.now m.clk.dom.grade (known.map (·.hire)))).slc ∧
      (∃ kept, t.hu.pendingClose = kept ++ [{ bike := b, endTime := m.now, endGrade := m.clk.dom.grade,
                                              hire := known.map (·.hire), repeats := 0, timerStart := m.timebase }]) ∧
      (m.sq.queue.length < m.noteLimit → ∃ r more, t.sq.queue = m.sq.queue ++ r :: more ∧
        r.fields.body = .returned b d m.now (known.map (·.hire)))

/-- The bounds of the street link's collections (R20, R26, R29, R31, R37). -/
structure State.LinkBounded (s : State) : Prop where
  queue : s.slc.queue.length ≤ 12
  beacons : s.slc.queue.countP QueueEntry.isBeacon ≤ 1
  relays : s.slc.relays.length ≤ 8
  seen : s.slc.seen.length ≤ 64
  seenOnce : s.slc.seen.Nodup
  buffer : s.slc.rxBuffer.length ≤ 4
  neighbours : s.slc.neighbours.length ≤ 16
  neighboursOnce : (s.slc.neighbours.map (·.node)).Nodup

/-- The bounds of a service session's record (R129, R130, R132). -/
structure Session.Bounded (ss : Session) : Prop where
  allowanceAtOpen : ss.allowanceAtOpen ≤ 96
  allowance : ss.allowance ≤ ss.allowanceAtOpen
  collectedOnce : ss.collected.Nodup
  taken : ss.collected.length + ss.inFlight.length ≤ 24
  expectedOnce : ss.expected.Nodup
  deliveredOnce : ss.delivered.Nodup
  announced : ss.expected.length + ss.delivered.length ≤ 24
  recent : ss.recent.length ≤ 8

/-- The bounds of the tables and lists of the other blocks (R60, R66, R75, R81, R82, R98, R109, R125, R127, R129, R135, R144), and what
each of them holds once: the bike status list one entry per bike, the heard hire table one per hire and per bike, the pending-close list
one per bike and end time, the day spend table one per card, the claim list one per claim, and the load list one per bike. -/
structure State.TablesBounded (s : State) : Prop where
  bikes : s.du.bikes.length ≤ 64
  bikesOnce : (s.du.bikes.map (·.bike)).Nodup
  holds : s.hu.holds.length ≤ 256
  heard : s.hu.heard.length ≤ 64
  heardOnce : (s.hu.heard.map (·.hire)).Nodup
  heardBikesOnce : (s.hu.heard.map (·.bike)).Nodup
  pendingClose : s.hu.pendingClose.length ≤ 16
  pendingOnce : (s.hu.pendingClose.map fun p => (p.bike, p.endTime)).Nodup
  settled : s.hu.settled.length ≤ 32
  spend : s.fu.spend.length ≤ 32
  spendOnce : (s.fu.spend.map (·.card)).Nodup
  log : s.flt.log.length ≤ 32
  ring : s.bu.ring.length = 12
  claims : s.bu.claims.length ≤ 4
  claimsOnce : (s.bu.claims.map (·.id)).Nodup
  grants : ∀ c ∈ s.bu.claims, 1 ≤ c.granted ∧ c.granted ≤ 24
  session : ∀ ss, s.bu.session = some ss → ss.Bounded
  ownClaims : s.bu.ownClaims.length ≤ 4
  load : s.bu.load.length ≤ 30
  loadOnce : (s.bu.load.map (·.bike)).Nodup

/-- The law of the device that the capacity test owns (R71), with the lists it bounds: every member release finds room in the owned
hire table, and every owned hire finds room for its money record in the settlement queue (R71, R72, R148, R150). The hold list has one
entry per pair of card and reason (R66). Before REPLAY is complete no hire is owned and no taken record waits for the removal of its
slot, for a start cleared both lists (R92, R161). -/
structure State.HiresBounded (s : State) : Prop where
  capacity : s.sq.moneyInUse + s.hu.owned.length + s.du.memberReleases ≤ 64
  owned : s.hu.owned.length + s.du.memberReleases ≤ 48
  queue : s.sq.queue.length ≤ 64
  notes : ∀ r ∈ s.sq.queue, r.isMoney = false → r.slot = none
  holdsOnce : (s.hu.holds.map fun h => (h.card, h.reason)).Nodup
  cleared : s.sup.start = .options ∨ s.sup.start = .replay → s.hu.owned = [] ∧ s.sq.leaving = []

/-- The dock table is formed (R43, R44, R46 to R49, R59, R61, R70, R129 to R131). A dock is RELEASING exactly while a release is in force,
and a member's release alone has a card pending. A dock in HOLDING or RELEASING records a bike and an EMPTY one none; no member release
waits for a quarantined bike. Only a post heard since start has a bike at its dock or is sent an EVENT poll. A release to the van is in
force at a dock exactly while the session has a take in flight for it, one for each dock; and before REPLAY is complete there is no
session, nor a poll outstanding. -/
structure State.DocksFormed (s : State) : Prop where
  releasing : ∀ d, (s.dock d).state = .releasing ↔ (s.dock d).release.isSome = true
  pending : ∀ d r, (s.dock d).release = some r → (r.purpose = .member ↔ r.card.isSome = true)
  recorded : ∀ d, (s.dock d).state = .holding ∨ (s.dock d).state = .releasing → (s.dock d).bike.isSome = true
  empty : ∀ d, (s.dock d).state = .empty → (s.dock d).bike = none
  quarantined : ∀ d r x, (s.dock d).release = some r → r.purpose = .member → (s.dock d).bike = some x →
    ∀ e ∈ s.du.bikes, e.bike = x.bike → e.quarantine = none
  heard : ∀ d, (s.dock d).bike.isSome = true → (s.dock d).heard = true
  polled : ∀ d, s.du.polled = some (d, .event) → 1 ≤ d → d ≤ 24 → (s.dock d).heard = true
  takes : ∀ d, (∃ r, (s.dock d).release = some r ∧ r.purpose = .van) ↔
    ∃ ss, s.bu.session = some ss ∧ d ∈ ss.inFlight.map (·.dock)
  takesOnce : ∀ ss, s.bu.session = some ss → (ss.inFlight.map (·.dock)).Nodup
  unstarted : s.sup.start = .options ∨ s.sup.start = .replay → s.bu.session = none ∧ s.du.polled = none

/-- No bike is recorded at two docks. The rules do not keep it (assumption log 20). -/
def State.DockedOnce (s : State) : Prop :=
  ∀ d e x y, (s.dock d).bike = some x → (s.dock e).bike = some y → x.bike = y.bike → d = e

/-- The owned hires hold one bike each, and none that a dock here records (R72, R74, R77). -/
structure State.HiresApart (s : State) : Prop where
  bikesOnce : (s.hu.owned.map (·.fields.bike)).Nodup
  away : ∀ d x, (s.dock d).bike = some x → ∀ o ∈ s.hu.owned, o.fields.bike ≠ x.bike

/-- The money records the store holds (R154). -/
def State.storedMoney (s : State) : List RecordFields := (regionOf s.jnl.store 320 64 SlotContent.asMoney).map (·.2)

/-- The owned hires the store holds whose identity no stored money record carries: those that REPLAY rebuilds, but for two of one
bike (R89). -/
def State.unbilled (s : State) : List OwnedFields :=
  ((regionOf s.jnl.store 272 48 SlotContent.asOwned).map (·.2)).filter fun f =>
    !s.storedMoney.any fun r => decide (r.body.moneyHire = some { node := s.node, serial := f.serial })

/-- What REPLAY needs of the store to rebuild lists within their bounds: the money slots hold money records only, and these and the
owned hires that none of them names are at most 64 together (R71, R89, R154). -/
structure State.StoreFits (s : State) : Prop where
  money : ∀ i < 64, ∀ f, s.jnl.store.read (320 + i) = some (.money (some f)) → f.body.isMoney = true
  together : s.storedMoney.length + s.unbilled.length ≤ 64

/-- A slot of the store holds the content, or the write in progress would put it there. -/
def State.mayHold (s : State) (slot : Slot) (c : SlotContent) : Prop :=
  s.jnl.store.read slot.index = some c ∨ ∃ w, s.jnl.wip = some w ∧ w.slot = slot ∧ w.content = c

/-- The record of a hire of this node is in the settlement queue, and tells of it with this slot of the owned hires region. -/
def State.bills (s : State) (r : SettlementRecord) (n : Serial) : Prop :=
  r ∈ s.sq.queue ∧ r.fields.body.moneyHire = some { node := s.node, serial := n }

/-- What the store holds, or the write in progress would make it hold, has its place in the part's lists while the part runs (R72, R149,
R151, R153, R154, R158). A stored money record is one of the queue, or one taken whose removal is not yet written. A stored hire is an
owned one; or it has ended, and the money record of its end still waits for the slot to be written; or REPLAY has dropped it for a stored
money record that carries its identity, and the write that clears its slot comes before any other of that record's slot. A hire with a
money record is owned no more; a removal that has begun is in the write in progress; and money slots and hire serials are given once. -/
structure State.StoreTold (s : State) : Prop where
  money : ∀ i < 64, ∀ f, s.mayHold (.money i) (.money (some f)) →
    f.body.isMoney = true ∧ ((∃ r ∈ s.sq.queue, r.slot = some i ∧ r.fields = f) ∨ ∃ l ∈ s.sq.leaving, l.slot = i)
  hires : ∀ j < 48, ∀ f, s.mayHold (.owned j) (.owned (some f)) →
    (∃ o ∈ s.hu.owned, o.slot = j ∧ o.fields.serial = f.serial) ∨
    (∃ r, s.bills r f.serial ∧ r.ownedSlot = j ∧ r.ownedDone = false) ∨
    (∃ i < 64, ∃ g, s.jnl.store.read (320 + i) = some (.money (some g)) ∧
      g.body.moneyHire = some { node := s.node, serial := f.serial } ∧ (∀ o ∈ s.hu.owned, o.fields.serial ≠ f.serial) ∧
      (∀ w, s.jnl.wip = some w → w.slot ≠ .money i ∧
        (w.slot = .owned j → ∀ g, w.content = .owned (some g) → g.serial ≠ f.serial)) ∧
      ((∃ w, s.jnl.wip = some w ∧ w.slot = .owned j) ∨
        ∃ before rest, s.jnl.writeList = before ++ .owned j :: rest ∧ Slot.money i ∉ before))
  ended : ∀ r n, s.bills r n → ∀ o ∈ s.hu.owned, o.fields.serial ≠ n
  begun : ∀ r n, s.bills r n → r.ownedBegun = true → r.ownedDone = false → ∃ w, s.jnl.wip = some w ∧
    w.slot = .owned r.ownedSlot ∧ ∀ f, w.content = .owned (some f) → f.serial ≠ n
  leaving : ∀ l ∈ s.sq.leaving, l.begun = true → ∃ w, s.jnl.wip = some w ∧ w.slot = .money l.slot ∧ w.content = .money none
  slotsOnce : s.sq.slotsInUse.Nodup
  serialsOnce : (s.hu.owned.map (·.fields.serial)).Nodup

/-- The store follows the part's lists: no hire stands in two of its slots; before REPLAY is complete nothing is marked or written; and
once the part runs, what the store holds has its place in the lists. -/
structure State.StoreFollows (s : State) : Prop where
  hiresOnce : ∀ i < 48, ∀ j < 48, ∀ f g, s.mayHold (.owned i) (.owned (some f)) → s.mayHold (.owned j) (.owned (some g)) →
    f.serial = g.serial → i = j
  resting : s.sup.start = .options ∨ s.sup.start = .replay → s.jnl.writeList = [] ∧ s.jnl.wip = none
  told : s.awake = true → s.StoreTold

/-- The next two hire serials are free: no owned hire, no hire of a money record in the queue and no hire that the store may hold has
one (R73). -/
def State.NextSerialsFree (s : State) : Prop :=
  ∀ k < 2, let n := (s.hu.hireSerial + k) % 65536
    (∀ o ∈ s.hu.owned, o.fields.serial ≠ n) ∧ (∀ r, ¬ s.bills r n) ∧
    ∀ j < 48, ∀ f, s.mayHold (.owned j) (.owned (some f)) → f.serial ≠ n

/-- The raw need and the published need lie within -32..+32 (R126). -/
def State.NeedBounded (s : State) : Prop :=
  -32 ≤ s.bu.rawNeed ∧ s.bu.rawNeed ≤ 32 ∧ -32 ≤ s.bu.published ∧ s.bu.published ≤ 32

/-- The slot is one of the 385 of R154. -/
def Slot.exists : Slot → Bool
  | .band i | .cls i => decide (i < 4)
  | .window i => decide (i < 8)
  | .hold i => decide (i < 256)
  | .owned i => decide (i < 48)
  | .money i => decide (i < 64)
  | .counters => true

/-- The store is in its canonical form, and every slot that is marked, written or given to a record is one of the 385 (R154,
R155). -/
structure State.StoreFormed (s : State) : Prop where
  store : s.jnl.store.wf = true
  marked : ∀ slot ∈ s.jnl.writeList, slot.exists = true
  markedOnce : s.jnl.writeList.Nodup
  writing : ∀ w, s.jnl.wip = some w → w.slot.exists = true
  holds : ∀ h ∈ s.hu.holds, h.slot < 256
  owned : ∀ o ∈ s.hu.owned, o.slot < 48
  money : ∀ r ∈ s.sq.queue, r.ownedSlot < 48 ∧ ∀ i, r.slot = some i → i < 64
  leaving : ∀ l ∈ s.sq.leaving, l.slot < 64

/-- What a start clears: no block keeps anything of its volatile state (R17, R40, R65, R92, R108, R124, R146, R147, R161, R174). -/
structure State.Cleared (s : State) : Prop where
  slc : s.slc = Slc.afterReset s.slc.carrier
  du : s.du = Du.afterReset
  hu : s.hu = Hu.afterReset
  fu : s.fu = Fu.afterReset
  flt : s.flt = Flt.afterReset
  bu : s.bu = Bu.afterReset
  sq : s.sq = Sq.afterReset
  jnl : s.jnl = Jnl.afterReset s.jnl.store s.jnl.optionArea
  clk : s.clk = Clk.afterReset s.clk.dom

/-- The state `t` that a start of this cause leaves behind the state `s` before it, with the inputs found at OPTIONS: the volatile
state cleared, the image formed and judged (R176), the supply state by the first reading (R178), the backup domain kept or begun
afresh with the trim copied and a sample latched (R3, R4), the causes raised on the way, and the store, the option area and the
part's own timebase left as they were. -/
structure State.StartedFrom (s : State) (kind : ResetCause) (sense : Sense) (t : State) : Prop where
  cleared : t.Cleared
  carrier : t.slc.carrier = s.slc.carrier
  cause : t.sup.cause = kind
  image : t.sup.image = (formImage s.jnl.optionArea).1
  adjusted : t.sup.adjusted = (formImage s.jnl.optionArea).2.1
  adjustedFields : t.sup.adjustedFields = (formImage s.jnl.optionArea).2.2
  start : t.sup.start = if t.sup.image.node = 0 then .options else .replay
  battery : t.sup.battery = min 2000 sense.battery
  supply : t.sup.supply = if t.sup.battery < 1120 then .critical else if t.sup.battery < 1200 then .saving else .normal
  filters : t.sup.down = 0 ∧ t.sup.up = 0 ∧ t.sup.readingAt = t.timebase
  held : t.sup.powerHold = none ∧ t.sup.lineHold = false ∧ t.sup.brownOut = false
  clock : t.clk.dom =
    { (if kind = .power ∧ s.clk.dom.valid = false then BackupDomain.afresh else s.clk.dom) with
      trimA := t.sup.image.trimA, trimK := t.sup.image.trimK, trimT0 := t.sup.image.trimT0,
      temperature := max (-40) (min 85 sense.temperature) }
  link : t.kl = { Kl.afterReset with
    shiftedOut := t.kl.shiftedOut,
    raised := { CauseSet.none with
      time := decide (kind = .power ∧ s.clk.dom.valid = false), supply := decide (t.sup.supply ≠ .normal) } }
  kept : t.jnl.store = s.jnl.store ∧ t.jnl.optionArea = s.jnl.optionArea ∧ t.timebase = s.timebase ∧ t.draws = s.draws ∧
    t.pending = s.pending

end Sys2Proof.Machine
end

