-- ==== Sys2Proof/WellFormed.lean ====
section
/-!
DEFINITION. Which terms of `Instr` a connection can deliver: every field fits the bytes its layout gives it (R184 to R189).
A value that fits its bytes but lies outside the range its rule states is still a well-formed command: the rule refuses it.
-/
namespace Sys2Proof

/-- The number fits a field of n bytes (R184). -/
def fitsBytes (n v : Nat) : Bool := decide (v < 256 ^ n)

def Date.wf (d : Date) : Bool := fitsBytes 2 d.year && fitsBytes 1 d.month && fitsBytes 1 d.day

def CalendarTime.wf (t : CalendarTime) : Bool :=
  fitsBytes 2 t.year && fitsBytes 1 t.month && fitsBytes 1 t.day && fitsBytes 1 t.hour && fitsBytes 1 t.minute &&
    fitsBytes 1 t.second

def BandTerms.wf (t : BandTerms) : Bool :=
  fitsBytes 2 t.unlock && fitsBytes 1 t.free && fitsBytes 1 t.grace && fitsBytes 1 t.block && fitsBytes 2 t.price &&
    fitsBytes 2 t.cap && fitsBytes 2 t.lateAfter && fitsBytes 2 t.lateFee && fitsBytes 4 t.lostFee

def ClassFields.wf (f : ClassFields) : Bool :=
  fitsBytes 1 f.percent && fitsBytes 2 f.dayCap && fitsBytes 1 f.hireLimit && fitsBytes 1 f.waived

def WindowFields.wf (f : WindowFields) : Bool :=
  fitsBytes 1 f.presence && fitsBytes 1 f.band && fitsBytes 1 f.weekdays && fitsBytes 1 f.firstMonth &&
    fitsBytes 1 f.lastMonth && fitsBytes 2 f.startMinute && fitsBytes 2 f.endMinute

def CardAnswer.wf (a : CardAnswer) : Bool := fitsBytes 4 a.card && fitsBytes 1 a.classCode && a.validUntil.wf

/-- The on-chip sensor's reading as the model takes it: a signed 16-bit number of degrees. DESIGN CHOICE, assumption log 6. -/
def temperatureFits (t : Int) : Bool := decide (-32768 ≤ t) && decide (t ≤ 32767)

/-- The battery converter's reading as the model takes it: a 16-bit number of 10 mV units. DESIGN CHOICE, assumption log 6. -/
def Sense.wf (s : Sense) : Bool := fitsBytes 2 s.battery && temperatureFits s.temperature

/-- A radio frame whose length agrees with the body length its first two bytes carry, at most 255 (R26, R185). -/
def frameWf : List Byte → Bool
  | hi :: lo :: rest => decide (hi.toNat * 256 + lo.toNat ≤ 255) && decide (rest.length = 12 + (hi.toNat * 256 + lo.toNat))
  | _ => false

/-- The bytes are those of a transfer of its command's kind, or of one that the part ignores (R162, R186); a send's frame is the
whole request frame and no more. -/
def sendWf (first : Byte) (frame : List Byte) : Bool :=
  match transferOf (first :: frame) with
  | .send _ _ _ after => after == 0
  | .ignored => true
  | .cut | .fetch _ => false

def cutWf (shiftedIn : List Byte) : Bool :=
  match transferOf shiftedIn with
  | .cut | .ignored => true
  | .send .. | .fetch _ => false

def fetchWf (shiftedIn : List Byte) : Bool :=
  match transferOf shiftedIn with
  | .fetch _ | .ignored => true
  | .send .. | .cut => false

/-- A command as its connection can deliver it. -/
def Instr.wf : Instr → Bool
  | .sendTransfer first frame _ => sendWf first frame
  | .sendTransferCut shiftedIn => cutWf shiftedIn
  | .fetchTransfer shiftedIn sense => fetchWf shiftedIn && sense.wf
  | .restartAnswerTimeout sense => sense.wf
  | .getStatus => true
  | .getCause => true
  | .setAttentionMask enables => fitsBytes 1 enables
  | .takeRecords n => fitsBytes 1 n
  | .setSettlement trigger timeout => fitsBytes 1 trigger && fitsBytes 2 timeout
  | .setTime t => t.wf
  | .getTime => true
  | .loadBand band terms => fitsBytes 1 band && terms.wf
  | .loadClass cls fields => fitsBytes 1 cls && fields.wf
  | .loadWindow index fields => fitsBytes 1 index && fields.wf
  | .readTariff => true
  | .holdCard number reason => fitsBytes 4 number && fitsBytes 1 reason
  | .liftHold number reason => fitsBytes 4 number && fitsBytes 1 reason
  | .queryCard number validUntil => fitsBytes 4 number && validUntil.all Date.wf
  | .queryBike bike => fitsBytes 3 bike
  | .reportFault subject number kind severity =>
      fitsBytes 1 subject && fitsBytes 3 number && fitsBytes 1 kind && fitsBytes 1 severity
  | .clearFault subject number => fitsBytes 1 subject && fitsBytes 3 number
  | .readFaults => true
  | .dockDisable dock => fitsBytes 1 dock
  | .dockEnable dock => fitsBytes 1 dock
  | .readDocks => true
  | .readNeighbours => true
  | .claim station action amount lifetime =>
      fitsBytes 2 station && fitsBytes 1 action && fitsBytes 1 amount && fitsBytes 1 lifetime
  | .openSession station => fitsBytes 2 station
  | .take dock => fitsBytes 1 dock
  | .announceDelivery bikes => decide (bikes.length ≤ 84) && bikes.all (fitsBytes 3)
  | .closeSession => true
  | .unload bike => fitsBytes 3 bike
  | .readLoad => true
  | .readClaims => true
  | .readOptions => true
  | .writeOptions block => decide (block.length = 16)
  | .restart => true
  | .optionAreaRead => true
  | .optionWriteStart => true
  | .optionWriteEnd _ => true
  | .brownOut => true
  | .powerHoldEnd hold => hold.sense.wf
  | .resetAssert => true
  | .resetRelease sense => sense.wf
  | .replayComplete => true
  | .listenTimerExpiry => true
  | .batteryReading input => fitsBytes 2 input
  | .rawTick => true
  | .gradeRise => true
  | .temperatureSample reading => temperatureFits reading
  | .minuteBoundary => true
  | .carrierRise => true
  | .carrierFall _ => true
  | .frameCompleted frame => frameWf frame
  | .frameProcessed => true
  | .slotEnd => true
  | .transmissionEnd => true
  | .relayDelayExpiry origin serial => fitsBytes 2 origin && fitsBytes 2 serial
  | .ownQuietExpiry => true
  | .neighbourQuietExpiry node => fitsBytes 2 node
  | .neighbourAgeExpiry node => fitsBytes 2 node
  | .beaconTimerExpiry => true
  | .poll => true
  | .pollAnswerTimeout => true
  | .heartbeat dock bike => fitsBytes 1 dock && fitsBytes 3 bike
  | .card dock answer => fitsBytes 1 dock && answer.wf
  | .bikeOut dock => fitsBytes 1 dock
  | .bikeIn dock bike => fitsBytes 1 dock && fitsBytes 3 bike
  | .button dock => fitsBytes 1 dock
  | .lockFail dock => fitsBytes 1 dock
  | .releaseTimeout dock => fitsBytes 1 dock
  | .returnWindowExpiry dock => fitsBytes 1 dock
  | .lampTransientEnd dock => fitsBytes 1 dock
  | .postSilence dock => fitsBytes 1 dock
  | .pendingCloseRepeat bike endTime => fitsBytes 3 bike && fitsBytes 4 endTime
  | .claimExpiry van serial => fitsBytes 2 van && fitsBytes 1 serial
  | .sessionIdleTimeout => true
  | .claimAnswerTimeout serial => fitsBytes 1 serial
  | .vanClaimExpiry serial => fitsBytes 1 serial
  | .sessionAnswerTimeout => true
  | .vanSessionIdleTimeout => true
  | .takeAnswerTimeout request => fitsBytes 1 request
  | .takeCompletionTimeout request => fitsBytes 1 request
  | .settlementIdleTimeout => true
  | .journalWriteStart => true
  | .journalWriteEnd _ => true
  | .bodyLengthArrived length => fitsBytes 2 length
  | .backupDomainPowerLost => true

end Sys2Proof
end

