-- ==== Sys2Proof/Certificates/Slice0/Obligations.lean ====
section
/-!
DEFINITION. The statements for the provers. A statement about a command says what the command does, and what it leaves as it was,
by writing the next state as the old one with the changed fields named.
-/

open Sys2Proof Sys2Proof.Machine

/-! ### The queue of commands -/

/-- With a command at the front of the queue, a step is that command's effect on the state whose queue is the rest; on an empty queue the
part idles and a millisecond of its own timebase passes. The queue is the model's own, assumption log 11, and so is what an empty one
does, assumption log 1. -/
def Obligations.StepTakesFrontCommand : Prop :=
  ∀ s : State,
    (∀ (c : Instr) (rest : List Instr), s.pending = c :: rest → step s = exec c { s with pending := rest }) ∧
    (s.pending = [] → step s = .next { s with timebase := s.timebase + 1 })

/-! ### The kiosk link (Chapter 9) -/

/-- The whole frame of any well-formed request, sent in IDLE behind the first byte of a send, is taken, passes the tests of R164 when its
role and start state admit it, and is the request in progress with every field as the host wrote it. The part shifts out 0xFF while the
frame comes in, then the receipt TAKEN and fill. A held answer is discarded, and counted when no fetch has delivered it whole. That a
transfer is one command that carries every byte the host shifts in, and that the bytes shifted out stand in the state, are the model's
choices, assumption logs 45 and 44. -/
def Obligations.RequestFramesAreTakenAsWritten : Prop :=
  ∀ (s : State) (i : Instr) (r : Request) (clocked : List Byte),
    requestOfInstr i = some r → i.wf = true → s.inReset = false → s.kl.link = .idle → s.admission r = none →
      exec (.sendTransfer 0xC1 (BitVec.ofNat 8 r.code :: BitVec.ofNat 8 r.bytes.length :: (r.bytes ++ [r.check])) clocked) s =
        .next { s with kl := { s.kl with
          link := .working, inProgress := some r, held := none, delivered := false,
          shiftedOut := List.replicate (r.bytes.length + 4) 0xFF ++
            ([0xF0].take clocked.length ++ List.replicate (clocked.length - 1) 0xFF),
          unfetched := if s.kl.held.isSome ∧ s.kl.delivered = false then min 65535 (s.kl.unfetched + 1) else s.kl.unfetched } }

/-- The tests of R164 on a frame taken in IDLE, in their order: the first that fails gives the status of the held answer, and nothing
beyond the kiosk link changes. The receipt is TAKEN all the same. That a transfer is one command that carries every byte the host shifts
in, and that the bytes shifted out stand in the state, are the model's choices, assumption logs 45 and 44. -/
def Obligations.FailingFramesAreAnsweredInOrder : Prop :=
  ∀ (s : State) (code check : Byte) (body clocked : List Byte), s.inReset = false → s.kl.link = .idle → body.length ≤ 255 →
    let sound := check = ~~~ ((code :: BitVec.ofNat 8 body.length :: body).foldl (· + ·) 0)
    let answered (status : Status) : Prop :=
      exec (.sendTransfer 0xC1 (code :: BitVec.ofNat 8 body.length :: (body ++ [check])) clocked) s =
        .next { s with kl := { s.kl with
          link := .idle, inProgress := none, held := some { status := status, body := [] }, delivered := false,
          shiftedOut := List.replicate (body.length + 4) 0xFF ++
            ([0xF0].take clocked.length ++ List.replicate (clocked.length - 1) 0xFF),
          unfetched := if s.kl.held.isSome ∧ s.kl.delivered = false then min 65535 (s.kl.unfetched + 1) else s.kl.unfetched } }
    (¬ sound → answered .badCheck) ∧
    (sound → (code = 0 ∨ 33 < code.toNat) → answered .unknownRequest) ∧
    (sound → requestLengthOk code.toNat body = some false → answered .badLength) ∧
    (∀ r, sound → requestLengthOk code.toNat body = some true → requestOf code.toNat body = some r →
      (r.roleOk s.isVan = false → answered .wrongRole) ∧
      (r.roleOk s.isVan = true → r.anyStart = false → s.sup.start ≠ .run → answered .notReady))

/-- Transfers that take no request. In WORKING or RESTARTING a whole frame is not taken: the receipt is a whole BUSY answer frame and
nothing else changes. A send cut off before its check byte is taken in IDLE and answered BAD_LENGTH with no receipt; in WORKING or
RESTARTING nothing but the fill goes out. A transfer whose first byte names neither a send nor a fetch is ignored: only fill is shifted
out. That a transfer is one command that carries every byte the host shifts in, and that the bytes shifted out stand in the state, are the
model's choices, assumption logs 45 and 44. -/
def Obligations.BusyAndCutSendsAreTurnedAway : Prop :=
  ∀ s : State, s.inReset = false →
    let out (bytes : List Byte) : Kl := { s.kl with shiftedOut := bytes }
    (∀ (code check : Byte) (body clocked : List Byte), s.kl.link ≠ .idle → body.length ≤ 255 →
      exec (.sendTransfer 0xC1 (code :: BitVec.ofNat 8 body.length :: (body ++ [check])) clocked) s =
        .next { s with kl := out (List.replicate (body.length + 4) 0xFF ++
          ([9, 0, 0, 0xF6].take clocked.length ++ List.replicate (clocked.length - 4) 0xFF)) }) ∧
    (∀ received : List Byte, (∀ code length rest, received = code :: length :: rest → rest.length ≤ length.toNat) →
      (s.kl.link = .idle →
        exec (.sendTransferCut (0xC1 :: received)) s = .next { s with kl := { s.kl with
          inProgress := none, held := some { status := .badLength, body := [] }, delivered := false,
          shiftedOut := List.replicate (received.length + 1) 0xFF,
          unfetched := if s.kl.held.isSome ∧ s.kl.delivered = false then min 65535 (s.kl.unfetched + 1) else s.kl.unfetched } }) ∧
      (s.kl.link ≠ .idle →
        exec (.sendTransferCut (0xC1 :: received)) s =
          .next { s with kl := out (List.replicate (received.length + 1) 0xFF) })) ∧
    (∀ (first : Byte) (rest clocked : List Byte) (sense : Sense), first ≠ 0xC1 → first ≠ 0xC2 →
      exec (.sendTransfer first rest clocked) s =
        .next { s with kl := out (List.replicate (1 + rest.length + clocked.length) 0xFF) } ∧
      exec (.sendTransferCut (first :: rest)) s = .next { s with kl := out (List.replicate (1 + rest.length) 0xFF) } ∧
      exec (.fetchTransfer (first :: rest) sense) s = .next { s with kl := out (List.replicate (1 + rest.length) 0xFF) })

/-- A fetch of n bytes after its first shifts out 0xFF, then the held answer, or a WAIT or an EMPTY marker, and then fill, and leaves the
link as it was; an answer whose frame it clocked whole is noted as delivered (R162, R163, R186). In RESTARTING it leaves a fetch that does
not reach the end of the answer; RESTART is answered OK at once with the link in RESTARTING (R167). That a transfer is one command that
carries every byte the host shifts in, and that the bytes shifted out stand in the state, are the model's choices, assumption logs 45 and
44. -/
def Obligations.FetchShiftsOutAnswerOrMarker : Prop :=
  ∀ (s : State) (clocked : List Byte) (sense : Sense), s.inReset = false →
    let n := clocked.length
    (s.kl.link = .working →
      exec (.fetchTransfer (0xC2 :: clocked) sense) s =
        .next { s with kl := { s.kl with shiftedOut := 0xFF :: ([0xF1].take n ++ List.replicate (n - 1) 0xFF) } }) ∧
    (s.kl.link = .idle → s.kl.held = none →
      exec (.fetchTransfer (0xC2 :: clocked) sense) s =
        .next { s with kl := { s.kl with shiftedOut := 0xFF :: ([0xF2].take n ++ List.replicate (n - 1) 0xFF) } }) ∧
    (∀ a, s.kl.link ≠ .working → s.kl.held = some a → (s.kl.link = .restarting → n < a.frame.length) →
      exec (.fetchTransfer (0xC2 :: clocked) sense) s =
        .next { s with kl := { s.kl with
          shiftedOut := 0xFF :: (a.frame.take n ++ List.replicate (n - a.frame.length) 0xFF),
          delivered := s.kl.delivered || decide (a.frame.length ≤ n) } }) ∧
    (s.Takes .restart →
      exec .restart s = .next { s with kl := { s.kl.answered .ok [] with link := .restarting, restartStart := s.timebase } })

/-- GET STATUS is answered with the part's status as it stands, and its taking clears the JOURNAL cause, and the new-error sum with the
LINK cause; GET TIME is answered with the clock's state, and its taking clears the TIME cause. The other requests that read are answered
with what they report and change nothing: QUERY CARD and QUERY BIKE for a number in range, and READ TARIFF, READ FAULTS, READ DOCKS, READ
NEIGHBOURS, READ LOAD and READ CLAIMS. The codings R186 leaves open are the model's choice, assumption log 13; so are that an age is
rounded down as a count of seconds (log 13), the rounding of other remainders (log 9), the allowance READ LOAD shows in OPENING (log 54),
that QUERY BIKE names the lowest of two docks (log 56), and that QUERY BIKE of bike 0 and QUERY CARD of a date that does not exist, of
which nothing is stated here, are refused (log 14). -/
def Obligations.ReadingRequestsReport : Prop :=
  ∀ s : State,
    (s.Takes .getStatus → exec .getStatus s = .next { s with
      slc := { s.slc with newErrors := 0 },
      kl := { s.kl with raised := { s.kl.raised with journal := false, link := false } }.answered .ok s.statusBody }) ∧
    (s.Takes .getTime → exec .getTime s =
      .next { s with kl := { s.kl with raised := { s.kl.raised with time := false } }.answered .ok s.timeBody }) ∧
    (∀ card date, s.Takes (.queryCard card date) → 1 ≤ card → card ≤ 4294967295 → (∀ d, date = some d → dateExists d = true) →
      exec (.queryCard card date) s = .next { s with kl := s.kl.answered .ok (s.cardBody card date) }) ∧
    (∀ date, s.Takes (.queryCard 0 date) → exec (.queryCard 0 date) s = .next { s with kl := s.kl.answered .badValue [] }) ∧
    (∀ bike, s.Takes (.queryBike bike) → 1 ≤ bike → bike ≤ 16777215 →
      exec (.queryBike bike) s = .next { s with kl := s.kl.answered .ok (s.bikeBody bike) }) ∧
    (s.Takes .readTariff → exec .readTariff s = .next { s with kl := s.kl.answered .ok s.tariffBody }) ∧
    (s.Takes .readFaults → exec .readFaults s =
      .next { s with kl := s.kl.answered .ok (listBytes FaultEntry.bytes s.flt.log ++ u16 s.flt.drops) }) ∧
    (s.Takes .readDocks → exec .readDocks s = .next { s with kl := s.kl.answered .ok s.docksBody }) ∧
    (s.Takes .readNeighbours → exec .readNeighbours s =
      .next { s with kl := s.kl.answered .ok (listBytes (Neighbour.bytes s.timebase) s.slc.neighbours) }) ∧
    (s.Takes .readLoad → exec .readLoad s = .next { s with kl := s.kl.answered .ok s.loadBody }) ∧
    (s.Takes .readClaims → exec .readClaims s =
      .next { s with kl := s.kl.answered .ok (listBytes (VanClaim.bytes s.node s.timebase) s.bu.ownClaims) })

/-- GET CAUSE latches and reports the highest-priority cause that is both pending and enabled, or NONE, with the whole pending set, and
clears that one cause when it is SUPPLY, FAULT or VAN. SET ATTENTION MASK replaces the mask, one enable for each cause from SUPPLY at bit
0 to LINK at bit 6, and answers the mask in force and the pending set; the pending set stays, and the line is asserted at once if a
pending cause is now enabled, and otherwise released. Enables beyond the seven causes are refused. In every state the line is asserted
exactly while some pending cause is enabled and the part is not held in reset. That the state keeps the latched cause, and the latched
pending set stands in the answer alone, is the model's inference, assumption log 39. -/
def Obligations.AttentionRequestsReportAndMask : Prop :=
  ∀ s : State,
    (s.Takes .getCause →
      let live (c : Cause) : Prop := s.kl.raised.has c = true ∧ s.kl.mask.has c = true
      ∃ top : Option Cause,
        (top = none ↔ ∀ c, ¬ live c) ∧
        (∀ c, top = some c → live c ∧ ∀ d, live d → codeIn causes c ≤ codeIn causes d) ∧
        exec .getCause s = .next { s with
          kl := { s.kl with
            latched := top,
            raised := match top with
              | some .supply => { s.kl.raised with supply := false }
              | some .fault => { s.kl.raised with fault := false }
              | some .van => { s.kl.raised with van := false }
              | some .journal | some .settlement | some .time | some .link | none => s.kl.raised }.answered .ok
            (u8 (top.elim 0 fun c => codeIn causes c + 1) ++ u8 s.kl.raised.byte) }) ∧
    (∀ enables : Nat, s.Takes (.setAttentionMask enables) →
      (enables < 128 → ∃ (mask : CauseSet) (t : State),
        (∀ c, mask.has c = enables.testBit (codeIn causes c)) ∧
        exec (.setAttentionMask enables) s = .next t ∧
        t = { s with kl := { s.kl with mask := mask }.answered .ok (u8 enables ++ u8 s.kl.raised.byte) } ∧
        (t.attentionLine = true ↔ ∃ c, s.kl.raised.has c = true ∧ enables.testBit (codeIn causes c) = true)) ∧
      (128 ≤ enables → exec (.setAttentionMask enables) s = .next { s with kl := s.kl.answered .badValue [] })) ∧
    (s.attentionLine = true ↔ s.inReset = false ∧ ∃ c : Cause, s.kl.raised.has c = true ∧ s.kl.mask.has c = true)

/-! ### Station time (Chapter 1) -/

/-- The calendar view of a station time and the station seconds of a calendar time are inverse to each other: every station time
has a calendar time that exists, and every calendar time that exists is that of one station time. -/
def Obligations.CalendarAndSecondsAreInverse : Prop :=
  (∀ t : Time, t ≤ lastTime → calendarExists (calendarOf t) = true ∧ secondsOf (calendarOf t) = t) ∧
  (∀ c : CalendarTime, calendarExists c = true → secondsOf c ≤ lastTime ∧ calendarOf (secondsOf c) = c)

/-- A raw tick, while the backup domain has power: station time advances by the base second, the drift trim and the slew, or not at all
when a drift withhold and a slew withhold fall together; the drift accumulator takes the error and is tested; the grade timer and the
sampling period count; a slew correction is used up and the next falls due at a 10-second boundary; and a minute boundary passed joins
those not yet taken, unless the part is held in reset. Without power nothing happens. That boundaries passed wait in a queue of their own,
that an event which cannot occur changes nothing, that a tick on which two withholds fall together advances the time by nothing beside an
extra second too, and that a slew is worked off while the part is held, are the model's choices, assumption logs 10, 3, 41 and 46. -/
def Obligations.RawTickAdvancesTheClock : Prop :=
  ∀ s : State, s.clk.dom.time ≤ lastTime →
    (s.clk.dom.powered = false → exec .rawTick s = .next s) ∧
    (s.clk.dom.powered = true →
      let d := s.clk.dom
      let e : Int := d.trimA - ((d.temperature - d.trimT0) * (d.temperature - d.trimT0) * d.trimK).tdiv 100
      let due (dir : SlewDirection) : Bool := s.clk.slewDue && s.clk.slew.any fun w => decide (w.direction = dir)
      let carried : Bool := d.withhold && due .withhold
      ∃ c : Clk,
        exec .rawTick s = .next { s with clk := c } ∧
        c = { s.clk with
          dom := { d with time := c.dom.time, drift := c.dom.drift, withhold := c.dom.withhold, gradeTimer := c.dom.gradeTimer },
          slew := c.slew, slewDue := c.slewDue, sampleTicks := c.sampleTicks, boundaries := c.boundaries } ∧
        (carried = true → c.dom.time = d.time) ∧
        (carried = false → (c.dom.time : Int) = min (lastTime : Int)
          (d.time + 1 + (if d.drift + e ≤ -10000000 then 1 else 0) - (if d.withhold then 1 else 0) +
            (if due .insert then 1 else 0) - (if due .withhold then 1 else 0))) ∧
        (10000000 ≤ d.drift + e → c.dom.drift = d.drift + e - 10000000 ∧ c.dom.withhold = true) ∧
        (d.drift + e ≤ -10000000 → c.dom.drift = d.drift + e + 10000000 ∧ c.dom.withhold = false) ∧
        (-10000000 < d.drift + e → d.drift + e < 10000000 → c.dom.drift = d.drift + e ∧ c.dom.withhold = false) ∧
        c.dom.gradeTimer = (if d.grade < 7 then d.gradeTimer + 1 else d.gradeTimer) ∧
        c.sampleTicks = (if s.sup.powerHold = none then s.clk.sampleTicks + 1 else s.clk.sampleTicks) ∧
        (s.clk.slewDue = false ∨ carried = true → c.slew = s.clk.slew) ∧
        (s.clk.slewDue = true → carried = false → ∀ w, s.clk.slew = some w →
          c.slew = if w.count ≤ 1 then none else some { w with count := w.count - 1 }) ∧
        (c.slewDue = true ↔ c.slew ≠ none ∧ (carried = true ∨ ∃ u, d.time < u ∧ u ≤ c.dom.time ∧ u % 10 = 0)) ∧
        (∀ u, d.time < u → u ≤ c.dom.time → u % 60 = 0 → s.inReset = false → c.boundaries = s.clk.boundaries ++ [u]) ∧
        ((∀ u, d.time < u → u ≤ c.dom.time → u % 60 ≠ 0) ∨ s.inReset = true → c.boundaries = s.clk.boundaries))

/-- The grade rises when its timer has counted 21,600 raw ticks below grade 7; a temperature sample, due after 60 raw ticks with main
power present, is clamped to -40 to +85 and latched; and with main power absent the loss of the backup cell ends the domain's validity.
None of the three does anything before it is due: the model's choice, assumption log 3. That the loss of the cell ends the validity and
the power and keeps every other field of the domain, and that it is taken at any moment of a hold, are the model's too, assumption logs 24
and 55. -/
def Obligations.ClockEventsAreTakenWhenDue : Prop :=
  ∀ (s : State) (reading : Int),
    (s.clk.dom.powered = true → s.clk.dom.grade < 7 → 21600 ≤ s.clk.dom.gradeTimer →
      exec .gradeRise s = .next { s with clk := { s.clk with
        dom := { s.clk.dom with grade := s.clk.dom.grade + 1, gradeTimer := 0 } } }) ∧
    (s.clk.dom.gradeTimer < 21600 ∨ 7 ≤ s.clk.dom.grade → exec .gradeRise s = .next s) ∧
    (s.sup.powerHold = none → 60 ≤ s.clk.sampleTicks →
      exec (.temperatureSample reading) s = .next { s with clk := { s.clk with
        dom := { s.clk.dom with temperature := max (-40) (min 85 reading) }, sampleTicks := 0 } }) ∧
    (s.sup.powerHold ≠ none ∨ s.clk.sampleTicks < 60 → exec (.temperatureSample reading) s = .next s) ∧
    (s.sup.powerHold ≠ none →
      exec .backupDomainPowerLost s = .next { s with clk := { s.clk with
        dom := { s.clk.dom with valid := false, powered := false } } }) ∧
    (s.sup.powerHold = none → exec .backupDomainPowerLost s = .next s)

/-- SET TIME: a calendar time that does not exist is refused and changes nothing; the present time anchors the clock without a step; any
other time anchors it and steps station time with source KIOSK, raising no TIME cause. That the CLOCK note of a step is posted at the new
time is the model's choice, assumption log 57. -/
def Obligations.SetTimeAnchorsAndSteps : Prop :=
  ∀ (s : State) (c : CalendarTime), s.Takes (.setTime c) →
    (calendarExists c = false → exec (.setTime c) s = .next { s with kl := s.kl.answered .badValue [] }) ∧
    (calendarExists c = true → secondsOf c = s.now →
      exec (.setTime c) s = .next { s with clk := s.clk.anchored 0, kl := s.kl.answered .ok [] }) ∧
    (calendarExists c = true → secondsOf c ≠ s.now → ∃ t, exec (.setTime c) s = .next t ∧
      s.SteppedTo t (s.clk.anchored 0) (secondsOf c) none ∧
      t.kl = { s.kl with raised := { s.kl.raised with settlement := t.kl.raised.settlement } }.answered .ok [])

/-- A beacon whose grade plus one is below the own grade is adopted: by a step when the times differ by 30 s or more, raising TIME, and
otherwise by a slew of the difference, none for a difference of 0. Any other beacon leaves the clock unchanged. That a difference of 0
leaves a slew in force as it is, and that the CLOCK note of a step is posted at the new time, are the model's choices, assumption logs 22
and 57. -/
def Obligations.BeaconsOfBetterGradeAreAdopted : Prop :=
  ∀ (s : State) (sender : Node) (time : Time) (grade : Nat),
    let difference : Int := (time : Int) - (s.now : Int)
    let anchored : Clk := { s.clk with
      dom := { s.clk.dom with grade := grade + 1, gradeTimer := 0, clockLost := false } }
    (s.clk.dom.grade ≤ grade + 1 → s.takeBeaconTime sender time grade = s) ∧
    (grade + 1 < s.clk.dom.grade → 30 ≤ difference.natAbs →
      s.SteppedTo (s.takeBeaconTime sender time grade) (s.clk.anchored (grade + 1)) time (some sender) ∧
      (s.takeBeaconTime sender time grade).kl.raised.time = true) ∧
    (grade + 1 < s.clk.dom.grade → difference = 0 → s.takeBeaconTime sender time grade = { s with clk := anchored }) ∧
    (grade + 1 < s.clk.dom.grade → difference.natAbs < 30 → difference ≠ 0 →
      s.takeBeaconTime sender time grade = { s with clk := { anchored with
        slew := some { direction := if 0 < difference then .insert else .withhold, count := difference.natAbs },
        slewDue := false } })

/-- A window table entry matches a station time exactly when it is enabled and the weekday, the month and the minute-of-day of that time
lie in its weekday set, its month range and its minute span. The evaluation of the windows: the match set holds the indexes of the
matching entries, the current band is that of the lowest matching entry of kind BAND or band 0, the closed flag tells whether an entry of
kind CLOSED matches, and nothing else changes. -/
def Obligations.WindowsMatchAndGiveThreeResults : Prop :=
  (∀ (w : Window) (t : Time),
    w.holds t = true ↔
      w.enabled = true ∧
      (∀ days, w.weekdays = some days → days.getLsbD (weekdayOf t - 1) = true) ∧
      (∀ first last, w.months = some (first, last) →
        (first ≤ last → first ≤ (dateOf t).month ∧ (dateOf t).month ≤ last) ∧
        (last < first → first ≤ (dateOf t).month ∨ (dateOf t).month ≤ last)) ∧
      (w.startMinute < w.endMinute → w.startMinute ≤ minuteOfDay t ∧ minuteOfDay t < w.endMinute) ∧
      (w.endMinute < w.startMinute → w.startMinute ≤ minuteOfDay t ∨ minuteOfDay t < w.endMinute)) ∧
  (∀ s : State,
    let c := s.evaluateWindows.clk
    let hit (i : Fin 8) : Prop := (s.clk.windows[i]).holds s.now = true
    s.evaluateWindows = { s with clk := { s.clk with matchSet := c.matchSet, band := c.band, closed := c.closed } } ∧
    (∀ i : Fin 8, c.matchSet.getLsbD i = true ↔ hit i) ∧
    (c.closed = true ↔ ∃ i : Fin 8, hit i ∧ (s.clk.windows[i]).closes = true) ∧
    (∀ i : Fin 8, hit i → (s.clk.windows[i]).closes = false →
      (∀ j : Fin 8, j < i → hit j → (s.clk.windows[j]).closes = true) → c.band = (s.clk.windows[i]).band.getD 0) ∧
    ((∀ i : Fin 8, hit i → (s.clk.windows[i]).closes = true) → c.band = 0))

/-- The oldest minute boundary is taken: the windows are evaluated for the present time, a boundary at midnight empties the day spend
table, a 5-minute boundary moves a station's activity ring on by one bin, and the need is computed. In LISTEN or RUN every owned hire Z
minutes old or older is converted, one after another, each as the statement on overdue hires has it, and leaves the table, and heard
entries that old leave theirs; where no hire is that old, nothing else changes. That boundaries passed wait in a queue of their own, and
that of several overdue hires the first in the table is converted first, are the model's choices, assumption logs 10 and 60. -/
def Obligations.MinuteBoundaryIsTaken : Prop :=
  ∀ (s : State) (b : Time) (rest : List Time), s.inReset = false → s.clk.boundaries = b :: rest →
    let runs : Bool := decide (s.sup.start = .listen ∨ s.sup.start = .run)
    let begun : State := { s with
      clk := Clk.evaluated { s.clk with boundaries := rest },
      fu := if b % 86400 = 0 then { s.fu with spend := [] } else s.fu }
    let overdue (start : Time) : Bool := decide ((s.sup.image.maxHire * 60 : Int) ≤ (s.now : Int) - start)
    let due := s.hu.owned.filter fun o => overdue o.fields.start
    let converted : State := if runs then due.foldl State.convertOverdue begun else begun
    let t : State := State.recomputeNeed { converted with
      hu := if runs then { converted.hu with heard := s.hu.heard.filter fun e => !overdue e.start } else s.hu,
      bu := { converted.bu with
        ring := if b / 60 % 5 = 0 ∧ s.isVan = false then ⟨0, 0⟩ :: s.bu.ring.take 11 else s.bu.ring } }
    exec .minuteBoundary s = .next t ∧ t.clk = begun.clk ∧ t.fu = begun.fu ∧
      t.sup = s.sup ∧ t.timebase = s.timebase ∧ t.draws = s.draws ∧ t.pending = s.pending ∧
      (runs = true → t.hu.owned = s.hu.owned.filter fun o =>
        !s.hu.owned.any fun x => decide (x.fields.serial = o.fields.serial) && overdue x.fields.start) ∧
      (runs = true → s.sq.queue.length + due.length ≤ 64 →
        t.sq.queue.map (·.fields.body) = s.sq.queue.map (·.fields.body) ++ due.map fun o =>
          .overdue { node := s.node, serial := o.fields.serial } o.fields.card o.fields.bike o.fields.start
            (o.fields.terms.cap + o.fields.terms.lostFee)) ∧
      (due = [] → t = { s with clk := t.clk, fu := t.fu, hu := t.hu, bu := t.bu })

/-! ### The street link (Chapter 2) -/

/-- A notice handed over to be originated is given the node's number, the next origin serial, the hops of its scope and the destination of
an addressed kind, and joins the transmit queue. A beacon takes the place of a queued one; any notice joins a queue of fewer than 12; from
a full queue a NORMAL or URGENT notice evicts the beacon, and without one an URGENT notice evicts the oldest NORMAL one; any other is
dropped. An eviction or a drop is counted. In RUN, with nothing in flight, the oldest notice of the highest class queued is in access: an
access in progress goes on where the notice in access is still that one, and a new URGENT notice takes it from a notice of a lower class,
which keeps its place. That the van session's idle timer restarts where any notice to its station is handed over is the model's inference,
assumption log 43. -/
def Obligations.OriginatedNoticesJoinTheQueue : Prop :=
  ∀ (s : State) (body : NoticeBody) (dest : Node),
    let t := s.originate body dest
    let n : Notice :=
      { origin := s.node, serial := s.slc.originSerial, sender := s.node,
        hops := if body.scope = .flooded then s.sup.image.hopLimit else 0,
        dest := if body.scope = .addressed then dest else 0, body := body }
    let isBeacon (x : Notice × TxClass × Bool) : Bool := decide (x.1.body.kindCode = 7)
    let isNormal (x : Notice × TxClass × Bool) : Bool := decide (x.2.1 = .normal)
    let before := s.slc.queue.map fun e => (e.notice, e.cls, e.relayed)
    let after := t.slc.queue.map fun e => (e.notice, e.cls, e.relayed)
    let entry := (n, body.cls, false)
    let counted : Nat := min 65535 (s.slc.txDrops + 1)
    let replaces := body.kindCode = 7 ∧ before.any isBeacon = true
    (replaces → after = before.filter (fun x => !isBeacon x) ++ [entry] ∧ t.slc.txDrops = s.slc.txDrops) ∧
    (¬ replaces → before.length < 12 → after = before ++ [entry] ∧ t.slc.txDrops = s.slc.txDrops) ∧
    (12 ≤ before.length → body.cls ≠ .background → before.any isBeacon = true →
      after = before.filter (fun x => !isBeacon x) ++ [entry] ∧ t.slc.txDrops = counted) ∧
    (12 ≤ before.length → body.cls = .urgent → before.any isBeacon = false → before.any isNormal = true →
      after = before.eraseP isNormal ++ [entry] ∧ t.slc.txDrops = counted) ∧
    (12 ≤ before.length → before.any isBeacon = false → (body.cls = .urgent → before.any isNormal = false) →
      after = before ∧ t.slc.txDrops = counted) ∧
    (s.sup.start = .run → s.slc.transmitting = none → t.OldestInAccess ∧
      (∀ before e rest, s.slc.queue = before ++ e :: rest → e.access.isSome = true → e.notice.body.kindCode ≠ 7 →
        (∀ x ∈ before, x.cls ≠ e.cls) →
        e.cls = .urgent ∨ e.cls = .normal ∧ body.cls ≠ .urgent ∧ (∀ x ∈ s.slc.queue, x.cls ≠ .urgent) → e ∈ t.slc.queue) ∧
      (body.cls = .urgent → (∀ x ∈ s.slc.queue, x.cls ≠ .urgent) → s.slc.queue.length < 12 →
        t.slc.queue = s.slc.queue.map (fun e => { e with access := none }) ++
          [{ notice := n, cls := .urgent, relayed := false,
             access := some { phase := .sense, exponent := if s.slc.carrier then 3 else 2,
                              busyFinds := if s.slc.carrier then 1 else 0, held := none, idleSlots := 0 } }])) ∧
    (s.sup.start ≠ .run ∨ s.slc.transmitting.isSome = true → ∀ e ∈ t.slc.queue, e ∈ s.slc.queue ∨ e.access = none) ∧
    s.jnl.Marked t.jnl [.counters] ∧
    t = { s with
      slc := { s.slc with
        queue := t.slc.queue, originSerial := (s.slc.originSerial + 1) % 65536, txDrops := t.slc.txDrops,
        slotStart := t.slc.slotStart },
      jnl := t.jnl,
      bu := { s.bu with vanSession := s.bu.vanSession.map fun v =>
        if body.scope = .addressed ∧ v.state = .opened ∧ v.station = dest then { v with idleStart := s.timebase } else v } }

/-- The access of the notice to go next, e. The second idle slot of SENSE begins the countdown, of the count held or of a fresh draw of 0
to 2^k - 1, and each later idle slot lowers it; at 0 the notice leaves the queue and goes on air, its identity entering the seen list when
it is this node's own flood, and a QUIET coming into force. A carrier rise is a busy find: k rises to at most 7, a fresh draw is added to
a count held, and the access is back in SENSE; the eighth drops a BACKGROUND notice with a count and moves any other behind the rest. That
a timer's command moves the timebase to its deadline, and that a notice abandoned goes behind the whole queue where R24 names the tail of
its class, that a draw is a free value of its range, and that the bytes on air stand in the state, are the model's choices, assumption
logs 2, 32, 4 and 44. -/
def Obligations.AccessCountsSlotsAndBusyFinds : Prop :=
  ∀ (s : State) (before rest : List QueueEntry) (e : QueueEntry) (a : Access),
    s.running = true → s.slc.transmitting = none → s.slc.carrier = false → s.slc.queue = before ++ e :: rest →
    e.access = some a → (∀ x ∈ before, x.access = none) →
      let put (c : Slc) (a : Access) : Slc := { c with queue := before ++ { e with access := some a } :: rest }
      let slot : Slc := { s.slc with slotStart := s.slc.slotStart + 10 }
      let now := max s.timebase (s.slc.slotStart + 10)
      let goesOn (count draws : Nat) (t : State) : Prop :=
        (1 ≤ count → t = { s with
          timebase := now, draws := draws,
          slc := put slot { a with phase := .count, held := some count, idleSlots := 0 } }) ∧
        (count = 0 → ∃ n : Notice,
          (e.notice.body.kindCode ≠ 7 → n = e.notice) ∧
          (e.notice.body.kindCode = 7 → n = { e.notice with body := .beacon s.beaconBody }) ∧
          t = { s with
            timebase := now, draws := draws,
            slc := { slot with
              queue := before ++ rest, transmitting := some n, radioOut := n.frame,
              seen := if n.body.scope = .flooded ∧ n.origin = s.node ∧ n.ident ∉ s.slc.seen then
                (if s.slc.seen.length < 64 then s.slc.seen else s.slc.seen.drop 1) ++ [n.ident] else s.slc.seen,
              ownQuiet := if n.body.kindCode = 8 then some now else s.slc.ownQuiet } })
      let rise : Slc := { s.slc with carrier := true, assembly := .receiving none }
      let k := min 7 (a.exponent + 1)
      (a.phase = .sense → a.idleSlots = 0 → exec .slotEnd s =
        .next { s with timebase := now, slc := put slot { a with idleSlots := 1 } }) ∧
      (∀ count, a.phase = .sense → 1 ≤ a.idleSlots → a.held = some count →
        ∃ t, exec .slotEnd s = .next t ∧ goesOn count s.draws t) ∧
      (a.phase = .sense → 1 ≤ a.idleSlots → a.held = none →
        ∃ t count, exec .slotEnd s = .next t ∧ count < 2 ^ a.exponent ∧ goesOn count (s.draws + 1) t) ∧
      (∀ count, a.phase = .count → a.held = some count →
        ∃ t, exec .slotEnd s = .next t ∧ goesOn (count - 1) s.draws t) ∧
      (a.busyFinds < 7 → a.held = none → exec .carrierRise s = .next { s with
        slc := put rise { phase := .sense, exponent := k, busyFinds := a.busyFinds + 1, held := none, idleSlots := 0 } }) ∧
      (∀ count, a.busyFinds < 7 → a.held = some count → ∃ added, added < 2 ^ k ∧ exec .carrierRise s = .next { s with
        slc := put rise { phase := .sense, exponent := k, busyFinds := a.busyFinds + 1, held := some (count + added), idleSlots := 0 },
        draws := s.draws + 1 }) ∧
      (7 ≤ a.busyFinds → ∃ t, exec .carrierRise s = .next t ∧
        t = { s with slc := { rise with queue := t.slc.queue, txDrops := t.slc.txDrops, slotStart := t.slc.slotStart } } ∧
        let row (x : QueueEntry) := (x.notice, x.cls, x.relayed)
        (e.cls = .background →
          t.slc.queue.map row = (before ++ rest).map row ∧ t.slc.txDrops = min 65535 (s.slc.txDrops + 1)) ∧
        (e.cls ≠ .background → t.slc.queue.map row = (before ++ rest ++ [e]).map row ∧ t.slc.txDrops = s.slc.txDrops))

/-- Frames from the air, while the part is awake and not transmitting. The carrier's rise begins one; a body length over 255 ends it as a
LENGTH error; a whole frame joins the receive buffer, or is an OVERRUN error when 4 wait there; and the carrier's fall ends one begun and
not complete as a TRUNCATED error. The oldest frame buffered is checked: a failing one is counted under CHECK or LENGTH, a valid notice is
heard. Every error adds to the new-error sum, and a sum of 16 raises LINK. At the end of a transmission the oldest notice of the highest
class queued comes into access. While the part does not receive, the carrier's level is followed and nothing else: the model's choice,
assumption log 34. -/
def Obligations.FramesAreAssembledAndChecked : Prop :=
  ∀ s : State,
    let sum := min 65535 (s.slc.newErrors + 1)
    let after (c : Slc) : State := { s with slc := c }
    let error (c : Slc) : State := { s with
      slc := { c with newErrors := sum },
      kl := { s.kl with raised := { s.kl.raised with link := s.kl.raised.link || decide (16 ≤ sum) } } }
    (s.listening = true →
      (s.slc.carrier = false → (∀ e ∈ s.slc.queue, e.access = none) →
        exec .carrierRise s = .next (after { s.slc with carrier := true, assembly := .receiving none })) ∧
      (∀ length, s.slc.assembly = .receiving none → length ≤ 255 →
        exec (.bodyLengthArrived length) s = .next (after { s.slc with assembly := .receiving (some length) })) ∧
      (∀ length, s.slc.assembly = .receiving none → 255 < length →
        exec (.bodyLengthArrived length) s =
          .next (error { s.slc with assembly := .ended, errLength := min 65535 (s.slc.errLength + 1) })) ∧
      (∀ frame : List Byte, let length := fieldAt frame 0 2
        length ≤ 255 → frame.length = 14 + length →
        (s.slc.assembly = .receiving none ∨ s.slc.assembly = .receiving (some length)) →
          (s.slc.rxBuffer.length < 4 → exec (.frameCompleted frame) s =
            .next (after { s.slc with assembly := .ended, rxBuffer := s.slc.rxBuffer ++ [frame] })) ∧
          (4 ≤ s.slc.rxBuffer.length → exec (.frameCompleted frame) s =
            .next (error { s.slc with assembly := .ended, errOverrun := min 65535 (s.slc.errOverrun + 1) }))) ∧
      (∀ gotByte, s.slc.carrier = true →
        let fall : Slc := { s.slc with carrier := false, slotStart := s.timebase, assembly := .idle }
        let truncated : Slc := { fall with errTruncated := min 65535 (s.slc.errTruncated + 1) }
        (s.slc.assembly = .receiving none → exec (.carrierFall gotByte) s =
          .next (if gotByte then error truncated else after fall)) ∧
        (∀ length, s.slc.assembly = .receiving (some length) → exec (.carrierFall gotByte) s = .next (error truncated)) ∧
        (s.slc.assembly = .ended ∨ s.slc.assembly = .idle → exec (.carrierFall gotByte) s = .next (after fall)))) ∧
    (s.listening = false →
      (s.slc.carrier = false → exec .carrierRise s = .next (after { s.slc with carrier := true })) ∧
      (∀ gotByte, s.slc.carrier = true → exec (.carrierFall gotByte) s =
        .next (after { s.slc with carrier := false, slotStart := s.timebase }))) ∧
    (∀ frame rest, s.awake = true → s.slc.rxBuffer = frame :: rest →
      (testFrame s.node frame = .badCheck → exec .frameProcessed s =
        .next (error { s.slc with rxBuffer := rest, errCheck := min 65535 (s.slc.errCheck + 1) })) ∧
      (testFrame s.node frame = .badLength → exec .frameProcessed s =
        .next (error { s.slc with rxBuffer := rest, errLength := min 65535 (s.slc.errLength + 1) })) ∧
      (∀ n, testFrame s.node frame = .valid n → exec .frameProcessed s =
        .next (State.hear (after { s.slc with rxBuffer := rest }) n))) ∧
    (s.slc.transmitting.isSome = true → s.inReset = false → ∃ t, exec .transmissionEnd s = .next t ∧
      t = { s with slc := { s.slc with transmitting := none, queue := t.slc.queue, slotStart := t.slc.slotStart } } ∧
      t.slc.queue.map (fun e => (e.notice, e.cls, e.relayed)) = s.slc.queue.map (fun e => (e.notice, e.cls, e.relayed)) ∧
      (s.sup.start = .run → s.slc.queue ≠ [] → t.OldestInAccess))

/-- A valid notice heard. Its sender's neighbour entry is made or refreshed; a new sender that meets a full table takes the place of the
oldest entry where that is more than 60 s old, and is otherwise counted and not entered. Addressed to another node, it does nothing more.
Flooded and heard before, it counts towards the suppression of its relay, the second hearing removing that; flooded by this node itself,
it enters the seen list and no more. Heard for the first time from elsewhere it enters the seen list, and in RUN, with hops left, where
the supply state and the quiet neighbours let its kind pass, a copy with one hop less waits 0 to 2000 ms to be relayed, or is counted as
dropped when 8 wait. An identity that has left the seen list while its relay entry waits is handed on again, and the hearing counts
towards the suppression of that entry and makes no second. NORMAL relays every flooded kind, SAVING only HIRE CLOSE and HIRE SETTLED,
CRITICAL none. A first hearing, a broadcast and a notice addressed to this node are handed to the block that owns their kind. A QUIET sets
its sender's quiet-until and a RESUME removes it; a BEACON gives its sender's entry its fields, and with its quiet flag set a quiet-until
of at least 20 s, and goes on to the clock. That of several oldest neighbours the first in the table gives way, that a first hearing is
handed on before its relay entry is made, and that the relay delay is a free value of its range, are the model's choices, assumption logs
47, 59 and 4. -/
def Obligations.FloodedNoticesAreRelayedOnce : Prop :=
  ∀ (s : State) (n : Notice),
    let heard := s.hearSender n.sender
    let known := n.ident ∈ s.slc.seen
    let waits (e : RelayEntry) : Bool := decide (e.notice.ident = n.ident)
    let hire := n.body.kindCode = 1 ∨ n.body.kindCode = 2
    let passes := (s.sup.supply = .normal ∨ s.sup.supply = .saving ∧ hire) ∧
      ((∀ x ∈ heard.slc.neighbours, x.quietUntil = none) ∨ hire)
    let seen := (if s.slc.seen.length < 64 then s.slc.seen else s.slc.seen.drop 1) ++ [n.ident]
    let tabled (l : List Neighbour) : State := { s with slc := { s.slc with neighbours := l } }
    let fresh : Neighbour :=
      { node := n.sender, role := none, lastHeard := s.now, ageStart := s.timebase, beacon := none, quietUntil := none }
    (∀ before x rest, s.slc.neighbours = before ++ x :: rest → x.node = n.sender → (∀ y ∈ before, y.node ≠ n.sender) →
      heard = tabled (before ++ { x with lastHeard := s.now, ageStart := s.timebase } :: rest)) ∧
    ((∀ x ∈ s.slc.neighbours, x.node ≠ n.sender) →
      (s.slc.neighbours.length < 16 → heard = tabled (s.slc.neighbours ++ [fresh])) ∧
      (∀ before x rest, 16 ≤ s.slc.neighbours.length → s.slc.neighbours = before ++ x :: rest →
        (∀ y ∈ before, x.ageStart < y.ageStart) → (∀ y ∈ rest, x.ageStart ≤ y.ageStart) →
          (60000 < s.timebase - x.ageStart → heard = tabled (before ++ fresh :: rest)) ∧
          (s.timebase - x.ageStart ≤ 60000 →
            heard = { s with slc := { s.slc with neighbourDrops := min 65535 (s.slc.neighbourDrops + 1) } }))) ∧
    (n.body.scope = .addressed → n.dest ≠ s.node → s.hear n = heard) ∧
    (n.body.scope = .broadcast ∨ n.body.scope = .addressed ∧ n.dest = s.node → s.hear n = heard.deliver n) ∧
    (∀ before x rest, heard.slc.neighbours = before ++ x :: rest → x.node = n.sender → (∀ y ∈ before, y.node ≠ n.sender) →
      let with_ (x : Neighbour) : State := { heard with slc := { heard.slc with neighbours := before ++ x :: rest } }
      (∀ seconds, n.body = .quiet seconds → s.hear n = with_ { x with quietUntil := some (s.timebase + seconds * 1000) }) ∧
      (n.body = .resume → s.hear n = with_ { x with quietUntil := none }) ∧
      (∀ b, n.body = .beacon b →
        let until_ : Option Millis := match b.quiet, x.quietUntil with
          | true, none => some (s.timebase + 20000)
          | true, some u => some (max u (s.timebase + 20000))
          | false, old => old
        let part : BeaconPart :=
          { time := b.time, grade := b.grade, supply := b.supply, closed := b.closed, available := b.available,
            quarantined := b.quarantined, working := b.working, need := b.need }
        s.hear n = (with_ { x with role := some b.role, beacon := some part, quietUntil := until_ }).takeBeaconTime n.sender
          b.time b.grade)) ∧
    (n.body.scope = .flooded → known → (∀ e ∈ s.slc.relays, waits e = false) → s.hear n = heard) ∧
    (n.body.scope = .flooded → known → ∀ before e rest, s.slc.relays = before ++ e :: rest → waits e = true →
      (∀ x ∈ before, waits x = false) →
        (e.hearings = 0 → s.hear n = { heard with slc := { heard.slc with
          relays := before ++ { e with hearings := 1 } :: rest } }) ∧
        (1 ≤ e.hearings → (s.hear n).slc.relays = before ++ rest)) ∧
    (n.body.scope = .flooded → ¬ known → n.origin = s.node →
      s.hear n = { heard with slc := { heard.slc with seen := seen } }) ∧
    (n.body.scope = .flooded → ¬ known → n.origin ≠ s.node → ∀ before e rest, s.slc.relays = before ++ e :: rest →
      waits e = true → (∀ x ∈ before, waits x = false) →
        let t := s.hear n
        let owned := State.deliver { heard with slc := { heard.slc with seen := seen } } n
        (e.hearings = 0 → t = { owned with slc := { owned.slc with relays := before ++ { e with hearings := 1 } :: rest } }) ∧
        (1 ≤ e.hearings → t.slc.relays = before ++ rest ∧ t.slc.seen = seen ∧ t.slc.relayDrops = s.slc.relayDrops ∧
          t = { owned with slc := t.slc, jnl := t.jnl })) ∧
    (n.body.scope = .flooded → ¬ known → n.origin ≠ s.node → (∀ e ∈ s.slc.relays, waits e = false) →
      let t := s.hear n
      let owned := State.deliver { heard with slc := { heard.slc with seen := seen } } n
      t.slc.seen = seen ∧ t = { owned with slc := t.slc, jnl := t.jnl, draws := t.draws } ∧
      t.slc.neighbours = owned.slc.neighbours ∧
      (s.slc.relays.length ≠ 5 → t.jnl = owned.jnl ∧ t.slc.queue = owned.slc.queue) ∧
      (s.sup.start = .run ∧ 1 ≤ n.hops ∧ passes → s.slc.relays.length < 8 →
        ∃ delay, delay ≤ 2000 ∧ t.slc.relays = s.slc.relays ++
          [{ notice := { n with hops := n.hops - 1, sender := s.node }, start := s.timebase, delay := delay, hearings := 0 }]) ∧
      (s.sup.start = .run ∧ 1 ≤ n.hops ∧ passes → 8 ≤ s.slc.relays.length →
        t.slc.relays = s.slc.relays ∧ t.slc.relayDrops = min 65535 (s.slc.relayDrops + 1)) ∧
      (¬ (s.sup.start = .run ∧ 1 ≤ n.hops ∧ passes) → t.slc.relays = s.slc.relays ∧ t.slc.relayDrops = s.slc.relayDrops))

/-- The timers of the street link. A relay delay that ends takes its entry out, and the copy joins the transmit queue, URGENT for HIRE
CLOSE and HIRE SETTLED, if the supply state and the quiet neighbours still let its kind pass; a third entry that leaves ends this node's
own QUIET with a RESUME, or withdraws it from the queue. This node's own QUIET lapses after 20 s, a fresh one following when 6 relays
still wait. A neighbour's quiet ends at its moment, and its entry goes 300 s after it was last heard. The beacon timer floods a beacon,
unless a neighbour is quiet, and is set again to the period of the supply state plus 0 to 1000 ms. That a timer's command moves the
timebase to its deadline, that the RESUME or the withdrawal comes before the copy joins the transmit queue, and that the beacon offset is
a free value of its range, are the model's choices, assumption logs 2, 58 and 4. -/
def Obligations.StreetTimersAct : Prop :=
  ∀ s : State,
    (∀ before e rest, s.awake = true → s.slc.relays = before ++ e :: rest →
      (∀ x ∈ before, x.notice.ident ≠ e.notice.ident) →
      let hire := e.notice.body.kindCode = 1 ∨ e.notice.body.kindCode = 2
      let passes := (s.sup.supply = .normal ∨ s.sup.supply = .saving ∧ hire) ∧
        ((∀ x ∈ s.slc.neighbours, x.quietUntil = none) ∨ hire)
      let left : State := { s with
        timebase := max s.timebase (e.start + e.delay), slc := { s.slc with relays := before ++ rest } }
      let out : State :=
        if s.slc.relays.length = 3 ∧ s.slc.ownQuiet.isSome = true then
          State.flood { left with slc := { left.slc with ownQuiet := none } } .resume
        else if s.slc.relays.length = 3 ∧ s.quietQueued = true then left.withdrawQuiet
        else left
      (passes → exec (.relayDelayExpiry e.notice.origin e.notice.serial) s =
        .next (out.enqueue e.notice (if hire then .urgent else .normal) true)) ∧
      (¬ passes → exec (.relayDelayExpiry e.notice.origin e.notice.serial) s = .next out)) ∧
    (∀ since, s.awake = true → s.slc.ownQuiet = some since →
      let lapsed : State := { s with timebase := max s.timebase (since + 20000), slc := { s.slc with ownQuiet := none } }
      exec .ownQuietExpiry s = .next (if 6 ≤ s.slc.relays.length then lapsed.flood (.quiet 20) else lapsed)) ∧
    (∀ before x rest, s.awake = true → s.slc.neighbours = before ++ x :: rest → (∀ y ∈ before, y.node ≠ x.node) →
      (∀ until_, x.quietUntil = some until_ → exec (.neighbourQuietExpiry x.node) s = .next { s with
        timebase := max s.timebase until_,
        slc := { s.slc with neighbours := before ++ { x with quietUntil := none } :: rest } }) ∧
      exec (.neighbourAgeExpiry x.node) s = .next { s with
        timebase := max s.timebase (x.ageStart + 300000), slc := { s.slc with neighbours := before ++ rest } }) ∧
    (∀ deadline, s.running = true → s.slc.beaconTimer = some deadline →
      let now := max s.timebase deadline
      let period := match s.sup.supply with
        | .normal => 15000
        | .saving => 60000
        | .critical => 120000
      ∃ offset, offset ≤ 1000 ∧
        let rearmed (t : State) : State := { t with
          slc := { t.slc with beaconTimer := some (now + period + offset) }, draws := s.draws + 1 }
        ((∀ x ∈ s.slc.neighbours, x.quietUntil = none) → exec .beaconTimerExpiry s =
          .next (rearmed (State.flood { s with timebase := now } (.beacon s.beaconBody)))) ∧
        ((∃ x ∈ s.slc.neighbours, x.quietUntil ≠ none) → exec .beaconTimerExpiry s = .next (rearmed { s with timebase := now })))

/-- The three tests of R27 in their order, both ways. A notice in range from another node survives the air: its frame passes and gives the
notice back, every field of every kind lying where it is read. Of the frames as long as their own body length says, no other passes: the
verdict is that notice only for the frame of a notice in range whose sender is not this node. A check that disagrees with what it covers
is BAD CHECK, whatever else the frame holds; with a sound check an unknown kind, a body length that is not the kind's, a field out of its
range and this node's own number as sender are BAD LENGTH. That each field is held to its own range alone is the model's choice,
assumption log 63. -/
def Obligations.NoticeFramesRoundTrip : Prop :=
  ∀ own : Node,
    let sealed (covered : List Byte) : List Byte := covered ++ checkBytes covered
    (∀ n : Notice, n.inRange = true → n.sender ≠ own → testFrame own n.frame = .valid n) ∧
    (∀ (frame : List Byte) (n : Notice), testFrame own frame = .valid n → n.inRange = true ∧ n.sender ≠ own) ∧
    (∀ (frame : List Byte) (n : Notice), frame.length = 14 + fieldAt frame 0 2 →
      (testFrame own frame = .valid n ↔ n.inRange = true ∧ n.sender ≠ own ∧ frame = n.frame)) ∧
    (∀ covered check : List Byte, check.length = 2 →
      (testFrame own (covered ++ check) = .badCheck ↔ check ≠ checkBytes covered)) ∧
    (∀ covered : List Byte, 20 ≤ fieldAt covered 2 1 → testFrame own (sealed covered) = .badLength) ∧
    (∀ (n : Notice) (length : Nat), n.inRange = true → length < 65536 → length ≠ n.body.bytes.length →
      testFrame own (sealed (u16 length ++ n.bytes.drop 2)) = .badLength) ∧
    (∀ covered : List Byte, (∀ n : Notice, n.inRange = true → covered ≠ n.bytes) → covered.length = 12 + fieldAt covered 0 2 →
      testFrame own (sealed covered) = .badLength) ∧
    (∀ n : Notice, n.inRange = true → n.sender = own → testFrame own n.frame = .badLength)

/-! ### Settlement and journal (Chapter 8) -/

/-- A note enters the settlement queue exactly when the record count is below 64 less the owned hires and the member releases: it takes
the next sequence, the counters slot is marked, and it is ready. Otherwise it is dropped and counted, and nothing else changes. A money
record is always accepted: it goes to the end of the queue, not ready, with the next sequence and the lowest free money slot, which is
marked with the counters slot; a full queue first loses its oldest note, which is counted. That a record which finds all 64 money slots in
use is queued without one is the model's inference, assumption log 42. -/
def Obligations.PostedRecordsJoinTheQueue : Prop :=
  ∀ (s : State) (body : RecordBody),
    (body.isMoney = false →
      let t := s.postNote body
      let limit := 64 - s.hu.owned.length - s.du.memberReleases
      (s.sq.queue.length < limit → ∃ r : SettlementRecord,
        r.fields = { seq := s.sq.seq, time := s.now, body := body } ∧ r.waitStart = s.timebase ∧ r.ready = true ∧
        s.jnl.Marked t.jnl [.counters] ∧
        t = { s with
          sq := { s.sq with queue := s.sq.queue ++ [r], seq := (s.sq.seq + 1) % 65536 },
          jnl := t.jnl,
          kl := { s.kl with raised := { s.kl.raised with settlement := t.kl.raised.settlement } } }) ∧
      (limit ≤ s.sq.queue.length → t = { s with sq := { s.sq with drops := min 65535 (s.sq.drops + 1) } })) ∧
    (∀ ownedSlot, body.isMoney = true →
      let t := s.postMoney body ownedSlot
      let note (r : SettlementRecord) : Bool := !r.isMoney
      let loses := 64 ≤ s.sq.queue.length ∧ s.sq.queue.any note = true
      ∃ r : SettlementRecord,
        r.fields = { seq := s.sq.seq, time := s.now, body := body } ∧ r.waitStart = s.timebase ∧ r.ready = false ∧
        r.ownedSlot = ownedSlot ∧
        (∀ i, r.slot = some i → i < 64 ∧ i ∉ s.sq.slotsInUse ∧ ∀ j < i, j ∈ s.sq.slotsInUse) ∧
        (r.slot = none → ∀ j < 64, j ∈ s.sq.slotsInUse) ∧
        s.jnl.Marked t.jnl (.counters :: r.slot.toList.map .money) ∧
        (loses → t.sq = { s.sq with
          queue := s.sq.queue.eraseP note ++ [r], seq := (s.sq.seq + 1) % 65536, drops := min 65535 (s.sq.drops + 1) }) ∧
        (¬ loses → t.sq = { s.sq with queue := s.sq.queue ++ [r], seq := (s.sq.seq + 1) % 65536 }) ∧
        t = { s with
          sq := t.sq, jnl := t.jnl,
          kl := { s.kl with raised := { s.kl.raised with settlement := t.kl.raised.settlement } } })

/-- TAKE RECORDS answers the oldest takeable records, up to n of them in queue order, with the number of records left and of those
takeable; it removes them, marks the slot of each money record and keeps that slot in use, and the SETTLEMENT cause follows its condition
on what is left. An n outside 1 to 8 is refused. -/
def Obligations.TakeRecordsHandsOverTheOldest : Prop :=
  ∀ (s : State) (n : Nat), s.Takes (.takeRecords n) →
    let taken := (takeable s.sq.queue).take n
    let left := s.sq.queue.drop taken.length
    let due := decide (s.sq.trigger ≤ (takeable left).length) ||
      (takeable left).head?.any fun r => decide (r.waitStart + s.sq.idle * 1000 ≤ s.timebase)
    (1 ≤ n → n ≤ 8 → ∃ t, exec (.takeRecords n) s = .next t ∧ s.sq.queue = taken ++ left ∧
      s.jnl.Marked t.jnl ((taken.filterMap (·.slot)).map .money) ∧
      (∀ r ∈ taken, ∀ i, r.slot = some i → i ∈ t.sq.slotsInUse) ∧
      t = { s with
        sq := { s.sq with
          queue := left, leaving := s.sq.leaving ++ (taken.filterMap (·.slot)).map fun i => { slot := i, begun := false } },
        jnl := t.jnl,
        kl := { s.kl with raised := { s.kl.raised with settlement := due } }.answered .ok
          (u8 taken.length ++ u8 left.length ++ u8 (takeable left).length ++ taken.flatMap fun (r : SettlementRecord) => r.fields.bytes) }) ∧
    (n = 0 ∨ 8 < n → exec (.takeRecords n) s = .next { s with kl := s.kl.answered .badValue [] })

/-- SET SETTLEMENT puts a trigger level of 1, 4, 16 or 32 and an idle timeout clamped to 5 to 300 s in force and answers them, and the
SETTLEMENT cause follows its condition under them; any other trigger level is refused. When the oldest takeable record's wait timer
reaches the idle timeout in RUN, the cause becomes pending. That a timer's command moves the timebase to its deadline, and that the wait
timer's reaching the idle timeout is an event of its own, are the model's choices, assumption logs 2 and 38. -/
def Obligations.SettlementCauseFollowsItsCondition : Prop :=
  ∀ s : State,
    let ready := takeable s.sq.queue
    (∀ trigger timeout, s.Takes (.setSettlement trigger timeout) →
      let idle := max 5 (min 300 timeout)
      let due := decide (trigger ≤ ready.length) || ready.head?.any fun r => decide (r.waitStart + idle * 1000 ≤ s.timebase)
      (trigger ∈ [1, 4, 16, 32] → exec (.setSettlement trigger timeout) s = .next { s with
        sq := { s.sq with trigger := trigger, idle := idle },
        kl := { s.kl with raised := { s.kl.raised with settlement := due } }.answered .ok (u8 trigger ++ u16 idle) }) ∧
      (trigger ∉ [1, 4, 16, 32] →
        exec (.setSettlement trigger timeout) s = .next { s with kl := s.kl.answered .badValue [] })) ∧
    (∀ r, s.running = true → ready.head? = some r → exec .settlementIdleTimeout s = .next { s with
      timebase := max s.timebase (r.waitStart + s.sq.idle * 1000),
      kl := { s.kl with raised := { s.kl.raised with settlement := true } } })

/-- A journal write begins with the slot at the head of the write list, whose content it takes as it stands; the slot leaves the list,
and the settlement queue notes the removals the write will carry: the ended hires of an owned slot, the records taken from a money slot.
Its end with an agreeing read-back puts that content, and no other slot's, in the store and reports it: an owned record that still holds
it, and was not marked since, becomes durable; a money record's write of its slot counts towards its ready flag, and so does a write of
its ended hire's slot that began after the hire's removal; and the money slot of a record taken is free once a write carries the removal.
The write of any other slot reports nothing. A first disagreeing read-back writes the slot again, with its content as it stands, as part
of the write begun before: a slot marked since the first attempt counts as changed, and no removal joins it. After a second the store is
DEGRADED and the write reports as a completed one does. What the store holds after a second is a free value of the model, assumption
log 5, and that the retry belongs to the first attempt is the model's choice, assumption log 25. -/
def Obligations.JournalWritesTheHeadOfTheList : Prop :=
  ∀ (s : State),
    (∀ slot rest, s.awake = true → s.storeFree = true → s.jnl.optionWork.waits = false → s.jnl.writeList = slot :: rest →
      exec .journalWriteStart s = .next { s with
        sq := { s.sq with
          queue := s.sq.queue.map fun r => if r.isMoney = true ∧ slot = .owned r.ownedSlot then { r with ownedBegun := true } else r,
          leaving := s.sq.leaving.map fun l => if slot = .money l.slot then { l with begun := true } else l },
        jnl := { s.jnl with
          writeList := rest,
          wip := some { slot := slot, content := s.slotContent slot, again := false, touched := false } } }) ∧
    (∀ w, s.inReset = false → s.jnl.wip = some w →
      let reported (t : State) : Prop :=
        (∀ i f, w.slot = .owned i → w.content = .owned (some f) → w.touched = false →
          t.hu = { s.hu with owned := s.hu.owned.map fun o =>
            if o.slot = i ∧ o.fields = f then { o with durable := true } else o }) ∧
        (w.touched = true ∨ (∀ i f, ¬ (w.slot = .owned i ∧ w.content = .owned (some f))) → t.hu = s.hu) ∧
        (∀ i, w.slot = .owned i → t.sq = { s.sq with queue := s.sq.queue.map fun r =>
          if r.isMoney = true ∧ r.ownedSlot = i ∧ r.ownedBegun = true then { r with ownedDone := true } else r }) ∧
        (∀ i, w.slot = .money i → t.sq = { s.sq with
          queue := s.sq.queue.map fun r =>
            if r.slot = some i ∧ w.content = .money (some r.fields) then { r with slotDone := true } else r,
          leaving := s.sq.leaving.filter fun l => !(decide (l.slot = i) && l.begun) }) ∧
        ((∀ i, w.slot ≠ .owned i ∧ w.slot ≠ .money i) → t.sq = s.sq) ∧
        (s.sup.start = .run → t.kl.raised.settlement = t.settlementDue) ∧
        (s.sup.start ≠ .run → t.kl.raised.settlement = s.kl.raised.settlement)
      (∃ t, exec (.journalWriteEnd true) s = .next t ∧ reported t ∧
        t.jnl = { s.jnl with wip := none, store := t.jnl.store } ∧
        (s.jnl.store.wf = true → t.jnl.store.read w.slot.index = some w.content ∧
          ∀ i, i ≠ w.slot.index → t.jnl.store.read i = s.jnl.store.read i) ∧
        t = { s with
          hu := t.hu, sq := t.sq, jnl := t.jnl,
          kl := { s.kl with raised := { s.kl.raised with settlement := t.kl.raised.settlement } } }) ∧
      (w.again = false → exec (.journalWriteEnd false) s = .next { s with
        jnl := { s.jnl with
          wip := some { slot := w.slot, content := s.slotContent w.slot, again := true, touched := w.touched } } }) ∧
      (w.again = true → s.jnl.store.wf = true → ∃ t, exec (.journalWriteEnd false) s = .next t ∧ reported t ∧
        t = { s with
          hu := t.hu, sq := t.sq,
          jnl := { s.jnl with wip := none, degraded := true, store := t.jnl.store },
          kl := { s.kl with raised := { s.kl.raised with journal := true, settlement := t.kl.raised.settlement } },
          draws := s.draws + 1 } ∧
        (∀ i, i ≠ w.slot.index → t.jnl.store.read i = s.jnl.store.read i) ∧
        (t.jnl.store.read w.slot.index = s.jnl.store.read w.slot.index ∨ t.jnl.store.read w.slot.index = some w.content ∨
          t.jnl.store.read w.slot.index = some .invalid)))

/-! ### The option block (Chapter 10) -/

/-- READ OPTIONS and WRITE OPTIONS wait for the store and are answered when it is read or written: the read with the running image, the
stored block and its condition, the write with whether its read-back agreed. A block is stored as given with its check, a disagreeing
read-back is written once more, and a second one degrades the store. The running image is never changed. What the store holds after a
second disagreeing read-back is a free value of the model, assumption log 5, and the code of the stored block's condition and the start
states in which the store is free for it are its inferences, assumption logs 64 and 33. -/
def Obligations.OptionRequestsWaitForTheStore : Prop :=
  ∀ (s : State) (block : List Byte), s.inReset = false →
    (s.Takes .readOptions → s.jnl.optionWork = .none →
      exec .readOptions s = .next { s with jnl := { s.jnl with optionWork := .readWaiting } }) ∧
    (s.Takes (.writeOptions block) → s.jnl.optionWork = .none →
      exec (.writeOptions block) s = .next { s with jnl := { s.jnl with optionWork := .writeWaiting block } }) ∧
    (s.storeFree = true → s.jnl.optionWork = .readWaiting →
      exec .optionAreaRead s = .next { s with
        jnl := { s.jnl with optionWork := .none },
        kl := s.kl.answered .ok (s.sup.image.bytes ++ s.jnl.optionArea.take 16 ++
          u8 (codeIn blockConditions (judgeArea s.jnl.optionArea)) ++ flagByte s.sup.adjusted ++
          u16 s.sup.adjustedFields.toNat) }) ∧
    (s.storeFree = true → s.jnl.optionWork = .writeWaiting block →
      exec .optionWriteStart s = .next { s with jnl := { s.jnl with optionWork := .writing block false } }) ∧
    (∀ again, s.jnl.optionWork = .writing block again →
      exec (.optionWriteEnd true) s = .next { s with
        jnl := { s.jnl with optionWork := .none, optionArea := block ++ checkBytes block }, kl := s.kl.answered .ok [1] }) ∧
    (s.jnl.optionWork = .writing block false →
      exec (.optionWriteEnd false) s = .next { s with jnl := { s.jnl with optionWork := .writing block true } }) ∧
    (s.jnl.optionWork = .writing block true → ∃ area, area.length = 18 ∧
      exec (.optionWriteEnd false) s = .next { s with
        jnl := { s.jnl with optionWork := .none, optionArea := area, degraded := true },
        kl := { s.kl with raised := { s.kl.raised with journal := true } }.answered .ok [0],
        draws := s.draws + 1 })

/-- The image formed from the option area (R176). The block written from an image in range gives that image, and no field is adjusted: the
fields of R189 lie where they are read. A BLANK area, a check that disagrees and a reserved byte other than 0 give the defaults with the
options-adjusted flag set and no field in the set. From a block with its check and a reserved byte of 0 every field is taken as stored,
or clamped to its nearest limit when it is out of its range, the target fill against the dock count as formed; each field so clamped is in
the set, in table order from the least significant bit, and the flag is set when any is. -/
def Obligations.OptionBlocksKeepTheImage : Prop :=
  (∀ i : Image, i.node ≤ 4095 → 1 ≤ i.dockCount → i.dockCount ≤ 24 → i.targetFill ≤ i.dockCount → i.channel ≤ 15 →
    1 ≤ i.hopLimit → i.hopLimit ≤ 4 → 60 ≤ i.maxHire → i.maxHire ≤ 2880 → -200 ≤ i.trimA → i.trimA ≤ 200 → i.trimK ≤ 63 →
    i.trimT0 ≤ 50 →
      formImage (storedBlock i.bytes) = (i, false, 0)) ∧
  formImage (List.replicate 18 0xFF) = (Image.default, true, 0) ∧
  (∀ block check : List Byte, block.length = 16 → check.length = 2 → check ≠ checkBytes block ∨ fieldAt block 15 1 ≠ 0 →
    formImage (block ++ check) = (Image.default, true, 0)) ∧
  (∀ block : List Byte, block.length = 16 → fieldAt block 15 1 = 0 →
    let stored (off len : Nat) : Nat := fieldAt block off len
    let trimA : Int := if stored 11 2 < 32768 then stored 11 2 else (stored 11 2 : Int) - 65536
    let dockCount := max 1 (min 24 (stored 3 1))
    ∃ (i : Image) (adjusted : Bool) (fields : BitVec 16), formImage (storedBlock block) = (i, adjusted, fields) ∧
      i.node = min 4095 (stored 0 2) ∧ i.role = (if stored 2 1 = 0 then .station else .van) ∧
      i.dockCount = dockCount ∧ i.targetFill = min dockCount (stored 4 1) ∧ i.channel = min 15 (stored 5 1) ∧
      i.hopLimit = max 1 (min 4 (stored 6 1)) ∧ i.maxHire = max 60 (min 2880 (stored 7 2)) ∧
      codeIn savingThresholds i.saving = min 3 (stored 9 1) ∧ codeIn criticalThresholds i.critical = min 2 (stored 10 1) ∧
      i.trimA = max (-200) (min 200 trimA) ∧ i.trimK = min 63 (stored 13 1) ∧ i.trimT0 = min 50 (stored 14 1) ∧
      let outside : List Bool :=
        [decide (4095 < stored 0 2), decide (1 < stored 2 1), decide (stored 3 1 < 1 ∨ 24 < stored 3 1),
         decide (dockCount < stored 4 1), decide (15 < stored 5 1), decide (stored 6 1 < 1 ∨ 4 < stored 6 1),
         decide (stored 7 2 < 60 ∨ 2880 < stored 7 2), decide (3 < stored 9 1), decide (2 < stored 10 1),
         decide (trimA < -200 ∨ 200 < trimA), decide (63 < stored 13 1), decide (50 < stored 14 1)]
      (∀ k < 16, fields.getLsbD k = outside.getD k false) ∧ (adjusted = true ↔ ∃ k, outside.getD k false = true))

/-! ### Supply and start-up (Chapter 10) -/

/-- A brown-out holds the part in a POWER reset from that moment, and the reset input holds it in a LINE reset. Either cuts off the
journal or option write in progress, the frame in flight and the poll on the dock bus, and leaves the store and everything else as it was
until the start. Each of the four ways a start begins leaves a started part: the end of a POWER hold, 100 ms after the supply has risen,
the release of the reset input, the fetch that delivers the whole RESTART answer, and the second that RESTART waits for it. The cause is
POWER when the brown-out detector has acted since the last start. A dip during a hold begins it anew. A hold that ends while the other
still stands only gives way to it. That a timer's command moves the timebase to its deadline, that the carrier's level is kept over a
start, that a hold gives way to the other, that volatile state stays as it was while the part is held, and that POWER_HOLD_END says how
long the supply stayed below, are the model's choices, assumption logs 2, 34, 35, 36 and 55; and so are the fields of a window never
loaded, the output bytes cleared, no channel before LISTEN and the last-heard time 0, among what a start leaves, assumption logs 7, 44, 49
and 50. -/
def Obligations.ResetsHoldAndStartsClear : Prop :=
  ∀ (s : State) (hold : HoldEnd) (sense : Sense),
    let cut (p : Sup) : State := { s with
      jnl := { s.jnl with wip := none, optionWork := .none }, slc := { s.slc with transmitting := none, assembly := .idle },
      du := { s.du with polled := none }, sup := p }
    exec .brownOut s = .next (cut { s.sup with powerHold := some s.timebase, brownOut := true }) ∧
    exec .resetAssert s = .next (cut { s.sup with lineHold := true }) ∧
    let kind (k : ResetCause) : ResetCause := if s.sup.brownOut then .power else k
    let powered (s : State) : State := { s with clk := { s.clk with dom := { s.clk.dom with powered := true } } }
    (∀ fall, s.sup.powerHold = some fall → s.sup.lineHold = false → ∃ t, exec (.powerHoldEnd hold) s = .next t ∧
      State.StartedFrom (powered { s with timebase := max s.timebase (fall + hold.below + 100) }) .power hold.sense t) ∧
    (∀ fall, s.sup.powerHold = some fall → s.sup.lineHold = true →
      exec (.powerHoldEnd hold) s = .next (powered { s with
        timebase := max s.timebase (fall + hold.below + 100), sup := { s.sup with powerHold := none } })) ∧
    (s.sup.lineHold = true → s.sup.powerHold = none → ∃ t, exec (.resetRelease sense) s = .next t ∧
      s.StartedFrom (kind .line) sense t) ∧
    (s.sup.lineHold = true → s.sup.powerHold ≠ none →
      exec (.resetRelease sense) s = .next { s with sup := { s.sup with lineHold := false } }) ∧
    (∀ (clocked : List Byte) a, s.inReset = false → s.kl.link = .restarting → s.kl.held = some a →
      a.frame.length ≤ clocked.length →
        ∃ t, exec (.fetchTransfer (0xC2 :: clocked) sense) s = .next t ∧ s.StartedFrom (kind .restart) sense t ∧
          t.kl.shiftedOut = 0xFF :: (a.frame ++ List.replicate (clocked.length - a.frame.length) 0xFF)) ∧
    (s.inReset = false → s.kl.link = .restarting → ∃ t, exec (.restartAnswerTimeout sense) s = .next t ∧
      State.StartedFrom { s with timebase := max s.timebase (s.kl.restartStart + 1000) } (kind .restart) sense t)

/-- The state the model gives after reset is what the POWER start of a blank part leaves, when its backup domain has lost its mark and the
first reading is 12.00 V at 0 degrees: the reading and the sample are the model's choice, assumption log 8. So are the carrier kept over
the start (log 34), the timebase moved to 100 ms after the rise (logs 2 and 55), and the fields of the state after reset that no rule
gives (logs 7, 49 and 50). -/
def Obligations.ResetIsThePowerStartOfABlankPart : Prop :=
  ∀ s : State, s.sup.powerHold = some 0 → s.sup.lineHold = false → s.clk.dom.valid = false → s.jnl.store = [] →
    s.jnl.optionArea = List.replicate 18 0xFF →
      exec (.powerHoldEnd { below := 0, sense := { battery := 1200, temperature := 0 } }) s = .next { State.reset with
        slc := { State.reset.slc with carrier := s.slc.carrier },
        sup := { State.reset.sup with readingAt := max s.timebase 100 },
        timebase := max s.timebase 100, draws := s.draws, pending := s.pending }

/-- REPLAY ends in LISTEN: the counters go on from the stored ones plus 64, the hold serial as stored; every stored tariff entry takes its
place in a station; the radio channel is set, every dock is OFFLINE and unheard, the windows are evaluated, and the listen timer starts.
Under supply state CRITICAL the SUPPLY fault held back to this moment is reported on the station with severity 1: it merges into the live
entry of that kind, or makes one under the fault serial gone on. The store is not written. An invalid slot among those read, in a van any
but those of the owned hires, leaves the store DEGRADED and raises JOURNAL. That a station's claim serial too goes on by 64 is the model's
inference, assumption log 27, and the last-heard time 0 of a post not yet heard its choice, assumption log 50. -/
def Obligations.ReplayRebuildsAndListens : Prop :=
  ∀ s : State, s.inReset = false → s.sup.start = .replay → s.storeFree = true →
    let stored := s.jnl.store.counters
    ∃ t, exec .replayComplete s = .next t ∧
      t.sup = { s.sup with start := .listen, listenStart := s.timebase } ∧
      t.slc = { s.slc with originSerial := (stored.origin + 64) % 65536, channel := some s.sup.image.channel } ∧
      t.hu = { s.hu with
        hireSerial := (stored.hire + 64) % 65536, holdSerial := stored.hold, holds := t.hu.holds, owned := t.hu.owned } ∧
      (let serial := (stored.fault + 64) % 65536
       let same (e : FaultEntry) : Prop := e.subject = .station ∧ e.kind = .supply ∧ e.state ≠ .cleared
       (s.sup.supply ≠ .critical → t.flt = { s.flt with serial := serial }) ∧
       (∀ before e rest, s.sup.supply = .critical → s.flt.log = before ++ e :: rest → same e → (∀ x ∈ before, ¬ same x) →
         t.flt = { s.flt with
           serial := serial,
           log := before ++ { e with count := min 15 (e.count + 1), last := s.now, severity := max e.severity 1 } :: rest }) ∧
       (s.sup.supply = .critical → (∀ e ∈ s.flt.log, ¬ same e) → s.flt.log.length < 32 → t.flt = { s.flt with
         serial := (serial + 1) % 65536,
         log := s.flt.log ++
           [{ id := { node := s.node, serial := serial }, subject := .station, kind := .supply, severity := 1, count := 1,
              cards := [], first := s.now, last := s.now, state := .opened }] })) ∧
      t.bu = { s.bu with claimSerial := (stored.claim + 64) % 256 } ∧
      t.sq = { s.sq with seq := (stored.record + 64) % 65536, queue := t.sq.queue } ∧
      (∀ i : Fin 4, t.fu.bands[i] = ((s.jnl.store.read i).bind SlotContent.asBand).getD s.fu.bands[i]) ∧
      (∀ i : Fin 4, t.fu.classes[i] = ((s.jnl.store.read (4 + i)).bind SlotContent.asClass).getD s.fu.classes[i]) ∧
      (∀ i : Fin 8, t.clk.windows[i] =
        if s.isVan then s.clk.windows[i] else ((s.jnl.store.read (8 + i)).bind SlotContent.asWindow).getD s.clk.windows[i]) ∧
      t.clk = Clk.evaluated { s.clk with windows := t.clk.windows } ∧
      t.du = { s.du with docks := Vector.replicate 24 (Dock.initial s.timebase), pollNext := 1 } ∧
      t.jnl.store = s.jnl.store ∧ t.jnl.optionArea = s.jnl.optionArea ∧ Slot.counters ∈ t.jnl.writeList ∧
      (let damaged := ∃ p ∈ s.jnl.store, p.2 = .invalid ∧ (s.isVan = true → p.1 < 272 ∨ 320 ≤ p.1)
       (damaged → t.jnl.degraded = true ∧ t.kl = { s.kl with raised := { s.kl.raised with journal := true } }) ∧
       (¬ damaged → t.jnl.degraded = s.jnl.degraded ∧ t.kl = s.kl)) ∧
      t.timebase = s.timebase ∧ t.draws = s.draws ∧ t.pending = s.pending

/-- The listen timer's 30 s end in RUN: the beacon timer is set to a random 0 to 1000 ms, the oldest notice of the highest class queued
comes into access, and the SETTLEMENT cause is evaluated for the first time. That a timer's command moves the timebase to its deadline is
the model's choice, assumption log 2. -/
def Obligations.ListenEndsInRun : Prop :=
  ∀ s : State, s.inReset = false → s.sup.start = .listen → s.slc.transmitting = none →
    ∃ t delay, exec .listenTimerExpiry s = .next t ∧ delay ≤ 1000 ∧
      t.timebase = max s.timebase (s.sup.listenStart + 30000) ∧
      t.sup = { s.sup with start := .run } ∧
      t.slc = { s.slc with
        beaconTimer := some (t.timebase + delay), queue := t.slc.queue, slotStart := t.slc.slotStart } ∧
      t.slc.queue.map (fun e => (e.notice, e.cls, e.relayed)) = s.slc.queue.map (fun e => (e.notice, e.cls, e.relayed)) ∧
      (s.slc.queue ≠ [] → t.OldestInAccess) ∧
      (t.kl.raised.settlement = true ↔ t.settlementDue = true) ∧
      t = { s with
        slc := t.slc, sup := t.sup, timebase := t.timebase, draws := s.draws + 1,
        kl := { s.kl with raised := { s.kl.raised with settlement := t.kl.raised.settlement } } }

/-- A battery reading, one second after the last, is clamped to 20.00 V and becomes the battery reading; a count that meets its condition
rises and one that does not restarts at 0. The tenth in a row moves the supply state by one step, restarts both counts and raises SUPPLY;
a reading that moves nothing changes nothing else. At a change every relay entry, and every relayed copy in the transmit queue, of a kind
the new state does not permit is removed and counted as a relay drop, the fall of the relay queue ends this node's own QUIET, in RUN the
beacon timer starts again with 0 to 1000 ms, and an entry to CRITICAL in LISTEN or RUN reports a SUPPLY fault of severity 1. That a
timer's command moves the timebase to its deadline, and that the copies leave before a RESUME joins, are the model's choices, assumption
logs 2 and 48. -/
def Obligations.BatteryReadingsFilterTheSupplyState : Prop :=
  ∀ (s : State) (input : Nat), s.inReset = false →
    let reading := min 2000 input
    let p := s.sup
    let meetsDown : Bool := match p.supply with
      | .normal => decide (reading < p.image.saving.level)
      | .saving => decide (reading < p.image.critical.level)
      | .critical => false
    let meetsUp : Bool := match p.supply with
      | .normal => false
      | .saving => decide (p.image.saving.level + 30 < reading)
      | .critical => decide (p.image.critical.level + 30 < reading)
    let down := if meetsDown then p.down + 1 else 0
    let up := if meetsUp then p.up + 1 else 0
    let now := max s.timebase (p.readingAt + 1000)
    let changes (supply : SupplyState) : Prop :=
      let permitted (n : Notice) : Bool :=
        decide (supply = .normal) || decide (supply = .saving) && (decide (n.body.kindCode = 1) || decide (n.body.kindCode = 2))
      let kept := s.slc.relays.filter fun e => permitted e.notice
      let queue := s.slc.queue.filter fun e => !e.relayed || permitted e.notice
      let removed := s.slc.relays.length - kept.length + (s.slc.queue.length - queue.length)
      let left : State := { s with
        timebase := now,
        sup := { p with battery := reading, readingAt := now, down := 0, up := 0, supply := supply },
        kl := { s.kl with raised := { s.kl.raised with supply := true } },
        slc := { s.slc with queue := queue, relays := kept, relayDrops := min 65535 (s.slc.relayDrops + removed) } }
      let falls := 3 ≤ s.slc.relays.length ∧ kept.length ≤ 2
      let out : State :=
        if falls ∧ s.slc.ownQuiet.isSome = true then State.flood { left with slc := { left.slc with ownQuiet := none } } .resume
        else if falls ∧ left.quietQueued = true then left.withdrawQuiet
        else left
      let row (e : QueueEntry) := (e.notice, e.cls, e.relayed)
      ∃ t, exec (.batteryReading input) s = .next t ∧
        t = { out with slc := t.slc, flt := t.flt, jnl := t.jnl, draws := t.draws } ∧
        t.slc = { out.slc with queue := t.slc.queue, slotStart := t.slc.slotStart, beaconTimer := t.slc.beaconTimer } ∧
        t.slc.queue.map row = out.slc.queue.map row ∧
        (p.start = .run → ∃ delay, delay ≤ 1000 ∧ t.slc.beaconTimer = some (now + delay)) ∧
        (p.start ≠ .run → t.slc.beaconTimer = s.slc.beaconTimer) ∧
        (supply = .critical → p.start = .listen ∨ p.start = .run → s.flt.log.length < 32 →
          ∃ e ∈ t.flt.log, e.subject = .station ∧ e.kind = .supply ∧ e.state ≠ .cleared ∧ 1 ≤ e.severity ∧ e.last = s.now) ∧
        (supply ≠ .critical ∨ p.start = .options ∨ p.start = .replay → t.flt = s.flt ∧ t.jnl = out.jnl)
    (10 ≤ down → p.supply ≠ .critical → changes (if p.supply = .normal then .saving else .critical)) ∧
    (down < 10 → 10 ≤ up → p.supply ≠ .normal → changes (if p.supply = .critical then .saving else .normal)) ∧
    (down < 10 → up < 10 → exec (.batteryReading input) s = .next { s with
      timebase := now, sup := { p with battery := reading, readingAt := now, down := down, up := up } })

/-- REPLAY rebuilds the lists from the valid slots alone, and from all of them: every hold, money record and owned hire afterwards stands
in its slot of the store. The hold list has one entry for each pair of card and reason that the store holds, by placed time and then by
slot. The settlement queue has every valid money record once, ready, the one whose sequence lies furthest behind the stored counter
first. In a station the owned hires are the stored ones, by start time and then by serial, but for those whose identity a money record
carries and those whose bike a stored hire with a later start holds, which are marked; and a start that lost the station time restarts
every hire's time and marks it STEPPED. In a van the owned hires region is not read. That of several slots with one pair the one with the
latest placed time gives the hold, the others being marked, is the model's choice, assumption log 53, and so are that of two hires with
one bike and one S the one with the lower serial goes, and that the test looks at dropped records too, assumption log 23. -/
def Obligations.ReplayRestoresOnlyWhatTheStoreHolds : Prop :=
  ∀ s : State, s.inReset = false → s.sup.start = .replay → s.storeFree = true →
    let store := s.jnl.store
    let counter := store.counters.record
    let behind (r : SettlementRecord) : Nat := (counter + 65536 - r.fields.seq) % 65536
    let hire (i : Nat) (f : OwnedFields) : Prop := store.read (272 + i) = some (.owned (some f))
    let earlier (f g : OwnedFields) : Prop := f.start < g.start ∨ f.start = g.start ∧ f.serial < g.serial
    ∃ t, exec .replayComplete s = .next t ∧
      (∀ h ∈ t.hu.holds, h.slot < 256 ∧
        store.read (16 + h.slot) = some (.hold (some { card := h.card, reason := h.reason, id := h.id, placed := h.placed }))) ∧
      (t.hu.holds.map fun h => (h.card, h.reason)).Nodup ∧
      (t.hu.holds.Pairwise fun a b => a.placed < b.placed ∨ a.placed = b.placed ∧ a.slot < b.slot) ∧
      (∀ i < 256, ∀ f, store.read (16 + i) = some (.hold (some f)) →
        ∃ h ∈ t.hu.holds, h.card = f.card ∧ h.reason = f.reason ∧ f.placed ≤ h.placed ∧
          (h.slot = i ∨ Slot.hold i ∈ t.jnl.writeList)) ∧
      (∀ r ∈ t.sq.queue, r.ready = true ∧ r.waitStart = s.timebase ∧
        ∃ i < 64, r.slot = some i ∧ store.read (320 + i) = some (.money (some r.fields))) ∧
      (∀ i < 64, ∀ f, store.read (320 + i) = some (.money (some f)) → ∃ r ∈ t.sq.queue, r.slot = some i ∧ r.fields = f) ∧
      (t.sq.queue.map (·.slot)).Nodup ∧ (t.sq.queue.Pairwise fun a b => behind b ≤ behind a) ∧
      (s.isVan = true → t.hu.owned = s.hu.owned ∧
        ∀ i, Slot.owned i ∈ t.jnl.writeList → Slot.owned i ∈ s.jnl.writeList) ∧
      (s.isVan = false →
        let billed (f : OwnedFields) : Prop :=
          ∃ r ∈ t.sq.queue, r.fields.body.moneyHire = some { node := s.node, serial := f.serial }
        (∀ o ∈ t.hu.owned, o.slot < 48 ∧ ∃ f, hire o.slot f ∧ ¬ billed f ∧
          (s.clk.dom.clockLost = false → o.fields = f ∧ o.durable = true) ∧
          (s.clk.dom.clockLost = true → o.fields = { f with start := s.now, stepped := true } ∧ o.durable = false ∧
            Slot.owned o.slot ∈ t.jnl.writeList)) ∧
        (t.hu.owned.map fun o => o.fields.bike).Nodup ∧
        (t.hu.owned.Pairwise fun a b => ∀ f g, hire a.slot f → hire b.slot g →
          f.start < g.start ∨ f.start = g.start ∧ f.serial ≤ g.serial) ∧
        (∀ i < 48, ∀ f, hire i f →
          (¬ billed f → (∀ j < 48, ∀ g, j ≠ i → hire j g → g.bike = f.bike → earlier g f) → ∃ o ∈ t.hu.owned, o.slot = i) ∧
          (billed f ∨ (∃ j < 48, ∃ g, hire j g ∧ g.bike = f.bike ∧ earlier f g) →
            (∀ o ∈ t.hu.owned, o.slot ≠ i) ∧ Slot.owned i ∈ t.jnl.writeList)))

/-! ### Tariffs and fares (Chapter 5) -/

/-- LOAD BAND, LOAD CLASS and LOAD WINDOW replace the whole entry they name, mark its slot and answer OK, a window being evaluated at
once; an index or a field out of range is refused and changes nothing. A window entry is accepted exactly when its fields lie in their
ranges, kind BAND has a band and a weekday set given is not empty; a band given with kind CLOSED is stored as absent, and a field that is
not present as absent. -/
def Obligations.LoadRequestsReplaceTheirEntry : Prop :=
  ∀ (s : State),
    (∀ band terms, s.Takes (.loadBand band terms) →
      (∀ h : band < 4, BandTerms.inRange terms = true → ∃ j, s.jnl.Marked j [.band band] ∧
        exec (.loadBand band terms) s = .next { s with
          fu := { s.fu with bands := s.fu.bands.set band terms }, jnl := j, kl := s.kl.answered .ok [] }) ∧
      (4 ≤ band ∨ BandTerms.inRange terms = false →
        exec (.loadBand band terms) s = .next { s with kl := s.kl.answered .badValue [] })) ∧
    (∀ cls fields, s.Takes (.loadClass cls fields) →
      (∀ (h : cls < 4) (waived : Bool), fields.percent ≤ 100 → fields.dayCap ≤ 50000 → 1 ≤ fields.hireLimit →
        fields.hireLimit ≤ 4 → fields.waived = waived.toNat → ∃ j, s.jnl.Marked j [.cls cls] ∧
          exec (.loadClass cls fields) s = .next { s with
            fu := { s.fu with classes := s.fu.classes.set cls { percent := fields.percent, dayCap := fields.dayCap,
                                                                hireLimit := fields.hireLimit, waived := waived } },
            jnl := j, kl := s.kl.answered .ok [] }) ∧
      (4 ≤ cls ∨ 100 < fields.percent ∨ 50000 < fields.dayCap ∨ fields.hireLimit = 0 ∨ 4 < fields.hireLimit ∨ 1 < fields.waived →
        exec (.loadClass cls fields) s = .next { s with kl := s.kl.answered .badValue [] })) ∧
    (∀ index fields, s.Takes (.loadWindow index fields) →
      (∀ (h : index < 8) w, windowOf fields = some w → ∃ j, s.jnl.Marked j [.window index] ∧
        exec (.loadWindow index fields) s = .next { s with
          clk := Clk.evaluated { s.clk with windows := s.clk.windows.set index w }, jnl := j, kl := s.kl.answered .ok [] }) ∧
      (8 ≤ index ∨ windowOf fields = none →
        exec (.loadWindow index fields) s = .next { s with kl := s.kl.answered .badValue [] })) ∧
    (∀ f : WindowFields,
      let bit (n : Nat) : Bool := f.presence.testBit n
      (windowOf f ≠ none ↔
        f.presence < 32 ∧ (bit 1 = false → bit 2 = true ∧ f.band ≤ 3) ∧ (bit 3 = true → 1 ≤ f.weekdays ∧ f.weekdays ≤ 127) ∧
        (bit 4 = true → 1 ≤ f.firstMonth ∧ f.firstMonth ≤ 12 ∧ 1 ≤ f.lastMonth ∧ f.lastMonth ≤ 12) ∧
        f.startMinute ≤ 1439 ∧ f.endMinute ≤ 1439) ∧
      (∀ w, windowOf f = some w →
        w.enabled = bit 0 ∧ w.closes = bit 1 ∧ w.band = (if bit 1 then none else some f.band) ∧
        (∀ n < 7, ∀ days, w.weekdays = some days → days.getLsbD n = f.weekdays.testBit n) ∧ (w.weekdays = none ↔ bit 3 = false) ∧
        w.months = (if bit 4 then some (f.firstMonth, f.lastMonth) else none) ∧
        w.startMinute = f.startMinute ∧ w.endMinute = f.endMinute))

/-- The fare, stage by stage. Stages 1 to 3: the raw duration E minus S is taken as 0 with SKEW below 0, and as Z × 60 with CLAMPED above
that; the started minutes M are the duration's minutes rounded up, never more than Z; and a ride of at most G minutes that ends at its own
station and is no late close is a false start of amount 0 that leaves the day spend table as it was and carries no flag of Stages 6
to 8, but those of Stage 9. Times in range differ by less than 3,155,760,000 s. Stages 4 to 9 for a ride that is no false start: the usage
charge, the class's share, the ride cap, the day cap and the late surcharge give the amount and its flags, every rounding as stated; and
the amount is never more than the ride cap plus the surcharge. CLOCK_UNSURE and STEPPED are set for every ride as Stage 9 says. -/
def Obligations.FareStagesGiveTheAmount : Prop :=
  ∀ q : FareQuestion,
    (let raw : Int := (q.endTime : Int) - (q.start : Int)
     let limit : Nat := q.maxHire * 60
     let fare := priceHire q
     let f := fare.flags
     let m := fare.minutes
     let falseStart := m ≤ q.terms.grace ∧ q.endsHere = true ∧ q.late = false
     (q.endTime ≤ lastTime → q.start ≤ lastTime → -3155759999 ≤ raw ∧ raw ≤ 3155759999) ∧
     (raw < 0 → q.duration = 0 ∧ f.skew = true ∧ f.clamped = false) ∧
     (0 ≤ raw → raw ≤ limit → (q.duration : Int) = raw ∧ f.skew = false ∧ f.clamped = false) ∧
     (limit < raw → q.duration = limit ∧ f.skew = false ∧ f.clamped = true) ∧
     (60 * m < q.duration + 60 ∧ q.duration ≤ 60 * m) ∧ m ≤ q.maxHire ∧
     (falseStart → fare.outcome = .falseStart ∧ fare.amount = 0 ∧ fare.capped = 0 ∧
       f.falseStart = true ∧ f.rideCap = false ∧ f.dayCap = false ∧ f.late = false ∧
       (∀ table card, addSpend table card fare.capped = table) ∧
       (f.clockUnsure = true ↔ q.endGrade = 7 ∨ q.ownGrade = 7) ∧ f.stepped = q.stepped) ∧
     (¬ falseStart → fare.outcome = .charged ∧ f.falseStart = false)) ∧
    (1 ≤ q.terms.block →
      let f := priceHire q
      let t := q.terms
      let m := f.minutes
      ∃ n usage adjusted hours : Nat,
        ((m - t.free) ≤ n * t.block ∧ n * t.block < (m - t.free) + t.block) ∧
        usage = t.unlock + n * t.price ∧
        adjusted = (usage * q.classTerms.percent + 50) / 100 ∧
        (m - t.lateAfter ≤ 60 * hours ∧ 60 * hours < m - t.lateAfter + 60) ∧
        (f.outcome = .charged →
          f.capped = min (min adjusted t.cap) (q.classTerms.dayCap - q.spent) ∧
          (f.flags.rideCap = true ↔ t.cap < adjusted) ∧
          (f.flags.dayCap = true ↔ q.classTerms.dayCap - q.spent < min adjusted t.cap) ∧
          (f.flags.late = true ↔ t.lateAfter < m ∧ q.classTerms.waived = false) ∧
          f.amount = f.capped + (if t.lateAfter < m ∧ q.classTerms.waived = false then t.lateFee * hours else 0) ∧
          f.amount ≤ t.cap + t.lateFee * hours) ∧
        (f.flags.clockUnsure = true ↔ q.endGrade = 7 ∨ q.ownGrade = 7) ∧
        (q.late = false → f.flags.stepped = q.stepped))

/-- A charge above 0 is added to the card's entry in its place, or makes an entry at the end, from a full table after the oldest of the
least entries is removed; a charge of 0 changes nothing. -/
def Obligations.DaySpendKeepsOneEntryPerCard : Prop :=
  ∀ (table : List DaySpend) (card : Card) (amount : Cents),
    let after := addSpend table card amount
    let entry : DaySpend := { card := card, spent := amount }
    (amount = 0 → after = table) ∧
    (∀ before e rest, 0 < amount → table = before ++ e :: rest → e.card = card → (∀ x ∈ before, x.card ≠ card) →
      after = before ++ { e with spent := e.spent + amount } :: rest) ∧
    (0 < amount → (∀ x ∈ table, x.card ≠ card) → table.length < 32 → after = table ++ [entry]) ∧
    (∀ before e rest, 0 < amount → (∀ x ∈ table, x.card ≠ card) → 32 ≤ table.length → table = before ++ e :: rest →
      (∀ x ∈ before, e.spent < x.spent) → (∀ x ∈ rest, e.spent ≤ x.spent) → after = before ++ rest ++ [entry])

/-! ### Fault requests (Chapter 6) -/

/-- REPORT FAULT in range merges into the live entry of its subject and kind, or makes an entry at the end of the log, from a full log
after the oldest CLEARED entry or else the oldest of severity 1 is removed, or is answered FULL. At severity 2 or more the bike is
quarantined under the entry's identity, its entry of the bike status list changed or made, from a full list after one is removed, and a
member release of it abandoned; or the dock's fault mark is set, a working dock faulted and its release abandoned; and a rise to that, or
from 2 to 3, is flooded for a bike, posts a FAULT note and raises FAULT. A report answered FULL quarantines a bike at severity 3 alone,
under the next identity, and faults a dock at 2 or more. A dock subject in a van is answered WRONG_ROLE, and a subject, kind or severity
out of range BAD_VALUE. A FAULT notice changes nothing where its entry is CLEARED here; else it raises the severity of its own entry, or
merges into the live entry of its bike and kind, or makes an entry under its own identity, or is counted as dropped; and it quarantines
the bike and does nothing else. That one taken again may merge again, and that a FAULT note follows the quarantine or the dock fault, are
the model's choices, assumption logs 61 and 66. -/
def Obligations.FaultReportsMergeOrEnter : Prop :=
  (∀ (s : State) (subject number kind severity : Nat), s.Takes (.reportFault subject number kind severity) →
    s.sup.image.dockCount ≤ 24 →
      let reportable (sub : Subject) (k : FaultKind) : Prop := faultKinds[kind]? = some k ∧ 1 ≤ severity ∧ severity ≤ 3 ∧
        (subject = 0 ∧ sub = .bike number ∧ 1 ≤ number ∧ number ≤ 16777215 ∧ k ∈ [.brake, .tyre, .chain, .light, .reported] ∨
          subject = 1 ∧ sub = .dock number ∧ 1 ≤ number ∧ number ≤ s.sup.image.dockCount ∧ k ∈ [.lock, .dockJam])
      (s.isVan = true → subject = 1 →
        exec (.reportFault subject number kind severity) s = .next { s with kl := s.kl.answered .wrongRole [] }) ∧
      ((s.isVan = true → subject ≠ 1) → (∀ sub k, ¬ reportable sub k) →
        exec (.reportFault subject number kind severity) s = .next { s with kl := s.kl.answered .badValue [] }) ∧
      (∀ sub k, (s.isVan = true → subject ≠ 1) → reportable sub k →
        ∃ t, exec (.reportFault subject number kind severity) s = .next t ∧
          t = { s with
            du := t.du, bu := t.bu, slc := t.slc, sq := t.sq, jnl := t.jnl, flt := t.flt, kl := t.kl } ∧
          let live (e : FaultEntry) : Bool := decide (e.state ≠ .cleared)
          let same (e : FaultEntry) : Bool := live e && decide (e.subject = sub) && decide (e.kind = k)
          let id : Ident := { node := s.node, serial := s.flt.serial }
          let fresh : FaultEntry :=
            { id := id, subject := sub, kind := k, severity := severity, count := 1, cards := [], first := s.now, last := s.now,
              state := .opened }
          let answered (status : Status) (body : List Byte) : Prop :=
            t.kl = { s.kl with raised := t.kl.raised }.answered status body
          (∀ before e rest, s.flt.log = before ++ e :: rest → same e = true → (∀ x ∈ before, same x = false) →
            let merged := { e with count := min 15 (e.count + 1), last := s.now, severity := max e.severity severity }
            t.flt = { s.flt with log := before ++ merged :: rest } ∧ s.FaultTaken t merged e.severity ∧
            (merged.severity < 2 → t.du = s.du) ∧
            answered .ok (identBytes e.id ++ [0] ++ u8 (max e.severity severity))) ∧
          ((∀ e ∈ s.flt.log, same e = false) →
            let entered (log : List FaultEntry) : Prop :=
              t.flt = { s.flt with log := log ++ [fresh], serial := (s.flt.serial + 1) % 65536 } ∧ s.FaultTaken t fresh 0 ∧
                (severity < 2 → t.du = s.du) ∧ answered .ok (identBytes id ++ [1] ++ u8 severity)
            (s.flt.log.length < 32 → entered s.flt.log) ∧
            (∀ before e rest, 32 ≤ s.flt.log.length → s.flt.log = before ++ e :: rest → live e = false →
              (∀ x ∈ before, live x = true) → entered (before ++ rest)) ∧
            (∀ before e rest, 32 ≤ s.flt.log.length → (∀ x ∈ s.flt.log, live x = true) → s.flt.log = before ++ e :: rest →
              e.severity = 1 → (∀ x ∈ before, x.severity ≠ 1) → entered (before ++ rest)) ∧
            (32 ≤ s.flt.log.length → (∀ x ∈ s.flt.log, live x = true ∧ x.severity ≠ 1) →
              t.flt.log = s.flt.log ∧ t.flt.drops = min 65535 (s.flt.drops + 1) ∧ answered .full [] ∧
              (∀ b, sub = .bike b → severity = 3 → s.Quarantined t b { id := id, severity := 3 } ∧
                t.flt.serial = (s.flt.serial + 1) % 65536) ∧
              (∀ b, sub = .bike b → severity < 3 → t.du = s.du ∧ t.flt.serial = s.flt.serial) ∧
              (∀ d, sub = .dock d → 2 ≤ severity → s.DockFaulted t d) ∧
              (∀ d, sub = .dock d → severity < 2 → t.du = s.du))))) ∧
  (∀ (s : State) (n : Notice) id b kind severity, n.body = .fault id b kind severity →
    let t := s.deliver n
    let live (e : FaultEntry) : Bool := decide (e.state ≠ .cleared)
    let same (e : FaultEntry) : Bool := live e && decide (e.subject = .bike b) && decide (e.kind = kind)
    let taken (flt : Flt) (id : Ident) (severity : Nat) : Prop :=
      t = { s with flt := flt, du := t.du, bu := t.bu } ∧
      s.Quarantined t b { id := id, severity := severity }
    ((∃ e ∈ s.flt.log, e.id = id ∧ live e = false) → t = s) ∧
    ((∀ e ∈ s.flt.log, e.id = id → live e = true) →
      (∀ before e rest, s.flt.log = before ++ e :: rest → e.id = id → (∀ x ∈ before, x.id ≠ id) →
        taken { s.flt with log := before ++ { e with severity := max e.severity severity } :: rest } id (max e.severity severity)) ∧
      ((∀ e ∈ s.flt.log, e.id ≠ id) →
        (∀ before e rest, s.flt.log = before ++ e :: rest → same e = true → (∀ x ∈ before, same x = false) →
          taken { s.flt with log := before ++
            { e with count := min 15 (e.count + 1), last := s.now, severity := max e.severity severity } :: rest }
            e.id (max e.severity severity)) ∧
        ((∀ e ∈ s.flt.log, same e = false) →
          let fresh : FaultEntry :=
            { id := id, subject := .bike b, kind := kind, severity := severity, count := 1, cards := [], first := s.now,
              last := s.now, state := .opened }
          let entered (log : List FaultEntry) : Prop := taken { s.flt with log := log ++ [fresh] } id severity
          (s.flt.log.length < 32 → entered s.flt.log) ∧
          (∀ before e rest, 32 ≤ s.flt.log.length → s.flt.log = before ++ e :: rest → live e = false →
            (∀ x ∈ before, live x = true) → entered (before ++ rest)) ∧
          (∀ before e rest, 32 ≤ s.flt.log.length → (∀ x ∈ s.flt.log, live x = true) → s.flt.log = before ++ e :: rest →
            e.severity = 1 → (∀ x ∈ before, x.severity ≠ 1) → entered (before ++ rest)) ∧
          (32 ≤ s.flt.log.length → (∀ x ∈ s.flt.log, live x = true ∧ x.severity ≠ 1) →
            taken { s.flt with drops := min 65535 (s.flt.drops + 1) } id severity)))))

/-- CLEAR FAULT in range marks every live entry of its subject CLEARED and answers their number. For a bike its quarantine goes and a
FAULT CLEAR is flooded; for a dock its fault mark and untaken count go, and from FAULTED it is settled; for the station nothing else
changes. A FAULT CLEAR notice marks CLEARED the bike's live entries first made no later than 120 s after its own time, and takes the
quarantine away unless a live entry of severity 2 or more remains. -/
def Obligations.ClearFaultMarksTheSubjectsEntries : Prop :=
  (∀ (s : State) (subject number : Nat), s.Takes (.clearFault subject number) →
    s.sup.image.dockCount ≤ 24 → (s.du.bikes.map (·.bike)).Nodup →
      let names (sub : Subject) : Prop :=
        subject = 0 ∧ sub = .bike number ∧ 1 ≤ number ∧ number ≤ 16777215 ∨
        subject = 1 ∧ sub = .dock number ∧ 1 ≤ number ∧ number ≤ s.sup.image.dockCount ∨
        subject = 2 ∧ sub = .station ∧ number = 0
      (s.isVan = true → subject = 1 →
        exec (.clearFault subject number) s = .next { s with kl := s.kl.answered .wrongRole [] }) ∧
      ((s.isVan = true → subject ≠ 1) → (∀ sub, ¬ names sub) →
        exec (.clearFault subject number) s = .next { s with kl := s.kl.answered .badValue [] }) ∧
      (∀ sub, (s.isVan = true → subject ≠ 1) → names sub → ∃ t, exec (.clearFault subject number) s = .next t ∧
        let cleared (e : FaultEntry) : Bool := decide (e.subject = sub) && decide (e.state ≠ .cleared)
        t.flt = { s.flt with log := s.flt.log.map fun e => if cleared e then { e with state := .cleared } else e } ∧
        t.kl = s.kl.answered .ok (u16 (s.flt.log.filter cleared).length) ∧
        t = { s with flt := t.flt, kl := t.kl, du := t.du, bu := t.bu, slc := t.slc, jnl := t.jnl } ∧
        (∀ b, sub = .bike b →
          (∀ e ∈ t.du.bikes, e.bike = b → e.quarantine = none) ∧
          (∀ e, e.bike ≠ b → (e ∈ t.du.bikes ↔ e ∈ s.du.bikes)) ∧
          t.slc = (s.flood (.faultClear b s.now)).slc ∧ s.jnl.Marked t.jnl [.counters]) ∧
        (∀ d, sub = .dock d → t.slc = s.slc ∧ t.jnl = s.jnl ∧ t.du.bikes = s.du.bikes ∧
          (t.dock d).faultMark = false ∧ (t.dock d).untaken = 0 ∧ (t.dock d).bike = (s.dock d).bike ∧
          ((s.dock d).state ≠ .faulted → (t.dock d).state = (s.dock d).state) ∧
          ((s.dock d).state = .faulted → (t.dock d).state =
            if (s.dock d).hostDisabled then .disabled else if (s.dock d).silent then .offline
            else if (s.dock d).bike.isSome then .holding else .empty) ∧
          ∀ n, n ≠ d → t.dock n = s.dock n) ∧
        (sub = .station → t.du = s.du ∧ t.bu = s.bu ∧ t.slc = s.slc ∧ t.jnl = s.jnl))) ∧
  (∀ (s : State) (n : Notice) b clearedAt, n.body = .faultClear b clearedAt → (s.du.bikes.map (·.bike)).Nodup →
    let t := s.deliver n
    let reached (e : FaultEntry) : Bool :=
      decide (e.subject = .bike b) && decide (e.state ≠ .cleared) && decide (e.first ≤ clearedAt + 120)
    let stands := ∃ e ∈ t.flt.log, e.subject = .bike b ∧ e.state ≠ .cleared ∧ 2 ≤ e.severity
    t = { s with flt := t.flt, du := t.du, bu := t.bu } ∧
    t.flt = { s.flt with log := s.flt.log.map fun e => if reached e then { e with state := .cleared } else e } ∧
    (stands → t.du = s.du ∧ t.bu = s.bu) ∧
    (¬ stands → (∀ e ∈ t.du.bikes, e.bike = b → e.quarantine = none) ∧
      ∀ e, e.bike ≠ b → (e ∈ t.du.bikes ↔ e ∈ s.du.bikes)))

/-! ### Docks (Chapter 3) -/

/-- The dock bus. A poll goes to the next configured post with what its two command slots hold, a STATUS poll while its dock is OFFLINE,
its post silent or not yet heard since start; an answer that does not come leaves the slots and the silence timer as they are. A heartbeat
that answers a poll empties the slots and restarts the silence timer. The first since start settles the dock, recording a bike in it
without a window, and a bike so found is a start-up arrival: where an owned hire holds it, the hire ends here, counted in no ring; else
only its missing part and its heard entry go, with no note and no notice. One that names the recorded bike does nothing more; and the
first from a silent post clears its POST_SILENT entries and settles an OFFLINE dock, as does any that answers a STATUS poll. One that
answers an EVENT poll and differs from the recorded bike is taken as the BIKE_OUT, the BIKE_IN, or the BIKE_OUT and then the BIKE_IN that
the post has lost; one that differs in a recovery is taken so in the state the dock has after it, and then the resting pattern is placed.
That not yet heard is polled with STATUS polls, that its first heartbeat leaves the fault log as it was, and that a heartbeat from a
silent post recovers it after an EVENT poll too, are the model's choices, assumption logs 15, 16 and 51; so is that a running transient
keeps the lamp slot, assumption log 65. That an answer empties both slots whatever was placed in them since the poll, and that a start-up
arrival leaves the bike recorded at any other dock, are its inferences, assumption logs 17 and 20; that the poll sent stands in the state
is its choice, assumption log 44. -/
def Obligations.PostsArePolledAndHeard : Prop :=
  ∀ s : State, s.busRuns = true → 1 ≤ s.sup.image.dockCount → s.sup.image.dockCount ≤ 24 →
    (∀ d, d = (if s.du.pollNext ≤ s.sup.image.dockCount then s.du.pollNext else 1) →
      let k := s.dock d
      let kind : PollKind := if k.state = .offline ∨ k.silent = true ∨ k.heard = false then .status else .event
      exec .poll s = .next { s with du := { s.du with
        polled := some (d, kind), pollNext := if d < s.sup.image.dockCount then d + 1 else 1,
        busOut := pollFrame d kind k.lockSlot k.lampSlot } }) ∧
    exec .pollAnswerTimeout s = .next { s with du := { s.du with polled := none } } ∧
    (∀ d b kind, 1 ≤ d → d ≤ s.sup.image.dockCount → s.du.polled = some (d, kind) →
      let k := s.dock d
      let settled (bike : Option Bike) : DockState :=
        if k.hostDisabled then .disabled else if k.faultMark then .faulted else if bike.isSome then .holding else .empty
      let same := k.bike = none ∧ b = 0 ∨ b ≠ 0 ∧ k.bike.map (·.bike) = some b
      let heard (e : FaultEntry) : FaultEntry :=
        if e.subject = .dock d ∧ e.kind = .postSilent then { e with state := .cleared } else e
      ∃ t, exec (.heartbeat d b) s = .next t ∧
        t.du.polled = none ∧ t.clk = s.clk ∧ t.sup = s.sup ∧ t.timebase = s.timebase ∧ t.draws = s.draws ∧ t.pending = s.pending ∧
        (t.dock d).silent = false ∧ (t.dock d).silenceStart = s.timebase ∧ (t.dock d).lastHeard = s.now ∧
        (k.heard = false → b = 0 → k.bike = none →
          t = { s with du := t.du, bu := t.bu } ∧ (t.dock d).heard = true ∧ (t.dock d).bike = none ∧
          (t.dock d).state = settled none ∧ ∀ n, n ≠ d → t.dock n = s.dock n) ∧
        (k.heard = false → b ≠ 0 → (t.dock d).heard = true ∧ (t.dock d).bike = some { bike := b, time := s.now } ∧
          (t.dock d).state = settled (some b) ∧ (t.dock d).window = k.window ∧
          (k.transient = none → (t.dock d).transient = none) ∧
          (∀ n, n ≠ d → (t.dock n).bike = (s.dock n).bike ∧ (t.dock n).state = (s.dock n).state) ∧
          ((s.du.bikes.map (·.bike)).Nodup → (∀ e ∈ t.du.bikes, e.bike = b → e.missing = none) ∧
            ∀ e, e.bike ≠ b → (e ∈ t.du.bikes ↔ e ∈ s.du.bikes)) ∧
          t.bu.ring = s.bu.ring ∧ t.bu.session = s.bu.session ∧ t.bu.claims = s.bu.claims ∧
          (let heardKept := s.hu.heard.filter fun e => decide (e.bike ≠ b)
           (∀ before o rest, s.hu.owned = before ++ o :: rest → o.fields.bike = b → (∀ x ∈ before, x.fields.bike ≠ b) →
             s.ClosedHere t o ∧
             t.hu = { s.hu with heard := heardKept, owned := t.hu.owned, settled := t.hu.settled } ∧
             t = { s with
               du := t.du, bu := t.bu, hu := t.hu, fu := t.fu, sq := t.sq, slc := t.slc, jnl := t.jnl,
               kl := { s.kl with raised := { s.kl.raised with settlement := t.kl.raised.settlement } } }) ∧
           ((∀ o ∈ s.hu.owned, o.fields.bike ≠ b) →
             t = { s with du := t.du, bu := t.bu, hu := { s.hu with heard := heardKept } }))) ∧
        (k.heard = true → k.silent = false → kind = .event → same →
          t = { s with du := t.du } ∧
          t.dock d = { k with lampSlot := none, lockSlot := none, silenceStart := s.timebase, lastHeard := s.now } ∧
          ∀ n, n ≠ d → t.dock n = s.dock n) ∧
        (k.heard = true → k.silent = true ∨ kind = .status → same →
          t = { s with du := t.du, bu := t.bu, flt := t.flt } ∧
          t.flt = { s.flt with log := s.flt.log.map heard } ∧
          (t.dock d).bike = k.bike ∧ (t.dock d).state = (if k.state = .offline then settled (k.bike.map (·.bike)) else k.state) ∧
          ∀ n, n ≠ d → t.dock n = s.dock n) ∧
        (k.heard = true → k.silent = false → kind = .event → b ≤ 16777215 →
          (∀ x, k.bike = some x → b = 0 → exec (.bikeOut d) s = .next t) ∧
          (k.bike = none → b ≠ 0 → exec (.bikeIn d b) s = .next t) ∧
          (∀ x, k.bike = some x → b ≠ 0 → x.bike ≠ b → ∃ m, exec (.bikeOut d) s = .next m ∧ t = m.bikeArrives d b)) ∧
        (k.heard = true → k.silent = true ∨ kind = .status → ¬ same → ∃ u m : State,
          u = { s with du := u.du, bu := u.bu, flt := { s.flt with log := s.flt.log.map heard } } ∧
          u.du.bikes = s.du.bikes ∧ u.bu.ring = s.bu.ring ∧ u.bu.session = s.bu.session ∧ u.bu.claims = s.bu.claims ∧
          u.dock d = { k with
            state := if k.state = .offline then settled (k.bike.map (·.bike)) else k.state, silent := false,
            silenceStart := s.timebase, lastHeard := s.now, lockSlot := none, lampSlot := (u.dock d).lampSlot,
            lampLast := (u.dock d).lampLast, resting := (u.dock d).resting, transient := (u.dock d).transient } ∧
          (∀ n, n ≠ d → u.dock n = s.dock n) ∧
          (let leaves (v : State) : Prop := exec (.bikeOut d) { u with du := { u.du with polled := some (d, .event) } } = .next v
           (b = 0 → leaves m) ∧ (k.bike = none → m = u.bikeArrives d b) ∧
           (∀ x, k.bike = some x → b ≠ 0 → ∃ v, leaves v ∧ m = v.bikeArrives d b)) ∧
          t = { m with du := t.du } ∧ t.du.bikes = m.du.bikes ∧ (∀ n, n ≠ d → t.dock n = m.dock n) ∧
          t.dock d = { m.dock d with
            lampSlot := (t.dock d).lampSlot, lampLast := (t.dock d).lampLast, resting := (t.dock d).resting } ∧
          (k.bike = none ∨ k.state ≠ .empty → (t.dock d).resting = (m.dock d).resting) ∧
          ((t.dock d).transient = none → ∀ p, (t.dock d).resting = some p → (t.dock d).lampSlot = some p)))

/-- DOCK DISABLE moves a configured dock to DISABLED from any state, a release in force being abandoned with LOCK placed, and DOCK ENABLE
settles a DISABLED dock by its fault mark, its post and its bike and leaves any other as it is; a number outside 1 to the dock count is
refused. A LOCK_FAIL sets the fault mark and faults a working dock. A post silent for 30 s takes a working dock OFFLINE. In each of the
three a release to the van lapses without a bike: the take in flight goes and the allowance stays, the van is told in one TAKE DONE, the
idle timer restarts, and a session in CLOSING ends with its last take; a member's release leaves the session and the street link as they
are. No other dock is touched. That the quarantined flag of such a TAKE DONE is free is the model's choice, assumption log 19, and that a
FAULT note follows the dock fault, assumption log 66; that a timer's command moves the timebase to its deadline, assumption log 2. That
the LOCK_FAIL of a post gone silent since its EVENT poll is taken is its choice too, assumption log 51. -/
def Obligations.DocksAreWithdrawnAndReturned : Prop :=
  ∀ (s : State) (d : Nat), s.sup.image.dockCount ≤ 24 →
    let k := s.dock d
    let configured := 1 ≤ d ∧ d ≤ s.sup.image.dockCount
    let working := k.state = .empty ∨ k.state = .holding ∨ k.state = .releasing
    let released (k' : Dock) : Prop := k.state = .releasing → k'.release = none ∧ k'.lockSlot = some .lock
    let kept (t : State) : Prop := (t.dock d).bike = k.bike ∧ (∀ n, n ≠ d → t.dock n = s.dock n) ∧ t.du.bikes = s.du.bikes ∧
      t.clk = s.clk ∧ t.hu = s.hu ∧ t.fu = s.fu ∧ t.sup = s.sup ∧ t.draws = s.draws ∧ t.pending = s.pending
    (s.Takes (.dockDisable d) →
      (¬ configured → exec (.dockDisable d) s = .next { s with kl := s.kl.answered .badValue [] }) ∧
      (configured → ∃ t, exec (.dockDisable d) s = .next t ∧ kept t ∧ released (t.dock d) ∧ t.flt = s.flt ∧
        (t.dock d).state = .disabled ∧ (t.dock d).hostDisabled = true ∧ (t.dock d).faultMark = k.faultMark ∧
        t.kl = { s.kl with raised := t.kl.raised }.answered .ok [] ∧ s.ReleaseGivenUp t d ∧ t.timebase = s.timebase ∧
        (t.bu.session.isSome = s.bu.session.isSome → t.sq = s.sq ∧ t.kl.raised = s.kl.raised) ∧
        (k.state ≠ .releasing ∨ (∀ r, k.release = some r → r.purpose = .member) →
          t = { s with du := t.du, bu := t.bu, kl := s.kl.answered .ok [] }))) ∧
    (s.Takes (.dockEnable d) →
      (¬ configured → exec (.dockEnable d) s = .next { s with kl := s.kl.answered .badValue [] }) ∧
      (configured → k.state ≠ .disabled → exec (.dockEnable d) s = .next { s with kl := s.kl.answered .ok [] }) ∧
      (configured → k.state = .disabled → ∃ t, exec (.dockEnable d) s = .next t ∧ kept t ∧
        t = { s with du := t.du, bu := t.bu, kl := s.kl.answered .ok [] } ∧ (t.dock d).hostDisabled = false ∧
        (t.dock d).state = if k.faultMark then .faulted else if k.silent then .offline
          else if k.bike.isSome then .holding else .empty)) ∧
    (s.busRuns = true → configured → s.du.polled = some (d, .event) → ∃ t, exec (.lockFail d) s = .next t ∧ kept t ∧
      s.DockFaulted t d ∧ (t.dock d).untaken = k.untaken ∧ t.timebase = s.timebase ∧
      (s.flt.log.length < 32 → ∃ e ∈ t.flt.log, e.subject = .dock d ∧ e.kind = .lock ∧ e.state ≠ .cleared ∧ 2 ≤ e.severity)) ∧
    (s.busRuns = true → configured → k.silent = false → ∃ t, exec (.postSilence d) s = .next t ∧ kept t ∧
      released (t.dock d) ∧ (t.dock d).faultMark = k.faultMark ∧ (t.dock d).window = k.window ∧ (t.dock d).silent = true ∧
      s.ReleaseGivenUp t d ∧
      t.timebase = max s.timebase (k.silenceStart + 30000) ∧
      (t.dock d).state = (if working then .offline else k.state) ∧
      (s.flt.log.length < 32 →
        ∃ e ∈ t.flt.log, e.subject = .dock d ∧ e.kind = .postSilent ∧ e.state ≠ .cleared ∧ 2 ≤ e.severity))

/-- The dock's own timers. A release that reaches 20 s ends with LOCK placed and the bike still recorded, in HOLDING with the RED
transient and one more untaken release; the third such faults the dock with a DOCK_JAM report and restarts the count. A release to the van
has then lapsed without a bike, as in a withdrawal of the dock, and a member's leaves the session and the street link as they are. A
return window goes at 60 s, and a transient lamp gives way to the resting pattern at 3 s. A press of the fault button in an open window is
taken once, as a member report of the window's card, and outside one in HOLDING as a report of no card. The report merges into the bike's
live REPORTED entry, where a card not yet listed joins while fewer than 3 are and each listed card warrants one severity, or makes an
entry of severity 1; at severity 2 or more the bike is quarantined, and a rise to that is flooded, posted and raises FAULT. That a timer's
command moves the timebase to its deadline, that the quarantined flag of the TAKE DONE of a lapse is free, and that the FAULT note follows
the quarantine, are the model's choices, assumption logs 2, 19 and 66. That the BUTTON of a post gone silent since its EVENT poll is taken
is its choice too, assumption log 51. -/
def Obligations.DockTimersAndButtonsAct : Prop :=
  ∀ (s : State) (d : Nat), s.busRuns = true → 1 ≤ d → d ≤ 24 →
    let k := s.dock d
    let kept (t : State) : Prop := (t.dock d).bike = k.bike ∧ (∀ n, n ≠ d → (t.dock n).bike = (s.dock n).bike) ∧
      t.clk = s.clk ∧ t.hu = s.hu ∧ t.fu = s.fu ∧ t.sup = s.sup ∧ t.draws = s.draws ∧ t.pending = s.pending
    (∀ r, k.state = .releasing → k.release = some r → ∃ t, exec (.releaseTimeout d) s = .next t ∧ kept t ∧
      t.timebase = max s.timebase (r.start + 20000) ∧ (t.dock d).release = none ∧ (t.dock d).lockSlot = some .lock ∧
      s.ReleaseGivenUp t d ∧
      (∀ n, n ≠ d → t.dock n = s.dock n) ∧ t.du.bikes = s.du.bikes ∧
      (k.untaken < 2 → (t.dock d).state = .holding ∧ (t.dock d).untaken = k.untaken + 1 ∧ (t.dock d).faultMark = k.faultMark ∧
        (t.dock d).transient = some { lamp := .red, start := t.timebase } ∧ (t.dock d).lampSlot = some .red ∧
        (r.purpose = .member → t = { s with timebase := t.timebase, du := t.du, bu := t.bu })) ∧
      (2 ≤ k.untaken → (t.dock d).state = .faulted ∧ (t.dock d).untaken = 0 ∧ (t.dock d).faultMark = true ∧
        (t.dock d).transient = none ∧
        (s.flt.log.length < 32 →
          ∃ e ∈ t.flt.log, e.subject = .dock d ∧ e.kind = .dockJam ∧ e.state ≠ .cleared ∧ 2 ≤ e.severity))) ∧
    (∀ w, k.window = some w → ∃ t, exec (.returnWindowExpiry d) s = .next t ∧ kept t ∧
      t = { s with timebase := max s.timebase (w.start + 60000), du := t.du } ∧
      (t.dock d).window = none ∧ (t.dock d).state = k.state ∧ ∀ n, n ≠ d → t.dock n = s.dock n) ∧
    (∀ w, k.transient = some w → ∃ t, exec (.lampTransientEnd d) s = .next t ∧ kept t ∧
      t = { s with timebase := max s.timebase (w.start + 3000), du := t.du } ∧
      (t.dock d).transient = none ∧ (t.dock d).state = k.state ∧ (∀ p, (t.dock d).resting = some p → (t.dock d).lampSlot = some p) ∧
      ∀ n, n ≠ d → t.dock n = s.dock n) ∧
    (d ≤ s.sup.image.dockCount → s.du.polled = some (d, .event) → ∃ t, exec (.button d) s = .next t ∧ kept t ∧
      t.timebase = s.timebase ∧
      let reports (card : Option Card) (b : Bike) : Prop :=
        let same (e : FaultEntry) : Prop := e.subject = .bike b ∧ e.kind = .reported ∧ e.state ≠ .cleared
        let fresh : FaultEntry :=
          { id := { node := s.node, serial := s.flt.serial }, subject := .bike b, kind := .reported, severity := 1, count := 1,
            cards := card.toList, first := s.now, last := s.now, state := .opened }
        (∀ before e rest, s.flt.log = before ++ e :: rest → same e → (∀ x ∈ before, ¬ same x) →
          let cards := e.cards ++ card.toList.filter fun c => decide (c ∉ e.cards ∧ e.cards.length < 3)
          let merged := { e with
            count := min 15 (e.count + 1), last := s.now, cards := cards, severity := max e.severity (min 3 cards.length) }
          t.flt = { s.flt with log := before ++ merged :: rest } ∧ s.FaultTaken t merged e.severity) ∧
        ((∀ e ∈ s.flt.log, ¬ same e) → s.flt.log.length < 32 →
          t.flt = { s.flt with log := s.flt.log ++ [fresh], serial := (s.flt.serial + 1) % 65536 } ∧ s.FaultTaken t fresh 0)
      (∀ w x, k.window = some w → k.bike = some x → w.taken = false →
        (t.dock d).window = some { w with taken := true } ∧ reports w.card x.bike) ∧
      (∀ w, k.window = some w → w.taken = true → t = { s with du := t.du }) ∧
      (∀ x, k.window = none → k.bike = some x → k.state = .holding → reports none x.bike) ∧
      (k.window = none → k.state ≠ .holding → t = { s with du := t.du }))

/-! ### Cards and hires (Chapter 4) -/

/-- The checkout decision tests its eight checks in order and gives the reason of the first that fails, or grants. -/
def Obligations.CheckoutGivesTheFirstFailingCheck : Prop :=
  ∀ (s : State) (d : Nat) (c : CardRecord),
    let fails : Refused → Prop
      | .notReady => s.sup.start ≠ .run ∨ s.sup.supply = .critical
      | .closed => s.clk.closed = true
      | .cardInvalid => dateBefore c.validUntil (dateOf s.now) = true
      | .cardHeld => ∃ h ∈ s.hu.holds, h.card = c.card
      | .hireLimit => (s.fu.classTerms c.cls).hireLimit ≤
          (s.hu.owned.filter fun o => decide (o.fields.card = c.card)).length +
            (s.hu.heard.filter fun e => decide (e.card = c.card)).length
      | .dockBusy => (s.dock d).state ≠ .holding ∨ ∃ k ∈ s.du.docks.toList, k.state = .releasing ∧ ∃ r, k.release = some r ∧
          r.purpose = .member ∧ ∃ x, r.card = some x ∧ x.card = c.card
      | .bikeQuarantined => ∃ b, (s.dock d).bike = some b ∧ ∃ e ∈ s.du.bikes, e.bike = b.bike ∧ e.quarantine ≠ none
      | .capacity =>
          64 ≤ (s.sq.queue.filter SettlementRecord.isMoney).length + s.sq.leaving.length + s.hu.owned.length +
              s.du.memberReleases ∨
            48 ≤ s.hu.owned.length + s.du.memberReleases
    (s.checkout d c = none ↔ ∀ r, ¬ fails r) ∧
    (∀ r, s.checkout d c = some r ↔ fails r ∧ ∀ r', codeIn refusals r' < codeIn refusals r → ¬ fails r')

/-- HOLD CARD makes an entry with the next hold serial, or refreshes the placed time of the one held in its place, marks its slot, floods
a CARD HOLD and answers the identity and whether it is new; from a full list the oldest entry is displaced first. LIFT HOLD removes every
entry of the card with the reason, or all of them for ALL, marks each removal, floods a CARD LIFT and answers their number. A card of 0,
or a reason the host may not give, is refused. A CARD HOLD notice makes the entry under its own identity or refreshes the one held, and a
CARD LIFT removes what it matches; neither floods anything. -/
def Obligations.HoldRequestsPlaceAndLift : Prop :=
  ∀ s : State,
    (∀ (card : Card) (code : Nat) (reason : HoldReason), s.Takes (.holdCard card code) →
      let fresh : Ident := { node := s.node, serial := s.hu.holdSerial }
      (code = 2 ∨ 3 < code ∨ card = 0 ∨ 4294967295 < card →
        exec (.holdCard card code) s = .next { s with kl := s.kl.answered .badValue [] }) ∧
      (1 ≤ card → card ≤ 4294967295 → holdReasons[code]? = some reason → reason ≠ .overdue →
        (∀ before h rest, s.hu.holds = before ++ h :: rest → h.card = card → h.reason = reason →
          (∀ x ∈ before, ¬ (x.card = card ∧ x.reason = reason)) →
            ∃ j, s.jnl.Marked j [.hold h.slot, .counters] ∧ exec (.holdCard card code) s = .next { s with
              hu := { s.hu with holds := before ++ { h with placed := s.now } :: rest },
              slc := (s.flood (.cardHold h.id card reason)).slc, jnl := j, kl := s.kl.answered .ok (identBytes h.id ++ [0]) }) ∧
        ((∀ x ∈ s.hu.holds, ¬ (x.card = card ∧ x.reason = reason)) → s.hu.holds.length < 256 →
          ∃ j slot, s.jnl.Marked j [.counters, .hold slot] ∧ exec (.holdCard card code) s = .next { s with
            hu := { s.hu with
              holdSerial := (s.hu.holdSerial + 1) % 65536,
              holds := s.hu.holds ++ [{ card := card, reason := reason, id := fresh, placed := s.now, slot := slot }] },
            slc := (s.flood (.cardHold fresh card reason)).slc, jnl := j, kl := s.kl.answered .ok (identBytes fresh ++ [1]) }) ∧
        (∀ oldest rest, (∀ x ∈ s.hu.holds, ¬ (x.card = card ∧ x.reason = reason)) → s.hu.holds = oldest :: rest →
          256 ≤ s.hu.holds.length →
            ∃ j slot, s.jnl.Marked j [.counters, .hold oldest.slot, .hold slot] ∧ exec (.holdCard card code) s = .next { s with
              hu := { s.hu with
                holdSerial := (s.hu.holdSerial + 1) % 65536, holdsDisplaced := min 65535 (s.hu.holdsDisplaced + 1),
                holds := rest ++ [{ card := card, reason := reason, id := fresh, placed := s.now, slot := slot }] },
              slc := (s.flood (.cardHold fresh card reason)).slc, jnl := j, kl := s.kl.answered .ok (identBytes fresh ++ [1]) }))) ∧
    (∀ (card : Card) (code : Nat), s.Takes (.liftHold card code) →
      (card = 0 ∨ 4294967295 < card ∨ 4 < code →
        exec (.liftHold card code) s = .next { s with kl := s.kl.answered .badValue [] }) ∧
      (∀ reason : Option HoldReason, 1 ≤ card → card ≤ 4294967295 →
        (code = 4 ∧ reason = none ∨ reason ≠ none ∧ holdReasons[code]? = reason) →
        let lifted (h : Hold) : Bool := decide (h.card = card) && decide (reason = none ∨ reason = some h.reason)
        ∃ j, s.jnl.Marked j ((s.hu.holds.filter lifted).map (fun h => .hold h.slot) ++ [.counters]) ∧
          exec (.liftHold card code) s = .next { s with
            hu := { s.hu with holds := s.hu.holds.filter fun h => !lifted h },
            slc := (s.flood (.cardLift card reason)).slc, jnl := j,
            kl := s.kl.answered .ok (u16 (s.hu.holds.filter lifted).length) })) ∧
    (∀ (n : Notice) id card reason, n.body = .cardHold id card reason →
      let fresh (slot : Nat) : Hold := { card := card, reason := reason, id := id, placed := s.now, slot := slot }
      let free (holds : List Hold) (slot : Nat) : Prop :=
        slot < 256 ∧ ((∃ j < 256, ∀ h ∈ holds, h.slot ≠ j) → ∀ h ∈ holds, h.slot ≠ slot)
      (∀ before h rest, s.hu.holds = before ++ h :: rest → h.card = card → h.reason = reason →
        (∀ x ∈ before, ¬ (x.card = card ∧ x.reason = reason)) → ∃ j, s.jnl.Marked j [.hold h.slot] ∧
          s.deliver n = { s with hu := { s.hu with holds := before ++ { h with placed := s.now } :: rest }, jnl := j }) ∧
      ((∀ x ∈ s.hu.holds, ¬ (x.card = card ∧ x.reason = reason)) →
        (s.hu.holds.length < 256 → ∃ j slot, s.jnl.Marked j [.hold slot] ∧ free s.hu.holds slot ∧
          s.deliver n = { s with hu := { s.hu with holds := s.hu.holds ++ [fresh slot] }, jnl := j }) ∧
        (∀ oldest rest, s.hu.holds = oldest :: rest → 256 ≤ s.hu.holds.length →
          ∃ j slot, s.jnl.Marked j [.hold oldest.slot, .hold slot] ∧ free rest slot ∧
            s.deliver n = { s with
              hu := { s.hu with holds := rest ++ [fresh slot], holdsDisplaced := min 65535 (s.hu.holdsDisplaced + 1) },
              jnl := j }))) ∧
    (∀ (n : Notice) card reason, n.body = .cardLift card reason →
      let lifted (h : Hold) : Bool := decide (h.card = card) && decide (reason = none ∨ reason = some h.reason)
      ∃ j, s.jnl.Marked j ((s.hu.holds.filter lifted).map fun h => .hold h.slot) ∧
        s.deliver n = { s with hu := { s.hu with holds := s.hu.holds.filter fun h => !lifted h }, jnl := j })

/-- One owned hire converted as overdue: an OVERDUE money record of the ride cap plus the lost-bike fee is posted, not ready, a full queue
first losing its oldest note; the card is held OVERDUE, by a new entry with the next hold serial or a refresh of the one held, and a CARD
HOLD with that entry's identity is flooded; the bike is missing with this node as owner since now; a settled entry without an end is made
last; and the record leaves the table with its slot marked. Of the hire unit only the owned table, the holds with their serial and their
displaced count, and the settled list change; outside it only the dock unit, the balance unit, the settlement queue and its cause, the
street link and the journal may change, as far as the above leaves them open. -/
def Obligations.OverdueHiresAreConverted : Prop :=
  ∀ (s : State) (o : OwnedHire), o ∈ s.hu.owned →
    let t := s.convertOverdue o
    let f := o.fields
    let hire : Ident := { node := s.node, serial := f.serial }
    let same (h : Hold) : Prop := h.card = f.card ∧ h.reason = .overdue
    let flooded (id : Ident) : Prop := t.slc = (s.flood (.cardHold id f.card .overdue)).slc
    let fresh (slot : Nat) : Hold :=
      { card := f.card, reason := .overdue, id := { node := s.node, serial := s.hu.holdSerial }, placed := s.now, slot := slot }
    (∃ r kept, t.sq.queue = kept ++ [r] ∧ (s.sq.queue.length < 64 → kept = s.sq.queue) ∧
      (64 ≤ s.sq.queue.length → kept = s.sq.queue.eraseP fun r => !r.isMoney) ∧
      r.fields = { seq := s.sq.seq, time := s.now, body := .overdue hire f.card f.bike f.start (f.terms.cap + f.terms.lostFee) } ∧
      r.ready = false ∧ r.ownedSlot = o.slot) ∧
    (∀ before h rest, s.hu.holds = before ++ h :: rest → same h → (∀ x ∈ before, ¬ same x) →
      t.hu.holds = before ++ { h with placed := s.now } :: rest ∧ t.hu.holdSerial = s.hu.holdSerial ∧ flooded h.id ∧
      Slot.hold h.slot ∈ t.jnl.writeList) ∧
    ((∀ h ∈ s.hu.holds, ¬ same h) → t.hu.holdSerial = (s.hu.holdSerial + 1) % 65536 ∧ flooded (fresh 0).id ∧
      ∃ slot, t.hu.holds = (if s.hu.holds.length < 256 then s.hu.holds else s.hu.holds.drop 1) ++ [fresh slot] ∧
        Slot.hold slot ∈ t.jnl.writeList) ∧
    (∃ e ∈ t.du.bikes, e.bike = f.bike ∧ e.missing = some { owner := s.node, since := s.now }) ∧
    t.hu.settled = (if s.hu.settled.length < 32 then s.hu.settled else s.hu.settled.drop 1) ++
      [{ hire := hire, bike := f.bike, card := f.card, start := f.start, terms := f.terms, classTerms := f.classTerms, ending := none,
         outcome := .overdue }] ∧
    t.hu.owned = s.hu.owned.filter (fun x => !decide (x.fields.serial = f.serial)) ∧
    Slot.owned o.slot ∈ t.jnl.writeList ∧
    t.hu = { s.hu with
      owned := t.hu.owned, holds := t.hu.holds, holdSerial := t.hu.holdSerial, holdsDisplaced := t.hu.holdsDisplaced,
      settled := t.hu.settled } ∧
    t = { s with
      du := t.du, hu := t.hu, bu := t.bu, sq := t.sq, slc := t.slc, jnl := t.jnl,
      kl := { s.kl with raised := { s.kl.raised with settlement := t.kl.raised.settlement } } }

/-- A pending-close repeat timer that reaches 120 s with fewer than four repeats made sends a fresh HIRE CLOSE and starts again; with
four, the entry is removed and an UNSETTLED_RETURN note is posted. That a timer's command moves the timebase to its deadline is the
model's choice, assumption log 2. -/
def Obligations.PendingClosesRepeatFiveSends : Prop :=
  ∀ (s : State) (before rest : List PendingClose) (p : PendingClose), s.awake = true →
    s.hu.pendingClose = before ++ p :: rest → (∀ x ∈ before, ¬ (x.bike = p.bike ∧ x.endTime = p.endTime)) →
      let now := max s.timebase (p.timerStart + 120000)
      let later : State := { s with timebase := now }
      (p.repeats < 4 → ∃ j, s.jnl.Marked j [.counters] ∧
        exec (.pendingCloseRepeat p.bike p.endTime) s = .next { later with
          hu := { s.hu with pendingClose := before ++ { p with repeats := p.repeats + 1, timerStart := now } :: rest },
          slc := (later.flood (.hireClose p.bike p.endTime p.endGrade p.hire)).slc, jnl := j }) ∧
      (4 ≤ p.repeats → exec (.pendingCloseRepeat p.bike p.endTime) s = .next
        (State.postNote { later with hu := { s.hu with pendingClose := before ++ rest } }
          (.unsettledReturn p.bike p.endTime)))

/-- The notices of a hire that ends elsewhere, at their first hearing. A HIRE OPEN of a bike whose return is pending gives its identity to
the oldest entry that waits; one that began before the bike was docked here is discarded; any other makes or refreshes its heard entry, in
the place of another entry of the bike. A HIRE CLOSE removes a heard entry. Where it names this station, or none, it meets the first test
that applies: already settled, it is answered from the settled entry; owned, the hire ends with one money record; converted as overdue, it
is a late close with a LATE_RETURN note and no money record. A HIRE SETTLED removes the heard entry, the pending close it answers, and,
when LATE, the missing part. A van takes none of them. That the oldest of several entries takes the identity is the model's choice,
assumption log 52. -/
def Obligations.HireNoticesAreTaken : Prop :=
  ∀ (s : State) (n : Notice),
    let t := s.deliver n
    (∀ hire card cls b start dock, n.body = .hireOpen hire card cls b start dock →
      (s.isVan = true → t = s) ∧
      (s.isVan = false →
        let put (l : List HeardHire) : State := { s with hu := { s.hu with heard := l } }
        let entry : HeardHire := { hire := hire, card := card, bike := b, start := start, heard := s.now }
        let others := s.hu.heard.filter fun e => !(decide (e.bike = b) && decide (e.hire ≠ hire))
        let returned := ∃ d x, (s.dock d).bike = some x ∧ x.bike = b ∧ start < x.time
        (∀ before p rest, s.hu.pendingClose = before ++ p :: rest → p.bike = b → (∀ x ∈ before, x.bike ≠ b) →
          t = { s with hu := { s.hu with
            pendingClose := before ++ { p with hire := if p.hire = none then some hire else p.hire } :: rest } }) ∧
        ((∀ p ∈ s.hu.pendingClose, p.bike ≠ b) →
          (returned → t = s) ∧
          (¬ returned →
            (∀ before e rest, others = before ++ e :: rest → e.hire = hire → (∀ x ∈ before, x.hire ≠ hire) →
              t = put (before ++ entry :: rest)) ∧
            ((∀ e ∈ others, e.hire ≠ hire) → t = put ((if others.length < 64 then others else others.drop 1) ++ [entry])))))) ∧
    (∀ b endTime endGrade hire, n.body = .hireClose b endTime endGrade hire →
      (s.isVan = true → t = s) ∧
      (s.isVan = false →
        let heard := s.hu.heard.filter fun e => match hire with
          | some h => decide (e.hire ≠ h)
          | none => !(decide (e.bike = b) && decide (e.start ≤ endTime))
        let forgotten : State := { s with hu := { s.hu with heard := heard } }
        let names (serial : Serial) : Prop := ∀ h, hire = some h → h.serial = serial
        let ended (e : SettledHire) : Prop := e.bike = b ∧ e.ending = some (n.origin, endTime)
        let held (o : OwnedHire) : Prop := o.fields.bike = b ∧ names o.fields.serial
        let overdue (e : SettledHire) : Prop := e.bike = b ∧ e.outcome = .overdue ∧ e.ending = none ∧ names e.hire.serial
        let question (terms : BandTerms) (classTerms : ClassSnapshot) (start : Time) (late stepped : Bool) (card : Card) : FareQuestion :=
          { terms := terms, classTerms := classTerms, start := start, endTime := endTime, endsHere := decide (n.origin = s.node),
            late := late, endGrade := endGrade, ownGrade := s.clk.dom.grade, stepped := stepped, maxHire := s.sup.image.maxHire,
            spent := spentBy s.fu.spend card }
        (∀ h, hire = some h → h.node ≠ s.node → t = forgotten) ∧
        ((∀ h, hire = some h → h.node = s.node) →
          (∀ before e rest, s.hu.settled = before ++ e :: rest → ended e → (∀ x ∈ rest, ¬ ended x) →
            t = forgotten.flood (.hireSettled e.hire b n.origin endTime e.outcome)) ∧
          ((∀ e ∈ s.hu.settled, ¬ ended e) →
            (∀ before o rest, s.hu.owned = before ++ o :: rest → held o → (∀ x ∈ before, ¬ held x) →
              let f := o.fields
              let id : Ident := { node := s.node, serial := f.serial }
              let fare := priceHire (question f.terms f.classTerms f.start false f.stepped f.card)
              t = { s with fu := t.fu, hu := t.hu, sq := t.sq, slc := t.slc, jnl := t.jnl, kl := t.kl } ∧
              t.fu = { s.fu with spend := addSpend s.fu.spend f.card fare.capped } ∧
              t.hu = { s.hu with
                heard := heard, owned := s.hu.owned.filter fun x => decide (x.fields.serial ≠ f.serial),
                settled := (if s.hu.settled.length < 32 then s.hu.settled else s.hu.settled.drop 1) ++
                  [{ hire := id, bike := b, card := f.card, start := f.start, terms := f.terms, classTerms := f.classTerms,
                     ending := some (n.origin, endTime), outcome := fare.outcome }] } ∧
              (∃ r kept, t.sq.queue = kept ++ [r] ∧ (s.sq.queue.length < 64 → kept = s.sq.queue) ∧ r.fields.seq = s.sq.seq ∧
                r.fields.body =
                  .charge id f.card f.cls b f.start endTime n.origin fare.minutes f.band fare.amount fare.flags) ∧
              Slot.owned o.slot ∈ t.jnl.writeList ∧
              t.slc = (s.flood (.hireSettled id b n.origin endTime fare.outcome)).slc) ∧
            ((∀ o ∈ s.hu.owned, ¬ held o) →
              (∀ before e rest, s.hu.settled = before ++ e :: rest → overdue e → (∀ x ∈ rest, ¬ overdue x) →
                (s.du.bikes.map (·.bike)).Nodup →
                  let fare := priceHire (question e.terms e.classTerms e.start true false e.card)
                  let settled := before ++ { e with ending := some (n.origin, endTime), outcome := .late } :: rest
                  let told := s.flood (.hireSettled e.hire b n.origin endTime .late)
                  let barred := ∃ x ∈ settled, x.card = e.card ∧ x.outcome = .overdue ∧ x.ending = none
                  t = { s with du := t.du, bu := t.bu, hu := t.hu, sq := t.sq, slc := t.slc, jnl := t.jnl, kl := t.kl } ∧
                  (∀ x ∈ t.du.bikes, x.bike = b → x.missing = none) ∧
                  (s.sq.queue.length < s.noteLimit → ∃ r, t.sq.queue = s.sq.queue ++ [r] ∧
                    r.fields.body = .lateReturn e.hire e.card b n.origin endTime fare.amount) ∧
                  (s.noteLimit ≤ s.sq.queue.length → t.sq = { s.sq with drops := min 65535 (s.sq.drops + 1) }) ∧
                  (barred → t.hu = { s.hu with heard := heard, settled := settled } ∧ t.slc = told.slc) ∧
                  (¬ barred →
                    t.hu = { s.hu with
                      heard := heard, settled := settled,
                      holds := s.hu.holds.filter fun h => !(decide (h.card = e.card) && decide (h.reason = .overdue)) } ∧
                    t.slc = (told.flood (.cardLift e.card (some .overdue))).slc)) ∧
              ((∀ e ∈ s.hu.settled, ¬ overdue e) → t = forgotten)))))) ∧
    (∀ hire b endNode endTime outcome, n.body = .hireSettled hire b endNode endTime outcome →
      (s.isVan = true → t = s) ∧
      (s.isVan = false →
        t = { s with
          du := t.du, bu := t.bu,
          hu := { s.hu with
            heard := s.hu.heard.filter fun e => decide (e.hire ≠ hire),
            pendingClose := s.hu.pendingClose.filter fun p =>
              !(decide (endNode = s.node) && decide (p.bike = b) && decide (p.endTime = endTime)) } } ∧
        (outcome ≠ .late → t.du = s.du ∧ t.bu = s.bu) ∧
        (outcome = .late → (s.du.bikes.map (·.bike)).Nodup →
          (∀ e ∈ t.du.bikes, e.bike = b → e.missing = none) ∧ ∀ e, e.bike ≠ b → (e ∈ t.du.bikes ↔ e ∈ s.du.bikes))))

/-- A card tap taken by a configured post. A refusal is stored and shown RED for 3 s, the dock staying as it is; a grant releases the bike
for the member, with UNLOCK placed; a card record out of range is no answer. A BIKE_OUT then opens the member's hire from the tariff in
force, marks its slot, floods HIRE OPEN and counts one out, and the dock is EMPTY again with LOCK placed. Of a release to the van of the
session it collects the bike instead: it joins the collected list, a counted take is charged to the allowance, the OPEN entries of a
quarantined bike are COLLECTED, TAKE DONE goes to the van, and the session in CLOSING ends with its last take. From HOLDING, FAULTED or
DISABLED it is a forced removal: the bike is quarantined at severity 3 and missing from now. From EMPTY it is nothing. That an open leaves
an earlier hire of a bike recorded at two docks beside its own is the model's choice, assumption log 69. That the post's answer empties
both command slots whatever was placed in them since the poll is the model's inference, assumption log 17, and that a silent post's answer
to an EVENT poll is taken, its silence over and its dock's state as it is, is its choice, assumption log 51. -/
def Obligations.MembersTakeBikes : Prop :=
  ∀ (s : State) (d : Nat), s.busRuns = true → 1 ≤ d → d ≤ s.sup.image.dockCount → s.sup.image.dockCount ≤ 24 →
    s.du.polled = some (d, .event) →
      let k := s.dock d
      let others (t : State) : Prop := ∀ n, n ≠ d → t.dock n = s.dock n
      (∀ a, cardRecordOf a = none → exec (.card d a) s = .next { s with du := { s.du with polled := none } }) ∧
      (∀ a c r, cardRecordOf a = some c → s.checkout d c = some r → ∃ t, exec (.card d a) s = .next t ∧
        t = { s with du := t.du } ∧ others t ∧ (t.dock d).state = k.state ∧ (t.dock d).bike = k.bike ∧
        (t.dock d).release = k.release ∧ (t.dock d).lastRefusal = some r ∧
        (t.dock d).transient = some { lamp := .red, start := s.timebase } ∧ (t.dock d).lampSlot = some .red) ∧
      (∀ a c, cardRecordOf a = some c → s.checkout d c = none → ∃ t, exec (.card d a) s = .next t ∧
        t = { s with du := t.du, bu := t.bu } ∧ others t ∧ (t.dock d).state = .releasing ∧ (t.dock d).bike = k.bike ∧
        (t.dock d).release = some { purpose := .member, card := some c, start := s.timebase } ∧
        (t.dock d).lastRefusal = none ∧ (t.dock d).transient = none ∧ (t.dock d).lockSlot = some .unlock) ∧
      (∀ c x start, k.state = .releasing → k.release = some { purpose := .member, card := some c, start := start } →
        k.bike = some x → ∃ t slot, exec (.bikeOut d) s = .next t ∧
          t = { s with du := t.du, bu := t.bu, hu := t.hu, slc := t.slc, jnl := t.jnl } ∧ others t ∧
          (t.dock d).state = .empty ∧ (t.dock d).bike = none ∧ (t.dock d).release = none ∧ (t.dock d).untaken = 0 ∧
          (t.dock d).window = none ∧ (t.dock d).lockSlot = some .lock ∧
          t.hu = { s.hu with
            hireSerial := (s.hu.hireSerial + 1) % 65536,
            owned := s.hu.owned ++
              [{ fields :=
                   { serial := s.hu.hireSerial, card := c.card, cls := c.cls, bike := x.bike, dock := d, start := s.now,
                     band := s.clk.band, terms := s.fu.bandTerms s.clk.band,
                     classTerms := (s.fu.classTerms c.cls).snapshot, stepped := false },
                 durable := false, slot := slot }] } ∧
          s.jnl.Marked t.jnl [.counters, .owned slot] ∧
          t.slc = (s.flood (.hireOpen { node := s.node, serial := s.hu.hireSerial } c.card c.cls x.bike s.now d)).slc ∧
          ∀ bin rest, s.bu.ring = bin :: rest → t.bu.ring = { bin with outs := min 65535 (bin.outs + 1) } :: rest) ∧
      (∀ card x start ss before f rest, k.state = .releasing →
        k.release = some { purpose := .van, card := card, start := start } → k.bike = some x → s.bu.session = some ss →
        ss.inFlight = before ++ f :: rest → f.dock = d → (∀ y ∈ before, y.dock ≠ d) →
          let done : Session := { ss with
            collected := if x.bike ∈ ss.collected then ss.collected else ss.collected ++ [x.bike],
            allowance := if f.counted then ss.allowance - 1 else ss.allowance,
            inFlight := before ++ rest, idleStart := s.timebase }
          let body : SummaryBody :=
            { allowanceAtOpen := ss.allowanceAtOpen, allowanceUsed := ss.allowanceAtOpen - done.allowance,
              collected := done.collected, delivered := ss.delivered, undelivered := ss.expected }
          let quarantined : Bool := s.du.bikes.any fun e => decide (e.bike = x.bike) && e.quarantine.isSome
          let last := ss.closing = true ∧ before ++ rest = []
          ∃ t, exec (.bikeOut d) s = .next t ∧
            t = { s with du := t.du, bu := t.bu, flt := t.flt, slc := t.slc, jnl := t.jnl, sq := t.sq, kl := t.kl } ∧ others t ∧
            (t.dock d).state = .empty ∧ (t.dock d).bike = none ∧ (t.dock d).release = none ∧ (t.dock d).untaken = 0 ∧
            (t.dock d).window = none ∧ (t.dock d).lockSlot = some .lock ∧ t.du.bikes = s.du.bikes ∧ t.bu.ring = s.bu.ring ∧
            t.flt = { s.flt with log := s.flt.log.map fun e =>
              if quarantined ∧ e.subject = .bike x.bike ∧ e.state = .opened then { e with state := .collected } else e } ∧
            let told := s.originate (.takeDone f.request d (some x.bike) (!f.counted)) ss.van
            (¬ last → t.bu.session = some done ∧ t.bu.claims = s.bu.claims ∧ t.slc = told.slc ∧ t.sq = s.sq ∧ t.kl = s.kl ∧
              s.jnl.Marked t.jnl [.counters]) ∧
            (last → t.bu.session = none ∧ t.bu.summary = some { van := ss.van, body := body } ∧
              t.bu.claims = s.bu.claims.filter (fun c => decide (c.id.node ≠ ss.van)) ∧
              t.slc = (told.originate (.sessionSummary body) ss.van).slc)) ∧
      (∀ x, k.state = .holding ∨ k.state = .faulted ∨ k.state = .disabled → k.bike = some x →
        ∃ t, exec (.bikeOut d) s = .next t ∧ t.hu = s.hu ∧ t.fu = s.fu ∧ t.clk = s.clk ∧ t.sup = s.sup ∧
          t.timebase = s.timebase ∧ t.draws = s.draws ∧ t.pending = s.pending ∧
          (t.dock d).state = (if k.state = .holding then .empty else k.state) ∧ (t.dock d).bike = none ∧
          (t.dock d).window = none ∧ (t.dock d).lockSlot = some .lock ∧ (∀ n, n ≠ d → (t.dock n).bike = (s.dock n).bike) ∧
          (∃ e ∈ t.du.bikes, e.bike = x.bike ∧ e.missing = some { owner := s.node, since := s.now } ∧
            ∃ q, e.quarantine = some q ∧ 3 ≤ q.severity) ∧
          (s.flt.log.length < 32 → ∃ e ∈ t.flt.log, e.subject = .bike x.bike ∧ e.kind = .forcedRemoval ∧ e.state ≠ .cleared ∧
            3 ≤ e.severity)) ∧
      (k.state = .empty → ∃ t, exec (.bikeOut d) s = .next t ∧ t = { s with du := t.du } ∧ others t ∧
        t.dock d = { k with lampSlot := none, lockSlot := none, silenceStart := s.timebase, silent := false, lastHeard := s.now })

/-- A BIKE_IN is taken in the dock's state once its post's answer is noted. At an EMPTY dock the bike is docked: HOLDING, with a return
window and the GREEN_FLASH, and its arrival handed on. A bike found recorded at another dock has left it: a release there is completed
first, any other dock there settles without it. Where another bike is recorded in HOLDING, or a release is in force, the BIKE_OUT comes
first and the BIKE_IN then finds the dock EMPTY. A FAULTED or DISABLED dock records the bike, hands its arrival on and keeps its state,
with no window and no transient. A report of the bike already recorded changes nothing, and nor does one at an OFFLINE dock. The arrival
ends an owned hire here, is a delivery, a late close, or a return. That a repeated pending close stands last, and that of two other docks
that record the bike the lowest is looked at, are the model's, assumption logs 12 and 56. That the post's answer empties both command
slots whatever was placed in them since the poll is the model's inference, assumption log 17, and that a silent post's answer to an EVENT
poll is taken, its silence over and its dock's state as it is, is its choice, assumption log 51. That an arrival at a FAULTED or DISABLED
dock leaves the bike recorded at any other dock is its inference, assumption log 20. -/
def Obligations.ArrivalsEndHires : Prop :=
  ∀ (s : State) (d : Nat) (b : Bike), 1 ≤ d → d ≤ 24 → 1 ≤ b → b ≤ 16777215 → (s.du.bikes.map (·.bike)).Nodup →
    let k := s.dock d
    let t := s.bikeArrives d b
    let records (n : Nat) : Prop := (s.dock n).bike.map (·.bike) = some b
    let docked (card : Option Card) : Prop :=
      (t.dock d).state = .holding ∧ (t.dock d).bike = some { bike := b, time := s.now } ∧
      (t.dock d).window = some { start := s.timebase, card := card, taken := false } ∧
      (t.dock d).transient = some { lamp := .greenFlash, start := s.timebase }
    let stays (n : Nat) : Prop := (t.dock n).bike = (s.dock n).bike ∧ (t.dock n).state = (s.dock n).state
    (s.busRuns = true → d ≤ s.sup.image.dockCount → s.du.polled = some (d, .event) →
      let answered : Dock :=
        { k with lampSlot := none, lockSlot := none, silenceStart := s.timebase, silent := false, lastHeard := s.now }
      let noted : State := { s with du := Du.setDock { s.du with polled := none } d answered }
      exec (.bikeIn d b) s = .next (noted.bikeArrives d b) ∧
      (∀ x, k.state = .holding ∨ k.state = .releasing → k.bike = some x → x.bike ≠ b → ∃ m, exec (.bikeOut d) s = .next m ∧
        (m.dock d).state = .empty ∧ exec (.bikeIn d b) s = .next (m.bikeArrives d b))) ∧
    (k.state = .empty →
      ((∀ n, n ≠ d → ¬ records n) → ∃ card, docked card ∧ s.ArrivalTaken t d b card ∧ ∀ n, n ≠ d → stays n) ∧
      (∀ n, n ≠ d → records n → (∀ m, m < n → m ≠ d → ¬ records m) →
        let other := s.dock n
        ((t.dock n).bike = none ∧ (t.dock n).window = none ∧ ∀ m, m ≠ d → m ≠ n → stays m) ∧
        (other.state ≠ .releasing → ∃ card, docked card ∧ s.ArrivalTaken t d b card ∧
          (t.dock n).state = if other.hostDisabled then .disabled else if other.faultMark then .faulted
            else if other.silent then .offline else .empty) ∧
        (other.state = .releasing → s.busRuns = true → n ≤ s.sup.image.dockCount → ∃ u card,
          exec (.bikeOut n) { s with du := { s.du with polled := some (n, .event) } } = .next u ∧
          docked card ∧ u.ArrivalTaken t d b card ∧ (t.dock n).state = .empty ∧ (t.dock n).release = none ∧
          (t.dock n).lockSlot = some .lock))) ∧
    (k.state = .faulted ∨ k.state = .disabled → ¬ records d → ∃ card, s.ArrivalTaken t d b card ∧
      (t.dock d).state = k.state ∧ (t.dock d).bike = some { bike := b, time := s.now } ∧ (t.dock d).window = none ∧
      (t.dock d).transient = k.transient ∧ ∀ n, n ≠ d → stays n) ∧
    (k.state ≠ .empty → records d → t = s) ∧
    (k.state = .offline → t = s)

/-! ### Rebalancing (Chapter 7) -/

/-- In a station the need score is computed from the target fill, the dock counts and the ring as R126 tables it; in a van it is not. -/
def Obligations.NeedScoreIsFormedAsTabled : Prop :=
  ∀ s : State,
    let t := s.recomputeNeed
    let trend : Int := (s.bu.ring.map fun b => (b.outs : Int)).sum - (s.bu.ring.map fun b => (b.ins : Int)).sum
    let projected : Int := s.countA - trend
    let raw : Int := max (-32) (min 32 (s.sup.image.targetFill - projected))
    let space : Int := max 0 (s.countW - s.countA - s.countQd)
    let total (action : ClaimAction) : Int :=
      ((s.bu.claims.filter fun c => decide (c.action = action)).map fun c => (c.granted : Int)).sum
    (s.isVan = true → t = s) ∧
    (s.isVan = false →
      t = { s with bu := { s.bu with
        rawNeed := t.bu.rawNeed, wantDeliver := t.bu.wantDeliver, wantCollect := t.bu.wantCollect,
        published := t.bu.published } } ∧
      t.bu.rawNeed = raw ∧
      (t.bu.wantDeliver : Int) = (if 0 < raw then min raw space else 0) ∧
      (t.bu.wantCollect : Int) = (if raw < 0 then min (-raw) s.countA else 0) ∧
      t.bu.published = max (-32) (min 32 (raw - total .deliver + total .collect)))

/-- A CLAIM notice is answered by the first of the cases of R128 that applies, in role VAN REFUSED_NOT_AVAILABLE (R145), and only one
granted or trimmed is listed, for its lifetime, the need being computed again; one from the van of the session restarts the session's idle
timer; and nothing else changes. A claim whose lifetime ends leaves the list, unless its van holds the session here. A session that is
OPEN with no take in flight ends when its idle timer reaches 15 minutes: the van is sent the summary, which is kept, a SESSION note is
posted, and the van's claims are consumed. That a timer's command moves the timebase to its deadline is the model's choice, assumption log
2. That the van of a notice is its origin node is the model's inference, assumption log 31. -/
def Obligations.ClaimsAndSessionsRunTheirCourse : Prop :=
  ∀ s : State,
    (∀ (n : Notice) (serial : Serial) (action : ClaimAction) (amount lifetime : Nat), 1 ≤ amount →
      n.body = .claim serial action amount lifetime →
        let id : Ident := { node := n.origin, serial := serial }
        let listed : Nat := ((s.bu.claims.filter fun c => decide (c.action = action)).map fun c => c.granted).sum
        let wanted := match action with
          | .deliver => s.bu.wantDeliver
          | .collect => s.bu.wantCollect
        let grant := min (wanted - listed) amount
        let touched : State := { s with bu := { s.bu with session := s.bu.session.map fun ss =>
          if ss.van = n.origin then { ss with idleStart := s.timebase } else ss } }
        let answers (u : State) (outcome : ClaimOutcome) (granted : Nat) : Prop :=
          s.deliver n = u.originate (.claimAnswer serial outcome granted) n.origin
        (s.isVan = true ∨ s.sup.start ≠ .run → answers s .refusedNotAvailable 0) ∧
        (s.isVan = false → s.sup.start = .run →
          (∀ before c rest, s.bu.claims = before ++ c :: rest → c.id = id → (∀ x ∈ before, x.id ≠ id) →
            answers touched c.outcome c.granted) ∧
          ((∀ c ∈ s.bu.claims, c.id ≠ id) →
            (4 ≤ s.bu.claims.length → answers touched .refusedFull 0) ∧
            (s.bu.claims.length < 4 → grant = 0 → answers touched .refusedNoNeed 0) ∧
            (s.bu.claims.length < 4 → 1 ≤ grant →
              let outcome := if grant < amount then .trimmed else .granted
              answers (State.recomputeNeed { touched with bu := { touched.bu with claims := s.bu.claims ++
                [{ id := id, action := action, granted := grant, outcome := outcome, lifetime := lifetime,
                   start := s.timebase }] } }) outcome grant)))) ∧
    (∀ before c rest, s.running = true → s.bu.claims = before ++ c :: rest → (∀ x ∈ s.bu.claims, x.id = c.id → x = c) →
      let later : State := { s with timebase := max s.timebase (c.start + c.lifetime * 60000) }
      ((∃ ss, s.bu.session = some ss ∧ ss.van = c.id.node) → exec (.claimExpiry c.id.node c.id.serial) s = .next later) ∧
      ((∀ ss, s.bu.session = some ss → ss.van ≠ c.id.node) → exec (.claimExpiry c.id.node c.id.serial) s =
        .next (State.recomputeNeed { later with bu := { s.bu with claims := s.bu.claims.filter fun x => decide (x.id ≠ c.id) } }))) ∧
    (∀ ss, s.running = true → s.bu.session = some ss → ss.closing = false → ss.inFlight = [] →
      let body : SummaryBody :=
        { allowanceAtOpen := ss.allowanceAtOpen, allowanceUsed := ss.allowanceAtOpen - ss.allowance, collected := ss.collected,
          delivered := ss.delivered, undelivered := ss.expected }
      ∃ t, exec .sessionIdleTimeout s = .next t ∧ t.timebase = max s.timebase (ss.idleStart + 900000) ∧
        t = { s with timebase := t.timebase, slc := t.slc, sq := t.sq, jnl := t.jnl, bu := t.bu, kl := t.kl } ∧
        t.slc = (State.originate { s with timebase := t.timebase } (.sessionSummary body) ss.van).slc ∧
        t.bu.session = none ∧ t.bu.summary = some { van := ss.van, body := body } ∧
        t.bu.claims = s.bu.claims.filter (fun c => decide (c.id.node ≠ ss.van)) ∧
        (s.sq.queue.length < s.noteLimit → ∃ r, t.sq.queue = s.sq.queue ++ [r] ∧
          r.fields.body = .session ss.van s.node ss.collected ss.delivered ss.expected))

/-- The notices a van addresses to a station. SESSION OPEN is answered by the first case of R129 that applies, and only the van's first
makes the session, with the sum of its COLLECT grants as the allowance. TAKE REQUEST is answered again from the recent takes, or by the
first check of R130 that fails, or is granted: the take is listed and the dock released for the van. DELIVERY NOTE adds its bikes to the
expected ones of the van's OPEN session, up to 24 with those delivered. SESSION CLOSE ends the van's session, at once when no take is in
flight, and is answered with the kept summary or NO_SESSION when it holds none. Outside role STATION in RUN a SESSION OPEN is answered
NOT_AVAILABLE. A station discards the notices addressed to vans. That a SESSION OPEN in CLOSING restarts the idle timer is the model's
inference, assumption log 40, and that a DELIVERY NOTE in CLOSING does not is its choice, assumption log 70. That the van of a notice is
its origin node is the model's inference, assumption log 31. -/
def Obligations.StationsAnswerVans : Prop :=
  ∀ (s : State) (n : Notice),
    let t := s.deliver n
    let van := n.origin
    let holding (ss : Session) (u : State) : State := { u with bu := { u.bu with session := some ss } }
    let touched (ss : Session) : Session := { ss with idleStart := s.timebase }
    (n.body = .sessionOpen →
      (s.isVan = true ∨ s.sup.start ≠ .run → t = s.originate (.sessionAnswer .notAvailable 0) van) ∧
      (s.isVan = false → s.sup.start = .run →
        (s.bu.session = none →
          let allowance := ((s.bu.claims.filter fun c => decide (c.action = .collect ∧ c.id.node = van)).map (·.granted)).sum
          t = State.originate { s with bu := { s.bu with
            session := some { van := van, closing := false, allowanceAtOpen := allowance, allowance := allowance, collected := [],
                              expected := [], delivered := [], inFlight := [], recent := [], idleStart := s.timebase },
            summary := none } } (.sessionAnswer .opened allowance) van) ∧
        (∀ ss, s.bu.session = some ss →
          (ss.van = van → ss.closing = false →
            t = State.originate (holding { touched ss with recent := [] } s) (.sessionAnswer .opened ss.allowance) van) ∧
          (ss.van = van → ss.closing = true → t = State.originate (holding (touched ss) s) (.sessionAnswer .busy 0) van) ∧
          (ss.van ≠ van → t = s.originate (.sessionAnswer .busy 0) van)))) ∧
    (∀ request d, n.body = .takeRequest request d → s.sup.image.dockCount ≤ 24 →
      ((∀ ss, s.bu.session = some ss → ss.van ≠ van) → t = s.originate (.takeAnswer request .refusedNoSession) van) ∧
      (∀ ss, s.bu.session = some ss → ss.van = van →
        (∀ before r rest, ss.recent = before ++ r :: rest → r.request = request → (∀ x ∈ before, x.request ≠ request) →
          t = State.originate (holding (touched ss) s) (.takeAnswer request r.answer) van) ∧
        ((∀ r ∈ ss.recent, r.request ≠ request) →
          let k := s.dock d
          let here := 1 ≤ d ∧ d ≤ s.sup.image.dockCount
          let quarantined : Bool := k.bike.any fun b => s.du.bikes.any fun e => decide (e.bike = b.bike) && e.quarantine.isSome
          let full := 24 ≤ ss.collected.length + ss.inFlight.length
          let spent := ss.allowance ≤ (ss.inFlight.filter (·.counted)).length
          let noted (o : TakeOutcome) : Session := { touched ss with
            recent := (if ss.recent.length < 8 then ss.recent else ss.recent.drop 1) ++ [{ request := request, dock := d, answer := o }] }
          let refused (o : TakeOutcome) : Prop := t = State.originate (holding (noted o) s) (.takeAnswer request o) van
          (ss.closing = true → t = State.originate (holding (touched ss) s) (.takeAnswer request .refusedNoSession) van) ∧
          (ss.closing = false →
            (here → k.state = .releasing → refused .refusedBusy) ∧
            (¬ here ∨ k.state ≠ .releasing ∧ k.state ≠ .holding → refused .refusedEmpty) ∧
            (here → k.state = .holding →
              (full → refused .refusedSessionFull) ∧
              (¬ full → quarantined = false → spent → refused .refusedAllowance) ∧
              (¬ full → quarantined = true ∨ ¬ spent → ∃ u : State,
                t = u.originate (.takeAnswer request .granted) van ∧ u = { s with du := u.du, bu := u.bu } ∧
                u.bu.session = some { noted .granted with
                  inFlight := ss.inFlight ++ [{ dock := d, request := request, counted := !quarantined }] } ∧
                u.bu.claims = s.bu.claims ∧ u.bu.ring = s.bu.ring ∧ u.du.bikes = s.du.bikes ∧
                (u.dock d).state = .releasing ∧ (u.dock d).bike = k.bike ∧ (u.dock d).lockSlot = some .unlock ∧
                (u.dock d).release = some { purpose := .van, card := none, start := s.timebase } ∧
                (u.dock d).transient = none ∧ ∀ m, m ≠ d → u.dock m = s.dock m)))))) ∧
    (∀ bikes, n.body = .deliveryNote bikes →
      ((∀ ss, s.bu.session = some ss → ss.van = van → ss.closing = true) → t = s) ∧
      (∀ ss, s.bu.session = some ss → ss.van = van → ss.closing = false →
        let expected := bikes.foldl
          (fun l b => if b ∈ l ∨ 24 ≤ l.length + ss.delivered.length then l else l ++ [b]) ss.expected
        t = holding { touched ss with expected := expected } s)) ∧
    (n.body = .sessionClose →
      (∀ ss, s.bu.session = some ss → ss.van = van →
        (ss.inFlight ≠ [] → t = holding { touched ss with closing := true } s) ∧
        (ss.inFlight = [] →
          let body : SummaryBody :=
            { allowanceAtOpen := ss.allowanceAtOpen, allowanceUsed := ss.allowanceAtOpen - ss.allowance,
              collected := ss.collected, delivered := ss.delivered, undelivered := ss.expected }
          t = { s with slc := t.slc, sq := t.sq, jnl := t.jnl, bu := t.bu, kl := t.kl } ∧
          t.slc = (s.originate (.sessionSummary body) van).slc ∧
          t.bu.session = none ∧ t.bu.summary = some { van := van, body := body } ∧ t.bu.ring = s.bu.ring ∧
          t.bu.claims = s.bu.claims.filter (fun c => decide (c.id.node ≠ van)) ∧
          (s.sq.queue.length < s.noteLimit → ∃ r, t.sq.queue = s.sq.queue ++ [r] ∧
            r.fields.body = .session van s.node ss.collected ss.delivered ss.expected))) ∧
      ((∀ ss, s.bu.session = some ss → ss.van ≠ van) →
        (∀ k, s.bu.summary = some k → k.van = van → t = s.originate (.sessionSummary k.body) van) ∧
        ((∀ k, s.bu.summary = some k → k.van ≠ van) → t = s.originate (.sessionAnswer .noSession 0) van))) ∧
    (s.isVan = false →
      (∀ serial outcome granted, n.body = .claimAnswer serial outcome granted → t = s) ∧
      (∀ outcome allowance, n.body = .sessionAnswer outcome allowance → t = s) ∧
      (∀ request outcome, n.body = .takeAnswer request outcome → t = s) ∧
      (∀ request d bike quarantined, n.body = .takeDone request d bike quarantined → t = s) ∧
      (∀ m, n.body = .sessionSummary m → t = s))

/-- The requests of a van's host. CLAIM lists a claim that waits for its answer and sends it to its station, and from a list of 4 the
oldest in a final state makes way; OPEN SESSION, CLOSE SESSION and ANNOUNCE DELIVERY send their notices, and the first two wait for their
answers; TAKE sends a TAKE REQUEST under the next request serial while the load has room; UNLOAD takes a bike off the load list. A field
out of range is refused, and so is a request that the van session does not allow. Every notice to the station of an OPEN session restarts
its idle timer. That a session in OPENING holds the allowance 0, and a claim that waits the amount granted 0, are the model's choices,
assumption logs 54 and 67. That a CLAIM to that station restarts it like any other notice is the model's inference, assumption log 43. -/
def Obligations.VanRequestsSendTheirNotices : Prop :=
  ∀ s : State,
    let now := s.timebase
    let refused (i : Instr) (status : Status) : Prop := exec i s = .next { s with kl := s.kl.answered status [] }
    let other (n : Node) : Prop := 1 ≤ n ∧ n ≤ 4095 ∧ n ≠ s.node
    (∀ station action amount lifetime, s.Takes (.claim station action amount lifetime) →
      let i : Instr := .claim station action amount lifetime
      let inRange := other station ∧ action < 2 ∧ 1 ≤ amount ∧ amount ≤ 24 ∧ 5 ≤ lifetime ∧ lifetime ≤ 90
      let final (c : VanClaim) : Bool := decide (c.state ∈ [.refused, .lapsed, .expired, .used])
      (¬ inRange → refused i .badValue) ∧
      (∀ a, inRange → claimActions[action]? = some a →
        (4 ≤ s.bu.ownClaims.length → (∀ c ∈ s.bu.ownClaims, final c = false) → refused i .full) ∧
        (∀ kept, (s.bu.ownClaims.length < 4 ∧ kept = s.bu.ownClaims ∨
            4 ≤ s.bu.ownClaims.length ∧ s.bu.ownClaims.any final = true ∧ kept = s.bu.ownClaims.eraseP final) →
          let body : NoticeBody := .claim s.bu.claimSerial a amount lifetime
          ∃ j, s.jnl.Marked j [.counters] ∧ exec i s = .next { s with
            bu := { s.bu with
              ownClaims := kept ++
                [{ serial := s.bu.claimSerial, station := station, action := a, amount := amount, lifetime := lifetime,
                   granted := 0, state := .waiting, refusal := none, tries := 1, lifeStart := now, answerStart := now }],
              claimSerial := (s.bu.claimSerial + 1) % 256,
              vanSession := s.bu.vanSession.map fun v =>
                if v.state = .opened ∧ v.station = station then { v with idleStart := now } else v },
            slc := (s.originate body station).slc, jnl := j,
            kl := s.kl.answered .ok (u16 s.node ++ u8 s.bu.claimSerial) }))) ∧
    (∀ station, s.Takes (.openSession station) →
      let i : Instr := .openSession station
      (¬ other station → refused i .badValue) ∧
      (other station → s.bu.vanSession ≠ none → refused i .busy) ∧
      (other station → s.bu.vanSession = none → ∃ j, s.jnl.Marked j [.counters] ∧ exec i s = .next { s with
        bu := { s.bu with
          vanSession := some { state := .opening, station := station, tries := 1, answerStart := now, allowance := 0,
                               inFlight := [], nextRequest := 0, idleStart := now } },
        slc := (s.originate .sessionOpen station).slc, jnl := j, kl := s.kl.answered .ok [] })) ∧
    (s.Takes .closeSession →
      ((∀ v, s.bu.vanSession = some v → v.state ≠ .opened) → refused .closeSession .notFound) ∧
      (∀ v, s.bu.vanSession = some v → v.state = .opened → ∃ j, s.jnl.Marked j [.counters] ∧ exec .closeSession s = .next { s with
        bu := { s.bu with vanSession := some { v with state := .closing, tries := 1, answerStart := now } },
        slc := (s.originate .sessionClose v.station).slc, jnl := j, kl := s.kl.answered .ok [] })) ∧
    (∀ bikes, s.Takes (.announceDelivery bikes) →
      let i : Instr := .announceDelivery bikes
      let inRange := 1 ≤ bikes.length ∧ bikes.length ≤ 8 ∧ ∀ b ∈ bikes, 1 ≤ b ∧ b ≤ 16777215
      (¬ inRange → refused i .badValue) ∧
      (inRange → (∀ v, s.bu.vanSession = some v → v.state ≠ .opened) → refused i .notFound) ∧
      (∀ v, inRange → s.bu.vanSession = some v → v.state = .opened → ∃ j, s.jnl.Marked j [.counters] ∧ exec i s = .next { s with
        bu := { s.bu with vanSession := some { v with idleStart := now } },
        slc := (s.originate (.deliveryNote bikes) v.station).slc, jnl := j, kl := s.kl.answered .ok [] })) ∧
    (∀ dock, s.Takes (.take dock) →
      let i : Instr := .take dock
      (dock = 0 ∨ 24 < dock → refused i .badValue) ∧
      (1 ≤ dock → dock ≤ 24 → (∀ v, s.bu.vanSession = some v → v.state ≠ .opened) → refused i .notFound) ∧
      (∀ v, 1 ≤ dock → dock ≤ 24 → s.bu.vanSession = some v → v.state = .opened →
        (30 ≤ s.bu.load.length + v.inFlight.length → refused i .vanFull) ∧
        (s.bu.load.length + v.inFlight.length < 30 → ∃ j, s.jnl.Marked j [.counters] ∧ exec i s = .next { s with
          bu := { s.bu with vanSession := some { v with
            inFlight := v.inFlight ++
              [{ request := v.nextRequest, dock := dock, state := .asked, tries := 1, timerStart := now }],
            nextRequest := (v.nextRequest + 1) % 256, idleStart := now } },
          slc := (s.originate (.takeRequest v.nextRequest dock) v.station).slc, jnl := j,
          kl := s.kl.answered .ok (u8 v.nextRequest) }))) ∧
    (∀ bike, s.Takes (.unload bike) →
      (bike = 0 ∨ 16777215 < bike → refused (.unload bike) .badValue) ∧
      (1 ≤ bike → bike ≤ 16777215 → (∀ l ∈ s.bu.load, l.bike ≠ bike) → refused (.unload bike) .notFound) ∧
      (1 ≤ bike → bike ≤ 16777215 → (∃ l ∈ s.bu.load, l.bike = bike) → exec (.unload bike) s = .next { s with
        bu := { s.bu with load := s.bu.load.filter fun l => decide (l.bike ≠ bike) }, kl := s.kl.answered .ok [] }))

/-- The van's timers. An answer that does not come in 10 s, or 2 s for a take, has its notice sent again up to three sends; then the claim
is LAPSED, the session given up or the take ended, and VAN raised. A granted claim expires at its lifetime unless its station's session is
held; a take granted but not done in 30 s ends; and an OPEN session idle for 15 minutes ends, its station's granted claims USED. That a
timer's command moves the timebase to its deadline is the model's choice, assumption log 2. That a repeated CLAIM restarts the idle timer
like any other notice to the session's station is its inference, assumption log 43; that the idle timer ends no session in CLOSING, of
which nothing is stated here, is its choice, assumption log 72. -/
def Obligations.VanTimersRetryThenGiveUp : Prop :=
  ∀ s : State, s.running = true →
    let raised : Kl := { s.kl with raised := { s.kl.raised with van := true } }
    let ended (station : Node) : Bu := { s.bu with
      vanSession := none,
      ownClaims := s.bu.ownClaims.map fun c =>
        if c.station = station ∧ (c.state = .granted ∨ c.state = .trimmed) then { c with state := .used } else c }
    (∀ before c rest, s.bu.ownClaims = before ++ c :: rest → c.state = .waiting →
      (∀ x ∈ before, ¬ (x.serial = c.serial ∧ x.state = .waiting)) →
        let now := max s.timebase (c.answerStart + 10000)
        let later : State := { s with timebase := now }
        (c.tries < 3 → ∃ j, s.jnl.Marked j [.counters] ∧ exec (.claimAnswerTimeout c.serial) s = .next { later with
          bu := { s.bu with
            ownClaims := before ++ { c with tries := c.tries + 1, answerStart := now } :: rest,
            vanSession := s.bu.vanSession.map fun v =>
              if v.state = .opened ∧ v.station = c.station then { v with idleStart := now } else v },
          slc := (later.originate (.claim c.serial c.action c.amount c.lifetime) c.station).slc, jnl := j }) ∧
        (3 ≤ c.tries → exec (.claimAnswerTimeout c.serial) s = .next { later with
          bu := { s.bu with ownClaims := before ++ { c with state := .lapsed } :: rest }, kl := raised })) ∧
    (∀ before c rest, s.bu.ownClaims = before ++ c :: rest → (c.state = .granted ∨ c.state = .trimmed) →
      (∀ x ∈ before, ¬ (x.serial = c.serial ∧ (x.state = .granted ∨ x.state = .trimmed))) →
        let later : State := { s with timebase := max s.timebase (c.lifeStart + c.lifetime * 60000) }
        let served := ∃ v, s.bu.vanSession = some v ∧ v.station = c.station ∧ v.state ≠ .opening
        (served → exec (.vanClaimExpiry c.serial) s = .next later) ∧
        (¬ served → exec (.vanClaimExpiry c.serial) s = .next { later with
          bu := { s.bu with ownClaims := before ++ { c with state := .expired } :: rest } })) ∧
    (∀ v, s.bu.vanSession = some v → v.state ≠ .opened →
      let now := max s.timebase (v.answerStart + 10000)
      let later : State := { s with timebase := now }
      let body : NoticeBody := if v.state = .opening then .sessionOpen else .sessionClose
      (v.tries < 3 → ∃ j, s.jnl.Marked j [.counters] ∧ exec .sessionAnswerTimeout s = .next { later with
        bu := { s.bu with vanSession := some { v with tries := v.tries + 1, answerStart := now } },
        slc := (later.originate body v.station).slc, jnl := j }) ∧
      (3 ≤ v.tries → v.state = .opening → exec .sessionAnswerTimeout s = .next { later with
        bu := { s.bu with vanSession := none }, kl := raised }) ∧
      (3 ≤ v.tries → v.state = .closing → exec .sessionAnswerTimeout s = .next { later with bu := ended v.station, kl := raised })) ∧
    (∀ v, s.bu.vanSession = some v → v.state = .opened → exec .vanSessionIdleTimeout s = .next { s with
      timebase := max s.timebase (v.idleStart + 900000), bu := ended v.station, kl := raised }) ∧
    (∀ v before k rest, s.bu.vanSession = some v → v.inFlight = before ++ k :: rest →
      (∀ x ∈ before, ¬ (x.request = k.request ∧ x.state = k.state)) →
        let given : Bu := { s.bu with
          vanSession := some { v with inFlight := before ++ rest }, lastTake := some .noAnswer }
        (k.state = .asked →
          let now := max s.timebase (k.timerStart + 2000)
          let later : State := { s with timebase := now }
          (k.tries < 3 → ∃ j, s.jnl.Marked j [.counters] ∧ exec (.takeAnswerTimeout k.request) s = .next { later with
            bu := { s.bu with vanSession := some { v with
              inFlight := before ++ { k with tries := k.tries + 1, timerStart := now } :: rest,
              idleStart := if v.state = .opened then now else v.idleStart } },
            slc := (later.originate (.takeRequest k.request k.dock) v.station).slc, jnl := j }) ∧
          (3 ≤ k.tries → exec (.takeAnswerTimeout k.request) s = .next { later with bu := given, kl := raised })) ∧
        (k.state = .granted → exec (.takeCompletionTimeout k.request) s = .next { s with
          timebase := max s.timebase (k.timerStart + 30000), bu := given, kl := raised }))

/-- The notices a station addresses to a van. A CLAIM ANSWER gives a waiting claim its outcome and stops its timer. A SESSION ANSWER from
the session's station opens it or ends it. A TAKE ANSWER moves an asked take to GRANTED, or ends it with the refusal kept; one of
NO_SESSION in OPEN ends the session. A TAKE DONE ends its take and loads the bike it carries; one that a full load list has no room for
is told in a SESSION note. A SESSION SUMMARY from the station of an OPEN or CLOSING session reconciles the load list and ends the session.
The end of a session makes its station's grants USED. Each but a TAKE ANSWER of GRANTED raises VAN. What does not meet its conditions
changes nothing. That a TAKE ANSWER of NO_SESSION ends the session only where its request is asked, that a NO_SESSION in OPENING changes
nothing, that the kept summary goes when the session opens, that a CLAIM ANSWER is matched by its identity alone, and that a TAKE DONE
whose take is no longer in flight keeps the last take outcome, are the model's inferences, assumption logs 28, 29, 30, 31 and 37; and that
a summary's collected bikes are added before its delivered ones are removed is its choice, assumption log 68. -/
def Obligations.VansTakeTheirStationsAnswers : Prop :=
  ∀ (s : State) (n : Notice), s.isVan = true →
    let t := s.deliver n
    let raised : Kl := { s.kl with raised := { s.kl.raised with van := true } }
    let ended : Bu := { s.bu with
      vanSession := none,
      ownClaims := s.bu.ownClaims.map fun c =>
        if c.station = n.origin ∧ (c.state = .granted ∨ c.state = .trimmed) then { c with state := .used } else c }
    let refusedNote (b : Bike) : RecordBody := .session s.node n.origin [b] [] []
    let listed (l : List LoadedBike) (b : Bike) : Bool := l.any fun x => decide (x.bike = b)
    (∀ serial outcome granted, n.body = .claimAnswer serial outcome granted →
      (∀ before c rest, s.bu.ownClaims = before ++ c :: rest → c.serial = serial → c.state = .waiting →
        (∀ x ∈ before, ¬ (x.serial = serial ∧ x.state = .waiting)) →
          let told : VanClaim := match outcome with
            | .granted => { c with state := .granted, granted := granted }
            | .trimmed => { c with state := .trimmed, granted := granted }
            | .refusedNoNeed | .refusedFull | .refusedNotAvailable =>
              { c with state := .refused, refusal := some outcome, granted := 0 }
          t = { s with bu := { s.bu with ownClaims := before ++ told :: rest }, kl := raised }) ∧
      ((∀ c ∈ s.bu.ownClaims, ¬ (c.serial = serial ∧ c.state = .waiting)) → t = s)) ∧
    (∀ outcome allowance, n.body = .sessionAnswer outcome allowance →
      (∀ v, s.bu.vanSession = some v → v.station = n.origin →
        (v.state = .opening → outcome = .opened → t = { s with
          bu := { s.bu with
            vanSession := some { v with
              state := .opened, allowance := allowance, nextRequest := 0, inFlight := [], idleStart := s.timebase },
            vanSummary := none },
          kl := raised }) ∧
        (v.state = .opening → outcome = .busy ∨ outcome = .notAvailable →
          t = { s with bu := { s.bu with vanSession := none }, kl := raised }) ∧
        (v.state = .closing → outcome = .noSession → t = { s with bu := ended, kl := raised }) ∧
        (v.state = .opened ∨ v.state = .opening ∧ outcome = .noSession ∨ v.state = .closing ∧ outcome ≠ .noSession → t = s)) ∧
      ((∀ v, s.bu.vanSession = some v → v.station ≠ n.origin) → t = s)) ∧
    (∀ request outcome, n.body = .takeAnswer request outcome →
      (∀ v before k rest, s.bu.vanSession = some v → v.station = n.origin → v.inFlight = before ++ k :: rest →
        k.request = request → k.state = .asked → (∀ x ∈ before, ¬ (x.request = request ∧ x.state = .asked)) →
          (outcome = .granted → t = { s with bu := { s.bu with vanSession := some { v with
            inFlight := before ++ { k with state := .granted, timerStart := s.timebase } :: rest } } }) ∧
          (outcome = .refusedNoSession → v.state = .opened → t = { s with bu := ended, kl := raised }) ∧
          (outcome ≠ .granted → outcome ≠ .refusedNoSession ∨ v.state ≠ .opened → t = { s with
            bu := { s.bu with
              vanSession := some { v with inFlight := before ++ rest }, lastTake := some (.answered outcome) },
            kl := raised })) ∧
      ((∀ v, s.bu.vanSession = some v → v.station = n.origin → ∀ k ∈ v.inFlight, ¬ (k.request = request ∧ k.state = .asked)) →
        t = s)) ∧
    (∀ request d bike quarantined, n.body = .takeDone request d bike quarantined →
      ((∀ v, s.bu.vanSession = some v → v.station ≠ n.origin) → t = s) ∧
      (∀ v bu, s.bu.vanSession = some v → v.station = n.origin →
        ((∀ k ∈ v.inFlight, k.request ≠ request) ∧ bu = s.bu ∨
          ∃ before k rest, v.inFlight = before ++ k :: rest ∧ k.request = request ∧ (∀ x ∈ before, x.request ≠ request) ∧
            bu = { s.bu with
              vanSession := some { v with inFlight := before ++ rest },
              lastTake := some (if bike = none then .lapsed else .answered .granted) }) →
          let done : State := { s with bu := bu, kl := raised }
          (bike = none → t = done) ∧
          (∀ b, bike = some b →
            (listed s.bu.load b = true → t = done) ∧
            (listed s.bu.load b = false → s.bu.load.length < 30 → t = { done with bu := { bu with
              load := s.bu.load ++ [{ bike := b, station := n.origin, quarantined := quarantined, time := s.now }] } }) ∧
            (listed s.bu.load b = false → 30 ≤ s.bu.load.length → t = done.postNote (refusedNote b))))) ∧
    (∀ m, n.body = .sessionSummary m →
      ((∀ v, s.bu.vanSession = some v → v.station = n.origin → v.state = .opening) → t = s) ∧
      (∀ v, s.bu.vanSession = some v → v.station = n.origin → v.state ≠ .opening →
        let loaded := m.collected.foldl
          (fun l b =>
            if listed l b ∨ 30 ≤ l.length then l
            else l ++ [{ bike := b, station := n.origin,
                         quarantined := s.du.bikes.any fun e => decide (e.bike = b) && e.quarantine.isSome, time := s.now }])
          s.bu.load
        t = { s with bu := t.bu, sq := t.sq, jnl := t.jnl, kl := t.kl } ∧
        t.bu = { ended with load := loaded.filter fun l => decide (l.bike ∉ m.delivered), vanSummary := some m } ∧
        t.kl.raised.van = true ∧
        (s.bu.load.length + m.collected.length ≤ 30 → t.sq = s.sq ∧ t.jnl = s.jnl ∧ t.kl = raised) ∧
        (30 ≤ s.bu.load.length → s.sq.queue.length + m.collected.length ≤ s.noteLimit →
          t.sq.queue.map (·.fields.body) = s.sq.queue.map (·.fields.body) ++
            (m.collected.filter fun b => !listed s.bu.load b).map refusedNote)))

/-! ### What every step keeps -/

/-- No step takes the clock's values out of their ranges. -/
def Obligations.StepsKeepTheClockInRange : Prop :=
  ∀ s t : State, s.ClockBounded → step s = .next t → t.ClockBounded

/-- No step takes a collection or the need score out of its bounds: the street link's collections; the tables and lists of the other
blocks, a service session's among them; and the law of R71, by which the money slots in use, the owned hires and the member releases are
at most 64, the last two at most 48, and the settlement queue holds at most 64 records. Nor does a step put twice what a collection holds
once: an identity in the seen list, a node in the neighbour table, a bike in the bike status list, the load list and each list of a
session, a hire or a bike in the heard hire table, a bike and end time in the pending-close list, a card in the day spend table, a claim
in the claim list, and a pair of card and reason in the hold list. (One owned record per bike and per serial, and one take in flight per
dock, have their own premises and their own statements.) Before REPLAY is complete no hire is owned and no taken record waits. The
completion of REPLAY keeps the law of R71 where the store it reads fits it, as the steps of a station's run keep it fitting, which is a
statement of its own too. -/
def Obligations.StepsKeepTheCollectionsBounded : Prop :=
  ∀ s t : State, s.LinkBounded → s.TablesBounded → s.NeedBounded → s.HiresBounded →
    (s.pending.head? = some .replayComplete → s.StoreFits) → step s = .next t →
      t.LinkBounded ∧ t.TablesBounded ∧ t.NeedBounded ∧ t.HiresBounded

/-- No step breaks the form of the store, or marks, writes or gives out a slot that does not exist. -/
def Obligations.StepsKeepTheStoreFormed : Prop :=
  ∀ s t : State, s.StoreFormed → step s = .next t → t.StoreFormed

/-- No step leaves a request in progress that is not answered in the part's role and start state, or WORKING without one: a request is
tested before it is taken, the start state only goes on towards RUN while one is in progress, and a start clears the link. -/
def Obligations.StepsKeepRequestsAdmitted : Prop :=
  ∀ s t : State, s.RequestAdmitted → step s = .next t → t.RequestAdmitted

/-- No step takes the dock table out of its form: a release in force at every RELEASING dock and at no other, with the card pending of a
member's; a bike recorded in HOLDING and RELEASING, none in EMPTY; no member release for a quarantined bike; and one take in flight for
each release to the van. Where no bike is recorded at two docks, a step leaves each owned hire with a bike of its own, and none that a
dock here records: so a bike in a HOLDING dock is never in an owned record, and an open finds no earlier one. That the rules do not keep a
bike at one dock, and what two releases of one bike then open, are the model's, assumption logs 20 and 69. -/
def Obligations.StepsKeepDocksAndHiresApart : Prop :=
  ∀ s t : State, s.DocksFormed → step s = .next t → t.DocksFormed ∧ (s.DockedOnce → s.HiresApart → t.HiresApart)

/-- At a station whose store is not damaged, every step keeps the store such that REPLAY can rebuild lists within their bounds from it,
whenever the power fails: the stored money records and the stored hires that none of them names stay at most 64 together, and what the
store holds keeps its place in the part's lists. The premises set aside what the rules allow beside it: a read-back that disagrees twice,
after which the store holds what no rule says (assumption log 5); a hire serial that wraps onto a hire still told of; a start under
another node number; and, at the completion of REPLAY, two stored hires of one bike, one of which R89 drops. -/
def Obligations.StepsKeepTheStoreReplayable : Prop :=
  ∀ s t : State, s.isVan = false → s.StoreFormed → s.HiresBounded → s.StoreFits → s.StoreFollows →
    (s.awake = true → s.NextSerialsFree) →
    (s.pending.head? = some .replayComplete → (s.unbilled.map (·.bike)).Nodup) →
    (∀ w, s.pending.head? = some (.journalWriteEnd false) → s.jnl.wip = some w → w.again = false) →
    step s = .next t → t.node = s.node → t.StoreFits ∧ t.StoreFollows

/-- The machine right after reset meets every bound and form that the steps keep. Of the values that the manual gives no reset value for,
the bounds hold of the model's choices, assumption logs 7 and 8. -/
def Obligations.ResetMeetsEveryBound : Prop :=
  State.reset.ClockBounded ∧ State.reset.LinkBounded ∧ State.reset.TablesBounded ∧ State.reset.NeedBounded ∧
    State.reset.HiresBounded ∧ State.reset.RequestAdmitted ∧ State.reset.DocksFormed ∧ State.reset.DockedOnce ∧
    State.reset.HiresApart ∧ State.reset.StoreFits ∧ State.reset.StoreFollows ∧ State.reset.StoreFormed
end

