-- ==== Sys2Proof/Laws/Bytes.lean ====
section
/-!
SUPPORT. What the byte layouts of R184 give back: a number written in n bytes is read as itself, and a field is found behind the
fields that stand before it; and what the bytes of a kiosk transfer are (R162, R163, R186).
-/
namespace Sys2Proof.Machine

@[simp] theorem beBytes_length (n v : Nat) : (beBytes n v).length = n := by
  induction n with
  | zero => rfl
  | succ n ih => simp [beBytes, ih]

theorem beValue_append (a b : List Byte) : beValue (a ++ b) = beValue a * 256 ^ b.length + beValue b := by
  have key : ∀ (l : List Byte) (acc : Nat),
      l.foldl (fun acc b => acc * 256 + b.toNat) acc = acc * 256 ^ l.length + l.foldl (fun acc b => acc * 256 + b.toNat) 0 := by
    intro l
    induction l with
    | nil => simp
    | cons x l ih =>
      intro acc
      rw [List.foldl_cons, ih, List.foldl_cons, ih (0 * 256 + x.toNat), List.length_cons, pow_succ]
      ring
  unfold beValue
  rw [List.foldl_append, key]

theorem beValue_cons (x : Byte) (l : List Byte) : beValue (x :: l) = x.toNat * 256 ^ l.length + beValue l := by
  have := beValue_append [x] l
  simpa [beValue] using this

/-- A number written in n bytes is read back modulo 256 ^ n. -/
theorem beValue_beBytes (n v : Nat) : beValue (beBytes n v) = v % 256 ^ n := by
  induction n generalizing v with
  | zero => simp [beBytes, beValue, Nat.mod_one]
  | succ n ih =>
    have split : v % (256 ^ n * 256) = v % 256 ^ n + 256 ^ n * (v / 256 ^ n % 256) := Nat.mod_mul
    have digit : (BitVec.ofNat 8 (v / 256 ^ n)).toNat = v / 256 ^ n % 256 := by simp
    rw [beBytes, beValue_cons, ih, beBytes_length, digit, pow_succ, split, Nat.add_comm, Nat.mul_comm]

theorem fieldAt_here (n v : Nat) (rest : List Byte) : fieldAt (beBytes n v ++ rest) 0 n = v % 256 ^ n := by
  simp [fieldAt, beValue_beBytes]

theorem fieldAt_whole (n v : Nat) : fieldAt (beBytes n v) 0 n = v % 256 ^ n := by
  simpa using fieldAt_here n v []

theorem fieldAt_skip (a rest : List Byte) (off len : Nat) (h : a.length ≤ off) :
    fieldAt (a ++ rest) off len = fieldAt rest (off - a.length) len := by
  simp [fieldAt, List.drop_append, List.drop_eq_nil_of_le h]

theorem fieldAt_beyond (n v off len : Nat) (rest : List Byte) (h : n ≤ off) :
    fieldAt (beBytes n v ++ rest) off len = fieldAt rest (off - n) len := by
  simpa using fieldAt_skip (beBytes n v) rest off len (by simpa using h)

@[simp] theorem bikesBytes_length (bikes : List Bike) : (bikesBytes bikes).length = 3 * bikes.length := by
  induction bikes with
  | nil => rfl
  | cons b l ih => simp only [bikesBytes, List.flatMap_cons, List.length_append, u24, beBytes_length, List.length_cons] at ih ⊢; omega

theorem bikesAt_skip (a rest : List Byte) (off n : Nat) (h : a.length ≤ off) :
    bikesAt (a ++ rest) off n = bikesAt rest (off - a.length) n := by
  induction n generalizing off with
  | zero => rfl
  | succ n ih =>
    rw [bikesAt, bikesAt, fieldAt_skip a rest off 3 h, ih (off + 3) (by omega), Nat.sub_add_comm h]

/-- A list of bikes in 3 bytes each is read back. -/
theorem bikesAt_bikesBytes (bikes : List Bike) (rest : List Byte) (h : ∀ b ∈ bikes, b < 256 ^ 3) :
    bikesAt (bikesBytes bikes ++ rest) 0 bikes.length = bikes := by
  induction bikes with
  | nil => rfl
  | cons b l ih =>
    have hb : b % 256 ^ 3 = b := Nat.mod_eq_of_lt (h b (by simp))
    have split : bikesBytes (b :: l) ++ rest = beBytes 3 b ++ (bikesBytes l ++ rest) := by simp [bikesBytes, u24]
    rw [split, List.length_cons, bikesAt, fieldAt_here, hb, bikesAt_skip _ _ _ _ (by simp)]
    simpa using ih fun x hx => h x (by simp [hx])

/-! ### Transfers on the kiosk link -/

/-- A whole request frame behind 0xC1 is a send, with the bytes clocked after it counted (R163, R186). -/
theorem transferOf_send (code check : Byte) (body clocked : List Byte) (h : body.length ≤ 255) :
    transferOf (0xC1 :: ((code :: BitVec.ofNat 8 body.length :: (body ++ [check])) ++ clocked)) =
      .send code body check clocked.length := by
  have : (BitVec.ofNat 8 body.length).toNat = body.length := by simp; omega
  simp [transferOf, sendOf, this]

/-- Bytes behind 0xC1 that do not reach the check byte of the frame they begin are a send cut off (R163). -/
theorem transferOf_cut (received : List Byte)
    (h : ∀ code length rest, received = code :: length :: rest → rest.length ≤ length.toNat) :
    transferOf (0xC1 :: received) = .cut := by
  match received with
  | [] => rfl
  | [_] => rfl
  | code :: length :: rest => simp [transferOf, sendOf, List.drop_eq_nil_of_le (h code length rest rfl)]

/-- Bytes behind 0xC2 are a fetch (R162, R186). -/
@[simp] theorem transferOf_fetch (clocked : List Byte) : transferOf (0xC2 :: clocked) = .fetch clocked.length := rfl

/-- A first byte that names neither a send nor a fetch has its transfer ignored (R186). -/
theorem transferOf_ignored (first : Byte) (rest : List Byte) (hs : first ≠ 0xC1) (hf : first ≠ 0xC2) :
    transferOf (first :: rest) = .ignored := by
  rw [transferOf, if_neg hs, if_neg hf]

end Sys2Proof.Machine
end

