-- ==== Sys2Proof/Laws/State.lean ====
section
/-!
SUPPORT. One lemma per field per update of State, so that no later proof unfolds a record update.
-/
namespace Sys2Proof.Machine

@[simp] theorem State.setClk_clk (s : State) (b) : (s.setClk b).clk = b := rfl
@[simp] theorem State.setClk_slc (s : State) (b) : (s.setClk b).slc = s.slc := rfl
@[simp] theorem State.setClk_du (s : State) (b) : (s.setClk b).du = s.du := rfl
@[simp] theorem State.setClk_hu (s : State) (b) : (s.setClk b).hu = s.hu := rfl
@[simp] theorem State.setClk_fu (s : State) (b) : (s.setClk b).fu = s.fu := rfl
@[simp] theorem State.setClk_flt (s : State) (b) : (s.setClk b).flt = s.flt := rfl
@[simp] theorem State.setClk_bu (s : State) (b) : (s.setClk b).bu = s.bu := rfl
@[simp] theorem State.setClk_sq (s : State) (b) : (s.setClk b).sq = s.sq := rfl
@[simp] theorem State.setClk_jnl (s : State) (b) : (s.setClk b).jnl = s.jnl := rfl
@[simp] theorem State.setClk_kl (s : State) (b) : (s.setClk b).kl = s.kl := rfl
@[simp] theorem State.setClk_sup (s : State) (b) : (s.setClk b).sup = s.sup := rfl
@[simp] theorem State.setClk_timebase (s : State) (b) : (s.setClk b).timebase = s.timebase := rfl
@[simp] theorem State.setClk_draws (s : State) (b) : (s.setClk b).draws = s.draws := rfl
@[simp] theorem State.setClk_pending (s : State) (b) : (s.setClk b).pending = s.pending := rfl
@[simp] theorem State.setClk_self (s : State) : s.setClk s.clk = s := rfl
@[simp] theorem State.setClk_setClk (s : State) (a b) : (s.setClk a).setClk b = s.setClk b := rfl

@[simp] theorem State.setSlc_clk (s : State) (b) : (s.setSlc b).clk = s.clk := rfl
@[simp] theorem State.setSlc_slc (s : State) (b) : (s.setSlc b).slc = b := rfl
@[simp] theorem State.setSlc_du (s : State) (b) : (s.setSlc b).du = s.du := rfl
@[simp] theorem State.setSlc_hu (s : State) (b) : (s.setSlc b).hu = s.hu := rfl
@[simp] theorem State.setSlc_fu (s : State) (b) : (s.setSlc b).fu = s.fu := rfl
@[simp] theorem State.setSlc_flt (s : State) (b) : (s.setSlc b).flt = s.flt := rfl
@[simp] theorem State.setSlc_bu (s : State) (b) : (s.setSlc b).bu = s.bu := rfl
@[simp] theorem State.setSlc_sq (s : State) (b) : (s.setSlc b).sq = s.sq := rfl
@[simp] theorem State.setSlc_jnl (s : State) (b) : (s.setSlc b).jnl = s.jnl := rfl
@[simp] theorem State.setSlc_kl (s : State) (b) : (s.setSlc b).kl = s.kl := rfl
@[simp] theorem State.setSlc_sup (s : State) (b) : (s.setSlc b).sup = s.sup := rfl
@[simp] theorem State.setSlc_timebase (s : State) (b) : (s.setSlc b).timebase = s.timebase := rfl
@[simp] theorem State.setSlc_draws (s : State) (b) : (s.setSlc b).draws = s.draws := rfl
@[simp] theorem State.setSlc_pending (s : State) (b) : (s.setSlc b).pending = s.pending := rfl
@[simp] theorem State.setSlc_self (s : State) : s.setSlc s.slc = s := rfl
@[simp] theorem State.setSlc_setSlc (s : State) (a b) : (s.setSlc a).setSlc b = s.setSlc b := rfl

@[simp] theorem State.setDu_clk (s : State) (b) : (s.setDu b).clk = s.clk := rfl
@[simp] theorem State.setDu_slc (s : State) (b) : (s.setDu b).slc = s.slc := rfl
@[simp] theorem State.setDu_du (s : State) (b) : (s.setDu b).du = b := rfl
@[simp] theorem State.setDu_hu (s : State) (b) : (s.setDu b).hu = s.hu := rfl
@[simp] theorem State.setDu_fu (s : State) (b) : (s.setDu b).fu = s.fu := rfl
@[simp] theorem State.setDu_flt (s : State) (b) : (s.setDu b).flt = s.flt := rfl
@[simp] theorem State.setDu_bu (s : State) (b) : (s.setDu b).bu = s.bu := rfl
@[simp] theorem State.setDu_sq (s : State) (b) : (s.setDu b).sq = s.sq := rfl
@[simp] theorem State.setDu_jnl (s : State) (b) : (s.setDu b).jnl = s.jnl := rfl
@[simp] theorem State.setDu_kl (s : State) (b) : (s.setDu b).kl = s.kl := rfl
@[simp] theorem State.setDu_sup (s : State) (b) : (s.setDu b).sup = s.sup := rfl
@[simp] theorem State.setDu_timebase (s : State) (b) : (s.setDu b).timebase = s.timebase := rfl
@[simp] theorem State.setDu_draws (s : State) (b) : (s.setDu b).draws = s.draws := rfl
@[simp] theorem State.setDu_pending (s : State) (b) : (s.setDu b).pending = s.pending := rfl
@[simp] theorem State.setDu_self (s : State) : s.setDu s.du = s := rfl
@[simp] theorem State.setDu_setDu (s : State) (a b) : (s.setDu a).setDu b = s.setDu b := rfl

@[simp] theorem State.setHu_clk (s : State) (b) : (s.setHu b).clk = s.clk := rfl
@[simp] theorem State.setHu_slc (s : State) (b) : (s.setHu b).slc = s.slc := rfl
@[simp] theorem State.setHu_du (s : State) (b) : (s.setHu b).du = s.du := rfl
@[simp] theorem State.setHu_hu (s : State) (b) : (s.setHu b).hu = b := rfl
@[simp] theorem State.setHu_fu (s : State) (b) : (s.setHu b).fu = s.fu := rfl
@[simp] theorem State.setHu_flt (s : State) (b) : (s.setHu b).flt = s.flt := rfl
@[simp] theorem State.setHu_bu (s : State) (b) : (s.setHu b).bu = s.bu := rfl
@[simp] theorem State.setHu_sq (s : State) (b) : (s.setHu b).sq = s.sq := rfl
@[simp] theorem State.setHu_jnl (s : State) (b) : (s.setHu b).jnl = s.jnl := rfl
@[simp] theorem State.setHu_kl (s : State) (b) : (s.setHu b).kl = s.kl := rfl
@[simp] theorem State.setHu_sup (s : State) (b) : (s.setHu b).sup = s.sup := rfl
@[simp] theorem State.setHu_timebase (s : State) (b) : (s.setHu b).timebase = s.timebase := rfl
@[simp] theorem State.setHu_draws (s : State) (b) : (s.setHu b).draws = s.draws := rfl
@[simp] theorem State.setHu_pending (s : State) (b) : (s.setHu b).pending = s.pending := rfl
@[simp] theorem State.setHu_self (s : State) : s.setHu s.hu = s := rfl
@[simp] theorem State.setHu_setHu (s : State) (a b) : (s.setHu a).setHu b = s.setHu b := rfl

@[simp] theorem State.setFu_clk (s : State) (b) : (s.setFu b).clk = s.clk := rfl
@[simp] theorem State.setFu_slc (s : State) (b) : (s.setFu b).slc = s.slc := rfl
@[simp] theorem State.setFu_du (s : State) (b) : (s.setFu b).du = s.du := rfl
@[simp] theorem State.setFu_hu (s : State) (b) : (s.setFu b).hu = s.hu := rfl
@[simp] theorem State.setFu_fu (s : State) (b) : (s.setFu b).fu = b := rfl
@[simp] theorem State.setFu_flt (s : State) (b) : (s.setFu b).flt = s.flt := rfl
@[simp] theorem State.setFu_bu (s : State) (b) : (s.setFu b).bu = s.bu := rfl
@[simp] theorem State.setFu_sq (s : State) (b) : (s.setFu b).sq = s.sq := rfl
@[simp] theorem State.setFu_jnl (s : State) (b) : (s.setFu b).jnl = s.jnl := rfl
@[simp] theorem State.setFu_kl (s : State) (b) : (s.setFu b).kl = s.kl := rfl
@[simp] theorem State.setFu_sup (s : State) (b) : (s.setFu b).sup = s.sup := rfl
@[simp] theorem State.setFu_timebase (s : State) (b) : (s.setFu b).timebase = s.timebase := rfl
@[simp] theorem State.setFu_draws (s : State) (b) : (s.setFu b).draws = s.draws := rfl
@[simp] theorem State.setFu_pending (s : State) (b) : (s.setFu b).pending = s.pending := rfl
@[simp] theorem State.setFu_self (s : State) : s.setFu s.fu = s := rfl
@[simp] theorem State.setFu_setFu (s : State) (a b) : (s.setFu a).setFu b = s.setFu b := rfl

@[simp] theorem State.setFlt_clk (s : State) (b) : (s.setFlt b).clk = s.clk := rfl
@[simp] theorem State.setFlt_slc (s : State) (b) : (s.setFlt b).slc = s.slc := rfl
@[simp] theorem State.setFlt_du (s : State) (b) : (s.setFlt b).du = s.du := rfl
@[simp] theorem State.setFlt_hu (s : State) (b) : (s.setFlt b).hu = s.hu := rfl
@[simp] theorem State.setFlt_fu (s : State) (b) : (s.setFlt b).fu = s.fu := rfl
@[simp] theorem State.setFlt_flt (s : State) (b) : (s.setFlt b).flt = b := rfl
@[simp] theorem State.setFlt_bu (s : State) (b) : (s.setFlt b).bu = s.bu := rfl
@[simp] theorem State.setFlt_sq (s : State) (b) : (s.setFlt b).sq = s.sq := rfl
@[simp] theorem State.setFlt_jnl (s : State) (b) : (s.setFlt b).jnl = s.jnl := rfl
@[simp] theorem State.setFlt_kl (s : State) (b) : (s.setFlt b).kl = s.kl := rfl
@[simp] theorem State.setFlt_sup (s : State) (b) : (s.setFlt b).sup = s.sup := rfl
@[simp] theorem State.setFlt_timebase (s : State) (b) : (s.setFlt b).timebase = s.timebase := rfl
@[simp] theorem State.setFlt_draws (s : State) (b) : (s.setFlt b).draws = s.draws := rfl
@[simp] theorem State.setFlt_pending (s : State) (b) : (s.setFlt b).pending = s.pending := rfl
@[simp] theorem State.setFlt_self (s : State) : s.setFlt s.flt = s := rfl
@[simp] theorem State.setFlt_setFlt (s : State) (a b) : (s.setFlt a).setFlt b = s.setFlt b := rfl

@[simp] theorem State.setBu_clk (s : State) (b) : (s.setBu b).clk = s.clk := rfl
@[simp] theorem State.setBu_slc (s : State) (b) : (s.setBu b).slc = s.slc := rfl
@[simp] theorem State.setBu_du (s : State) (b) : (s.setBu b).du = s.du := rfl
@[simp] theorem State.setBu_hu (s : State) (b) : (s.setBu b).hu = s.hu := rfl
@[simp] theorem State.setBu_fu (s : State) (b) : (s.setBu b).fu = s.fu := rfl
@[simp] theorem State.setBu_flt (s : State) (b) : (s.setBu b).flt = s.flt := rfl
@[simp] theorem State.setBu_bu (s : State) (b) : (s.setBu b).bu = b := rfl
@[simp] theorem State.setBu_sq (s : State) (b) : (s.setBu b).sq = s.sq := rfl
@[simp] theorem State.setBu_jnl (s : State) (b) : (s.setBu b).jnl = s.jnl := rfl
@[simp] theorem State.setBu_kl (s : State) (b) : (s.setBu b).kl = s.kl := rfl
@[simp] theorem State.setBu_sup (s : State) (b) : (s.setBu b).sup = s.sup := rfl
@[simp] theorem State.setBu_timebase (s : State) (b) : (s.setBu b).timebase = s.timebase := rfl
@[simp] theorem State.setBu_draws (s : State) (b) : (s.setBu b).draws = s.draws := rfl
@[simp] theorem State.setBu_pending (s : State) (b) : (s.setBu b).pending = s.pending := rfl
@[simp] theorem State.setBu_self (s : State) : s.setBu s.bu = s := rfl
@[simp] theorem State.setBu_setBu (s : State) (a b) : (s.setBu a).setBu b = s.setBu b := rfl

@[simp] theorem State.setSq_clk (s : State) (b) : (s.setSq b).clk = s.clk := rfl
@[simp] theorem State.setSq_slc (s : State) (b) : (s.setSq b).slc = s.slc := rfl
@[simp] theorem State.setSq_du (s : State) (b) : (s.setSq b).du = s.du := rfl
@[simp] theorem State.setSq_hu (s : State) (b) : (s.setSq b).hu = s.hu := rfl
@[simp] theorem State.setSq_fu (s : State) (b) : (s.setSq b).fu = s.fu := rfl
@[simp] theorem State.setSq_flt (s : State) (b) : (s.setSq b).flt = s.flt := rfl
@[simp] theorem State.setSq_bu (s : State) (b) : (s.setSq b).bu = s.bu := rfl
@[simp] theorem State.setSq_sq (s : State) (b) : (s.setSq b).sq = b := rfl
@[simp] theorem State.setSq_jnl (s : State) (b) : (s.setSq b).jnl = s.jnl := rfl
@[simp] theorem State.setSq_kl (s : State) (b) : (s.setSq b).kl = s.kl := rfl
@[simp] theorem State.setSq_sup (s : State) (b) : (s.setSq b).sup = s.sup := rfl
@[simp] theorem State.setSq_timebase (s : State) (b) : (s.setSq b).timebase = s.timebase := rfl
@[simp] theorem State.setSq_draws (s : State) (b) : (s.setSq b).draws = s.draws := rfl
@[simp] theorem State.setSq_pending (s : State) (b) : (s.setSq b).pending = s.pending := rfl
@[simp] theorem State.setSq_self (s : State) : s.setSq s.sq = s := rfl
@[simp] theorem State.setSq_setSq (s : State) (a b) : (s.setSq a).setSq b = s.setSq b := rfl

@[simp] theorem State.setJnl_clk (s : State) (b) : (s.setJnl b).clk = s.clk := rfl
@[simp] theorem State.setJnl_slc (s : State) (b) : (s.setJnl b).slc = s.slc := rfl
@[simp] theorem State.setJnl_du (s : State) (b) : (s.setJnl b).du = s.du := rfl
@[simp] theorem State.setJnl_hu (s : State) (b) : (s.setJnl b).hu = s.hu := rfl
@[simp] theorem State.setJnl_fu (s : State) (b) : (s.setJnl b).fu = s.fu := rfl
@[simp] theorem State.setJnl_flt (s : State) (b) : (s.setJnl b).flt = s.flt := rfl
@[simp] theorem State.setJnl_bu (s : State) (b) : (s.setJnl b).bu = s.bu := rfl
@[simp] theorem State.setJnl_sq (s : State) (b) : (s.setJnl b).sq = s.sq := rfl
@[simp] theorem State.setJnl_jnl (s : State) (b) : (s.setJnl b).jnl = b := rfl
@[simp] theorem State.setJnl_kl (s : State) (b) : (s.setJnl b).kl = s.kl := rfl
@[simp] theorem State.setJnl_sup (s : State) (b) : (s.setJnl b).sup = s.sup := rfl
@[simp] theorem State.setJnl_timebase (s : State) (b) : (s.setJnl b).timebase = s.timebase := rfl
@[simp] theorem State.setJnl_draws (s : State) (b) : (s.setJnl b).draws = s.draws := rfl
@[simp] theorem State.setJnl_pending (s : State) (b) : (s.setJnl b).pending = s.pending := rfl
@[simp] theorem State.setJnl_self (s : State) : s.setJnl s.jnl = s := rfl
@[simp] theorem State.setJnl_setJnl (s : State) (a b) : (s.setJnl a).setJnl b = s.setJnl b := rfl

@[simp] theorem State.setKl_clk (s : State) (b) : (s.setKl b).clk = s.clk := rfl
@[simp] theorem State.setKl_slc (s : State) (b) : (s.setKl b).slc = s.slc := rfl
@[simp] theorem State.setKl_du (s : State) (b) : (s.setKl b).du = s.du := rfl
@[simp] theorem State.setKl_hu (s : State) (b) : (s.setKl b).hu = s.hu := rfl
@[simp] theorem State.setKl_fu (s : State) (b) : (s.setKl b).fu = s.fu := rfl
@[simp] theorem State.setKl_flt (s : State) (b) : (s.setKl b).flt = s.flt := rfl
@[simp] theorem State.setKl_bu (s : State) (b) : (s.setKl b).bu = s.bu := rfl
@[simp] theorem State.setKl_sq (s : State) (b) : (s.setKl b).sq = s.sq := rfl
@[simp] theorem State.setKl_jnl (s : State) (b) : (s.setKl b).jnl = s.jnl := rfl
@[simp] theorem State.setKl_kl (s : State) (b) : (s.setKl b).kl = b := rfl
@[simp] theorem State.setKl_sup (s : State) (b) : (s.setKl b).sup = s.sup := rfl
@[simp] theorem State.setKl_timebase (s : State) (b) : (s.setKl b).timebase = s.timebase := rfl
@[simp] theorem State.setKl_draws (s : State) (b) : (s.setKl b).draws = s.draws := rfl
@[simp] theorem State.setKl_pending (s : State) (b) : (s.setKl b).pending = s.pending := rfl
@[simp] theorem State.setKl_self (s : State) : s.setKl s.kl = s := rfl
@[simp] theorem State.setKl_setKl (s : State) (a b) : (s.setKl a).setKl b = s.setKl b := rfl

@[simp] theorem State.setSup_clk (s : State) (b) : (s.setSup b).clk = s.clk := rfl
@[simp] theorem State.setSup_slc (s : State) (b) : (s.setSup b).slc = s.slc := rfl
@[simp] theorem State.setSup_du (s : State) (b) : (s.setSup b).du = s.du := rfl
@[simp] theorem State.setSup_hu (s : State) (b) : (s.setSup b).hu = s.hu := rfl
@[simp] theorem State.setSup_fu (s : State) (b) : (s.setSup b).fu = s.fu := rfl
@[simp] theorem State.setSup_flt (s : State) (b) : (s.setSup b).flt = s.flt := rfl
@[simp] theorem State.setSup_bu (s : State) (b) : (s.setSup b).bu = s.bu := rfl
@[simp] theorem State.setSup_sq (s : State) (b) : (s.setSup b).sq = s.sq := rfl
@[simp] theorem State.setSup_jnl (s : State) (b) : (s.setSup b).jnl = s.jnl := rfl
@[simp] theorem State.setSup_kl (s : State) (b) : (s.setSup b).kl = s.kl := rfl
@[simp] theorem State.setSup_sup (s : State) (b) : (s.setSup b).sup = b := rfl
@[simp] theorem State.setSup_timebase (s : State) (b) : (s.setSup b).timebase = s.timebase := rfl
@[simp] theorem State.setSup_draws (s : State) (b) : (s.setSup b).draws = s.draws := rfl
@[simp] theorem State.setSup_pending (s : State) (b) : (s.setSup b).pending = s.pending := rfl
@[simp] theorem State.setSup_self (s : State) : s.setSup s.sup = s := rfl
@[simp] theorem State.setSup_setSup (s : State) (a b) : (s.setSup a).setSup b = s.setSup b := rfl

@[simp] theorem State.setTimebase_clk (s : State) (b) : (s.setTimebase b).clk = s.clk := rfl
@[simp] theorem State.setTimebase_slc (s : State) (b) : (s.setTimebase b).slc = s.slc := rfl
@[simp] theorem State.setTimebase_du (s : State) (b) : (s.setTimebase b).du = s.du := rfl
@[simp] theorem State.setTimebase_hu (s : State) (b) : (s.setTimebase b).hu = s.hu := rfl
@[simp] theorem State.setTimebase_fu (s : State) (b) : (s.setTimebase b).fu = s.fu := rfl
@[simp] theorem State.setTimebase_flt (s : State) (b) : (s.setTimebase b).flt = s.flt := rfl
@[simp] theorem State.setTimebase_bu (s : State) (b) : (s.setTimebase b).bu = s.bu := rfl
@[simp] theorem State.setTimebase_sq (s : State) (b) : (s.setTimebase b).sq = s.sq := rfl
@[simp] theorem State.setTimebase_jnl (s : State) (b) : (s.setTimebase b).jnl = s.jnl := rfl
@[simp] theorem State.setTimebase_kl (s : State) (b) : (s.setTimebase b).kl = s.kl := rfl
@[simp] theorem State.setTimebase_sup (s : State) (b) : (s.setTimebase b).sup = s.sup := rfl
@[simp] theorem State.setTimebase_timebase (s : State) (b) : (s.setTimebase b).timebase = b := rfl
@[simp] theorem State.setTimebase_draws (s : State) (b) : (s.setTimebase b).draws = s.draws := rfl
@[simp] theorem State.setTimebase_pending (s : State) (b) : (s.setTimebase b).pending = s.pending := rfl
@[simp] theorem State.setTimebase_self (s : State) : s.setTimebase s.timebase = s := rfl
@[simp] theorem State.setTimebase_setTimebase (s : State) (a b) : (s.setTimebase a).setTimebase b = s.setTimebase b := rfl

@[simp] theorem State.setDraws_clk (s : State) (b) : (s.setDraws b).clk = s.clk := rfl
@[simp] theorem State.setDraws_slc (s : State) (b) : (s.setDraws b).slc = s.slc := rfl
@[simp] theorem State.setDraws_du (s : State) (b) : (s.setDraws b).du = s.du := rfl
@[simp] theorem State.setDraws_hu (s : State) (b) : (s.setDraws b).hu = s.hu := rfl
@[simp] theorem State.setDraws_fu (s : State) (b) : (s.setDraws b).fu = s.fu := rfl
@[simp] theorem State.setDraws_flt (s : State) (b) : (s.setDraws b).flt = s.flt := rfl
@[simp] theorem State.setDraws_bu (s : State) (b) : (s.setDraws b).bu = s.bu := rfl
@[simp] theorem State.setDraws_sq (s : State) (b) : (s.setDraws b).sq = s.sq := rfl
@[simp] theorem State.setDraws_jnl (s : State) (b) : (s.setDraws b).jnl = s.jnl := rfl
@[simp] theorem State.setDraws_kl (s : State) (b) : (s.setDraws b).kl = s.kl := rfl
@[simp] theorem State.setDraws_sup (s : State) (b) : (s.setDraws b).sup = s.sup := rfl
@[simp] theorem State.setDraws_timebase (s : State) (b) : (s.setDraws b).timebase = s.timebase := rfl
@[simp] theorem State.setDraws_draws (s : State) (b) : (s.setDraws b).draws = b := rfl
@[simp] theorem State.setDraws_pending (s : State) (b) : (s.setDraws b).pending = s.pending := rfl
@[simp] theorem State.setDraws_self (s : State) : s.setDraws s.draws = s := rfl
@[simp] theorem State.setDraws_setDraws (s : State) (a b) : (s.setDraws a).setDraws b = s.setDraws b := rfl

@[simp] theorem State.setPending_clk (s : State) (b) : (s.setPending b).clk = s.clk := rfl
@[simp] theorem State.setPending_slc (s : State) (b) : (s.setPending b).slc = s.slc := rfl
@[simp] theorem State.setPending_du (s : State) (b) : (s.setPending b).du = s.du := rfl
@[simp] theorem State.setPending_hu (s : State) (b) : (s.setPending b).hu = s.hu := rfl
@[simp] theorem State.setPending_fu (s : State) (b) : (s.setPending b).fu = s.fu := rfl
@[simp] theorem State.setPending_flt (s : State) (b) : (s.setPending b).flt = s.flt := rfl
@[simp] theorem State.setPending_bu (s : State) (b) : (s.setPending b).bu = s.bu := rfl
@[simp] theorem State.setPending_sq (s : State) (b) : (s.setPending b).sq = s.sq := rfl
@[simp] theorem State.setPending_jnl (s : State) (b) : (s.setPending b).jnl = s.jnl := rfl
@[simp] theorem State.setPending_kl (s : State) (b) : (s.setPending b).kl = s.kl := rfl
@[simp] theorem State.setPending_sup (s : State) (b) : (s.setPending b).sup = s.sup := rfl
@[simp] theorem State.setPending_timebase (s : State) (b) : (s.setPending b).timebase = s.timebase := rfl
@[simp] theorem State.setPending_draws (s : State) (b) : (s.setPending b).draws = s.draws := rfl
@[simp] theorem State.setPending_pending (s : State) (b) : (s.setPending b).pending = b := rfl
@[simp] theorem State.setPending_self (s : State) : s.setPending s.pending = s := rfl
@[simp] theorem State.setPending_setPending (s : State) (a b) : (s.setPending a).setPending b = s.setPending b := rfl

/-- Two states whose blocks agree are equal. -/
theorem State.eq_of_blocks {s t : State} (h0 : s.clk = t.clk) (h1 : s.slc = t.slc) (h2 : s.du = t.du) (h3 : s.hu = t.hu)
    (h4 : s.fu = t.fu) (h5 : s.flt = t.flt) (h6 : s.bu = t.bu) (h7 : s.sq = t.sq) (h8 : s.jnl = t.jnl) (h9 : s.kl = t.kl)
    (h10 : s.sup = t.sup) (h11 : s.timebase = t.timebase) (h12 : s.draws = t.draws) (h13 : s.pending = t.pending) : s = t :=
    by
  cases s; cases t; simp_all

end Sys2Proof.Machine
end

