-- ==== Sys2Proof/Laws/Frames.lean ====
section
/-!
SUPPORT. What each shared operation leaves as it was: one lemma per operation and block of state that the operation does not
touch.
-/
namespace Sys2Proof.Machine

/-- A reading that each step of a fold keeps is kept by the fold. -/
theorem foldl_kept {α β γ : Type} (p : α → γ) (f : α → β → α) (h : ∀ a b, p (f a b) = p a) (l : List β) (a : α) :
    p (l.foldl f a) = p a := by
  induction l generalizing a with
  | nil => rfl
  | cons b l ih => rw [List.foldl_cons, ih, h]

@[simp] theorem State.mark_frame (s : State) (a) :
    (s.mark a).clk = s.clk ∧ (s.mark a).slc = s.slc ∧ (s.mark a).du = s.du ∧ (s.mark a).hu = s.hu ∧ (s.mark a).fu = s.fu ∧
    (s.mark a).flt = s.flt ∧ (s.mark a).bu = s.bu ∧ (s.mark a).sq = s.sq ∧ (s.mark a).kl = s.kl ∧ (s.mark a).sup = s.sup ∧
    (s.mark a).timebase = s.timebase ∧ (s.mark a).draws = s.draws ∧ (s.mark a).pending = s.pending := by
  and_intros <;> unfold State.mark <;> simp

@[simp] theorem State.putCause_frame (s : State) (a b) :
    (s.putCause a b).clk = s.clk ∧ (s.putCause a b).slc = s.slc ∧ (s.putCause a b).du = s.du ∧ (s.putCause a b).hu = s.hu
    ∧ (s.putCause a b).fu = s.fu ∧ (s.putCause a b).flt = s.flt ∧ (s.putCause a b).bu = s.bu ∧ (s.putCause a b).sq = s.sq
    ∧ (s.putCause a b).jnl = s.jnl ∧ (s.putCause a b).sup = s.sup ∧ (s.putCause a b).timebase = s.timebase ∧ (s.putCause a
    b).draws = s.draws ∧ (s.putCause a b).pending = s.pending := by
  and_intros <;> unfold State.putCause <;> (try dsimp only) <;> simp

@[simp] theorem State.raise_frame (s : State) (a) :
    (s.raise a).clk = s.clk ∧ (s.raise a).slc = s.slc ∧ (s.raise a).du = s.du ∧ (s.raise a).hu = s.hu ∧ (s.raise a).fu =
    s.fu ∧ (s.raise a).flt = s.flt ∧ (s.raise a).bu = s.bu ∧ (s.raise a).sq = s.sq ∧ (s.raise a).jnl = s.jnl ∧ (s.raise
    a).sup = s.sup ∧ (s.raise a).timebase = s.timebase ∧ (s.raise a).draws = s.draws ∧ (s.raise a).pending = s.pending := by
  and_intros <;> unfold State.raise <;> simp

@[simp] theorem State.reached_frame (s : State) (a) :
    (s.reached a).clk = s.clk ∧ (s.reached a).slc = s.slc ∧ (s.reached a).du = s.du ∧ (s.reached a).hu = s.hu ∧ (s.reached
    a).fu = s.fu ∧ (s.reached a).flt = s.flt ∧ (s.reached a).bu = s.bu ∧ (s.reached a).sq = s.sq ∧ (s.reached a).jnl =
    s.jnl ∧ (s.reached a).kl = s.kl ∧ (s.reached a).sup = s.sup ∧ (s.reached a).draws = s.draws ∧ (s.reached a).pending =
    s.pending := by
  and_intros <;> unfold State.reached <;> simp

@[simp] theorem State.drawn_frame (s : State) :
    (s.drawn).clk = s.clk ∧ (s.drawn).slc = s.slc ∧ (s.drawn).du = s.du ∧ (s.drawn).hu = s.hu ∧ (s.drawn).fu = s.fu ∧
    (s.drawn).flt = s.flt ∧ (s.drawn).bu = s.bu ∧ (s.drawn).sq = s.sq ∧ (s.drawn).jnl = s.jnl ∧ (s.drawn).kl = s.kl ∧
    (s.drawn).sup = s.sup ∧ (s.drawn).timebase = s.timebase ∧ (s.drawn).pending = s.pending := by
  and_intros <;> unfold State.drawn <;> simp

@[simp] theorem State.reselect_frame (s : State) :
    (s.reselect).clk = s.clk ∧ (s.reselect).du = s.du ∧ (s.reselect).hu = s.hu ∧ (s.reselect).fu = s.fu ∧ (s.reselect).flt
    = s.flt ∧ (s.reselect).bu = s.bu ∧ (s.reselect).sq = s.sq ∧ (s.reselect).jnl = s.jnl ∧ (s.reselect).kl = s.kl ∧
    (s.reselect).sup = s.sup ∧ (s.reselect).timebase = s.timebase ∧ (s.reselect).draws = s.draws ∧ (s.reselect).pending =
    s.pending := by
  and_intros <;> unfold State.reselect <;> (try dsimp only) <;> (repeat' split) <;> simp

@[simp] theorem State.enqueue_frame (s : State) (a b c) :
    (s.enqueue a b c).clk = s.clk ∧ (s.enqueue a b c).du = s.du ∧ (s.enqueue a b c).hu = s.hu ∧ (s.enqueue a b c).fu =
    s.fu ∧ (s.enqueue a b c).flt = s.flt ∧ (s.enqueue a b c).bu = s.bu ∧ (s.enqueue a b c).sq = s.sq ∧ (s.enqueue a b
    c).jnl = s.jnl ∧ (s.enqueue a b c).kl = s.kl ∧ (s.enqueue a b c).sup = s.sup ∧ (s.enqueue a b c).timebase = s.timebase
    ∧ (s.enqueue a b c).draws = s.draws ∧ (s.enqueue a b c).pending = s.pending := by
  and_intros <;> unfold State.enqueue <;> (try dsimp only) <;> (repeat' split) <;> simp

@[simp] theorem State.touchVanSession_frame (s : State) (a b) :
    (s.touchVanSession a b).clk = s.clk ∧ (s.touchVanSession a b).slc = s.slc ∧ (s.touchVanSession a b).du = s.du ∧
    (s.touchVanSession a b).hu = s.hu ∧ (s.touchVanSession a b).fu = s.fu ∧ (s.touchVanSession a b).flt = s.flt ∧
    (s.touchVanSession a b).sq = s.sq ∧ (s.touchVanSession a b).jnl = s.jnl ∧ (s.touchVanSession a b).kl = s.kl ∧
    (s.touchVanSession a b).sup = s.sup ∧ (s.touchVanSession a b).timebase = s.timebase ∧ (s.touchVanSession a b).draws =
    s.draws ∧ (s.touchVanSession a b).pending = s.pending := by
  and_intros <;> unfold State.touchVanSession <;> (try dsimp only) <;> (repeat' split) <;> simp

@[simp] theorem State.originate_frame (s : State) (a b) :
    (s.originate a b).clk = s.clk ∧ (s.originate a b).du = s.du ∧ (s.originate a b).hu = s.hu ∧ (s.originate a b).fu =
    s.fu ∧ (s.originate a b).flt = s.flt ∧ (s.originate a b).sq = s.sq ∧ (s.originate a b).kl = s.kl ∧ (s.originate a
    b).sup = s.sup ∧ (s.originate a b).timebase = s.timebase ∧ (s.originate a b).draws = s.draws ∧ (s.originate a
    b).pending = s.pending := by
  and_intros <;> unfold State.originate <;> (try dsimp only) <;> (repeat' split) <;> simp

@[simp] theorem State.flood_frame (s : State) (a) :
    (s.flood a).clk = s.clk ∧ (s.flood a).du = s.du ∧ (s.flood a).hu = s.hu ∧ (s.flood a).fu = s.fu ∧ (s.flood a).flt =
    s.flt ∧ (s.flood a).sq = s.sq ∧ (s.flood a).kl = s.kl ∧ (s.flood a).sup = s.sup ∧ (s.flood a).timebase = s.timebase ∧
    (s.flood a).draws = s.draws ∧ (s.flood a).pending = s.pending := by
  and_intros <;> unfold State.flood <;> simp

@[simp] theorem State.withdrawQuiet_frame (s : State) :
    (s.withdrawQuiet).clk = s.clk ∧ (s.withdrawQuiet).du = s.du ∧ (s.withdrawQuiet).hu = s.hu ∧ (s.withdrawQuiet).fu =
    s.fu ∧ (s.withdrawQuiet).flt = s.flt ∧ (s.withdrawQuiet).bu = s.bu ∧ (s.withdrawQuiet).sq = s.sq ∧
    (s.withdrawQuiet).jnl = s.jnl ∧ (s.withdrawQuiet).kl = s.kl ∧ (s.withdrawQuiet).sup = s.sup ∧
    (s.withdrawQuiet).timebase = s.timebase ∧ (s.withdrawQuiet).draws = s.draws ∧ (s.withdrawQuiet).pending = s.pending := by
  and_intros <;> unfold State.withdrawQuiet <;> (try dsimp only) <;> simp

@[simp] theorem State.relaysChanged_frame (s : State) (a) :
    (s.relaysChanged a).clk = s.clk ∧ (s.relaysChanged a).du = s.du ∧ (s.relaysChanged a).hu = s.hu ∧ (s.relaysChanged
    a).fu = s.fu ∧ (s.relaysChanged a).flt = s.flt ∧ (s.relaysChanged a).sq = s.sq ∧ (s.relaysChanged a).kl = s.kl ∧
    (s.relaysChanged a).sup = s.sup ∧ (s.relaysChanged a).timebase = s.timebase ∧ (s.relaysChanged a).draws = s.draws ∧
    (s.relaysChanged a).pending = s.pending := by
  and_intros <;> unfold State.relaysChanged <;> (try dsimp only) <;> (repeat' split) <;> simp

@[simp] theorem State.setRelays_frame (s : State) (a) :
    (s.setRelays a).clk = s.clk ∧ (s.setRelays a).du = s.du ∧ (s.setRelays a).hu = s.hu ∧ (s.setRelays a).fu = s.fu ∧
    (s.setRelays a).flt = s.flt ∧ (s.setRelays a).sq = s.sq ∧ (s.setRelays a).kl = s.kl ∧ (s.setRelays a).sup = s.sup ∧
    (s.setRelays a).timebase = s.timebase ∧ (s.setRelays a).draws = s.draws ∧ (s.setRelays a).pending = s.pending := by
  and_intros <;> unfold State.setRelays <;> (try dsimp only) <;> simp

@[simp] theorem State.evaluateSettlement_frame (s : State) :
    (s.evaluateSettlement).clk = s.clk ∧ (s.evaluateSettlement).slc = s.slc ∧ (s.evaluateSettlement).du = s.du ∧
    (s.evaluateSettlement).hu = s.hu ∧ (s.evaluateSettlement).fu = s.fu ∧ (s.evaluateSettlement).flt = s.flt ∧
    (s.evaluateSettlement).bu = s.bu ∧ (s.evaluateSettlement).sq = s.sq ∧ (s.evaluateSettlement).jnl = s.jnl ∧
    (s.evaluateSettlement).sup = s.sup ∧ (s.evaluateSettlement).timebase = s.timebase ∧ (s.evaluateSettlement).draws =
    s.draws ∧ (s.evaluateSettlement).pending = s.pending := by
  and_intros <;> unfold State.evaluateSettlement <;> (repeat' split) <;> simp

@[simp] theorem State.postNote_frame (s : State) (a) :
    (s.postNote a).clk = s.clk ∧ (s.postNote a).slc = s.slc ∧ (s.postNote a).du = s.du ∧ (s.postNote a).hu = s.hu ∧
    (s.postNote a).fu = s.fu ∧ (s.postNote a).flt = s.flt ∧ (s.postNote a).bu = s.bu ∧ (s.postNote a).sup = s.sup ∧
    (s.postNote a).timebase = s.timebase ∧ (s.postNote a).draws = s.draws ∧ (s.postNote a).pending = s.pending := by
  and_intros <;> unfold State.postNote <;> (try dsimp only) <;> (repeat' split) <;> simp

@[simp] theorem State.postMoney_frame (s : State) (a b) :
    (s.postMoney a b).clk = s.clk ∧ (s.postMoney a b).slc = s.slc ∧ (s.postMoney a b).du = s.du ∧ (s.postMoney a b).hu =
    s.hu ∧ (s.postMoney a b).fu = s.fu ∧ (s.postMoney a b).flt = s.flt ∧ (s.postMoney a b).bu = s.bu ∧ (s.postMoney a
    b).sup = s.sup ∧ (s.postMoney a b).timebase = s.timebase ∧ (s.postMoney a b).draws = s.draws ∧ (s.postMoney a
    b).pending = s.pending := by
  and_intros <;> unfold State.postMoney <;> (try dsimp only) <;> (repeat' split) <;> simp

@[simp] theorem State.recomputeNeed_frame (s : State) :
    (s.recomputeNeed).clk = s.clk ∧ (s.recomputeNeed).slc = s.slc ∧ (s.recomputeNeed).du = s.du ∧ (s.recomputeNeed).hu =
    s.hu ∧ (s.recomputeNeed).fu = s.fu ∧ (s.recomputeNeed).flt = s.flt ∧ (s.recomputeNeed).sq = s.sq ∧
    (s.recomputeNeed).jnl = s.jnl ∧ (s.recomputeNeed).kl = s.kl ∧ (s.recomputeNeed).sup = s.sup ∧
    (s.recomputeNeed).timebase = s.timebase ∧ (s.recomputeNeed).draws = s.draws ∧ (s.recomputeNeed).pending = s.pending := by
  and_intros <;> unfold State.recomputeNeed <;> (try dsimp only) <;> (repeat' split) <;> simp

@[simp] theorem State.countActivity_frame (s : State) (a) :
    (s.countActivity a).clk = s.clk ∧ (s.countActivity a).slc = s.slc ∧ (s.countActivity a).du = s.du ∧ (s.countActivity
    a).hu = s.hu ∧ (s.countActivity a).fu = s.fu ∧ (s.countActivity a).flt = s.flt ∧ (s.countActivity a).sq = s.sq ∧
    (s.countActivity a).jnl = s.jnl ∧ (s.countActivity a).kl = s.kl ∧ (s.countActivity a).sup = s.sup ∧ (s.countActivity
    a).timebase = s.timebase ∧ (s.countActivity a).draws = s.draws ∧ (s.countActivity a).pending = s.pending := by
  and_intros <;> unfold State.countActivity <;> (try dsimp only) <;> (repeat' split) <;> simp

@[simp] theorem State.setClaims_frame (s : State) (a) :
    (s.setClaims a).clk = s.clk ∧ (s.setClaims a).slc = s.slc ∧ (s.setClaims a).du = s.du ∧ (s.setClaims a).hu = s.hu ∧
    (s.setClaims a).fu = s.fu ∧ (s.setClaims a).flt = s.flt ∧ (s.setClaims a).sq = s.sq ∧ (s.setClaims a).jnl = s.jnl ∧
    (s.setClaims a).kl = s.kl ∧ (s.setClaims a).sup = s.sup ∧ (s.setClaims a).timebase = s.timebase ∧ (s.setClaims
    a).draws = s.draws ∧ (s.setClaims a).pending = s.pending := by
  and_intros <;> unfold State.setClaims <;> (try dsimp only) <;> simp

@[simp] theorem State.answer_frame (s : State) (a b) :
    (s.answer a b).clk = s.clk ∧ (s.answer a b).slc = s.slc ∧ (s.answer a b).du = s.du ∧ (s.answer a b).hu = s.hu ∧
    (s.answer a b).fu = s.fu ∧ (s.answer a b).flt = s.flt ∧ (s.answer a b).bu = s.bu ∧ (s.answer a b).sq = s.sq ∧
    (s.answer a b).jnl = s.jnl ∧ (s.answer a b).sup = s.sup ∧ (s.answer a b).timebase = s.timebase ∧ (s.answer a b).draws
    = s.draws ∧ (s.answer a b).pending = s.pending := by
  and_intros <;> unfold State.answer <;> (try dsimp only) <;> simp

@[simp] theorem State.reply_frame (s : State) (a) :
    (s.reply a).clk = s.clk ∧ (s.reply a).slc = s.slc ∧ (s.reply a).du = s.du ∧ (s.reply a).hu = s.hu ∧ (s.reply a).fu =
    s.fu ∧ (s.reply a).flt = s.flt ∧ (s.reply a).bu = s.bu ∧ (s.reply a).sq = s.sq ∧ (s.reply a).jnl = s.jnl ∧ (s.reply
    a).sup = s.sup ∧ (s.reply a).timebase = s.timebase ∧ (s.reply a).draws = s.draws ∧ (s.reply a).pending = s.pending := by
  and_intros <;> unfold State.reply <;> simp

@[simp] theorem State.putDock_frame (s : State) (a b) :
    (s.putDock a b).clk = s.clk ∧ (s.putDock a b).slc = s.slc ∧ (s.putDock a b).hu = s.hu ∧ (s.putDock a b).fu = s.fu ∧
    (s.putDock a b).flt = s.flt ∧ (s.putDock a b).bu = s.bu ∧ (s.putDock a b).sq = s.sq ∧ (s.putDock a b).jnl = s.jnl ∧
    (s.putDock a b).kl = s.kl ∧ (s.putDock a b).sup = s.sup ∧ (s.putDock a b).timebase = s.timebase ∧ (s.putDock a
    b).draws = s.draws ∧ (s.putDock a b).pending = s.pending := by
  and_intros <;> unfold State.putDock <;> simp

@[simp] theorem State.announced_frame (s : State) (a) :
    (s.announced a).clk = s.clk ∧ (s.announced a).slc = s.slc ∧ (s.announced a).du = s.du ∧ (s.announced a).hu = s.hu ∧
    (s.announced a).fu = s.fu ∧ (s.announced a).flt = s.flt ∧ (s.announced a).sq = s.sq ∧ (s.announced a).jnl = s.jnl ∧
    (s.announced a).kl = s.kl ∧ (s.announced a).sup = s.sup ∧ (s.announced a).timebase = s.timebase ∧ (s.announced
    a).draws = s.draws ∧ (s.announced a).pending = s.pending := by
  and_intros <;> unfold State.announced <;> (repeat' split) <;> simp

@[simp] theorem State.updateDock_frame (s : State) (a b) :
    (s.updateDock a b).clk = s.clk ∧ (s.updateDock a b).slc = s.slc ∧ (s.updateDock a b).hu = s.hu ∧ (s.updateDock a b).fu
    = s.fu ∧ (s.updateDock a b).flt = s.flt ∧ (s.updateDock a b).sq = s.sq ∧ (s.updateDock a b).jnl = s.jnl ∧
    (s.updateDock a b).kl = s.kl ∧ (s.updateDock a b).sup = s.sup ∧ (s.updateDock a b).timebase = s.timebase ∧
    (s.updateDock a b).draws = s.draws ∧ (s.updateDock a b).pending = s.pending := by
  and_intros <;> unfold State.updateDock <;> simp

@[simp] theorem State.setBikes_frame (s : State) (a b) :
    (s.setBikes a b).clk = s.clk ∧ (s.setBikes a b).slc = s.slc ∧ (s.setBikes a b).hu = s.hu ∧ (s.setBikes a b).fu = s.fu
    ∧ (s.setBikes a b).flt = s.flt ∧ (s.setBikes a b).sq = s.sq ∧ (s.setBikes a b).jnl = s.jnl ∧ (s.setBikes a b).kl =
    s.kl ∧ (s.setBikes a b).sup = s.sup ∧ (s.setBikes a b).timebase = s.timebase ∧ (s.setBikes a b).draws = s.draws ∧
    (s.setBikes a b).pending = s.pending := by
  and_intros <;> unfold State.setBikes <;> (try dsimp only) <;> simp

@[simp] theorem State.release_frame (s : State) (a b c) :
    (s.release a b c).clk = s.clk ∧ (s.release a b c).slc = s.slc ∧ (s.release a b c).hu = s.hu ∧ (s.release a b c).fu =
    s.fu ∧ (s.release a b c).flt = s.flt ∧ (s.release a b c).sq = s.sq ∧ (s.release a b c).jnl = s.jnl ∧ (s.release a b
    c).kl = s.kl ∧ (s.release a b c).sup = s.sup ∧ (s.release a b c).timebase = s.timebase ∧ (s.release a b c).draws =
    s.draws ∧ (s.release a b c).pending = s.pending := by
  and_intros <;> unfold State.release <;> simp

@[simp] theorem State.setSession_frame (s : State) (a) :
    (s.setSession a).clk = s.clk ∧ (s.setSession a).slc = s.slc ∧ (s.setSession a).du = s.du ∧ (s.setSession a).hu = s.hu
    ∧ (s.setSession a).fu = s.fu ∧ (s.setSession a).flt = s.flt ∧ (s.setSession a).sq = s.sq ∧ (s.setSession a).jnl =
    s.jnl ∧ (s.setSession a).kl = s.kl ∧ (s.setSession a).sup = s.sup ∧ (s.setSession a).timebase = s.timebase ∧
    (s.setSession a).draws = s.draws ∧ (s.setSession a).pending = s.pending := by
  and_intros <;> unfold State.setSession <;> (try dsimp only) <;> simp

@[simp] theorem State.touchSession_frame (s : State) (a) :
    (s.touchSession a).clk = s.clk ∧ (s.touchSession a).slc = s.slc ∧ (s.touchSession a).du = s.du ∧ (s.touchSession a).hu
    = s.hu ∧ (s.touchSession a).fu = s.fu ∧ (s.touchSession a).flt = s.flt ∧ (s.touchSession a).sq = s.sq ∧
    (s.touchSession a).jnl = s.jnl ∧ (s.touchSession a).kl = s.kl ∧ (s.touchSession a).sup = s.sup ∧ (s.touchSession
    a).timebase = s.timebase ∧ (s.touchSession a).draws = s.draws ∧ (s.touchSession a).pending = s.pending := by
  and_intros <;> unfold State.touchSession <;> (repeat' split) <;> simp

@[simp] theorem State.endSession_frame (s : State) (a) :
    (s.endSession a).clk = s.clk ∧ (s.endSession a).du = s.du ∧ (s.endSession a).hu = s.hu ∧ (s.endSession a).fu = s.fu ∧
    (s.endSession a).flt = s.flt ∧ (s.endSession a).sup = s.sup ∧ (s.endSession a).timebase = s.timebase ∧ (s.endSession
    a).draws = s.draws ∧ (s.endSession a).pending = s.pending := by
  and_intros <;> unfold State.endSession <;> (try dsimp only) <;> simp

@[simp] theorem State.endIfDone_frame (s : State) :
    (s.endIfDone).clk = s.clk ∧ (s.endIfDone).du = s.du ∧ (s.endIfDone).hu = s.hu ∧ (s.endIfDone).fu = s.fu ∧
    (s.endIfDone).flt = s.flt ∧ (s.endIfDone).sup = s.sup ∧ (s.endIfDone).timebase = s.timebase ∧ (s.endIfDone).draws =
    s.draws ∧ (s.endIfDone).pending = s.pending := by
  and_intros <;> unfold State.endIfDone <;> (repeat' split) <;> simp

@[simp] theorem State.releaseLapsed_frame (s : State) (a) :
    (s.releaseLapsed a).clk = s.clk ∧ (s.releaseLapsed a).du = s.du ∧ (s.releaseLapsed a).hu = s.hu ∧ (s.releaseLapsed
    a).fu = s.fu ∧ (s.releaseLapsed a).flt = s.flt ∧ (s.releaseLapsed a).sup = s.sup ∧ (s.releaseLapsed a).timebase =
    s.timebase ∧ (s.releaseLapsed a).draws = s.draws ∧ (s.releaseLapsed a).pending = s.pending := by
  and_intros <;> unfold State.releaseLapsed <;> (repeat' split) <;> simp

@[simp] theorem State.collectFaults_frame (s : State) (a) :
    (s.collectFaults a).clk = s.clk ∧ (s.collectFaults a).slc = s.slc ∧ (s.collectFaults a).du = s.du ∧ (s.collectFaults
    a).hu = s.hu ∧ (s.collectFaults a).fu = s.fu ∧ (s.collectFaults a).bu = s.bu ∧ (s.collectFaults a).sq = s.sq ∧
    (s.collectFaults a).jnl = s.jnl ∧ (s.collectFaults a).kl = s.kl ∧ (s.collectFaults a).sup = s.sup ∧ (s.collectFaults
    a).timebase = s.timebase ∧ (s.collectFaults a).draws = s.draws ∧ (s.collectFaults a).pending = s.pending := by
  and_intros <;> unfold State.collectFaults <;> (try dsimp only) <;> simp

@[simp] theorem State.takeRecorded_frame (s : State) (a b) :
    (s.takeRecorded a b).clk = s.clk ∧ (s.takeRecorded a b).du = s.du ∧ (s.takeRecorded a b).hu = s.hu ∧ (s.takeRecorded a
    b).fu = s.fu ∧ (s.takeRecorded a b).sup = s.sup ∧ (s.takeRecorded a b).timebase = s.timebase ∧ (s.takeRecorded a
    b).draws = s.draws ∧ (s.takeRecorded a b).pending = s.pending := by
  and_intros <;> unfold State.takeRecorded <;> (try dsimp only) <;> (repeat' split) <;> simp

@[simp] theorem State.abandonRelease_frame (s : State) (a b) :
    (s.abandonRelease a b).clk = s.clk ∧ (s.abandonRelease a b).hu = s.hu ∧ (s.abandonRelease a b).fu = s.fu ∧
    (s.abandonRelease a b).flt = s.flt ∧ (s.abandonRelease a b).sup = s.sup ∧ (s.abandonRelease a b).timebase = s.timebase
    ∧ (s.abandonRelease a b).draws = s.draws ∧ (s.abandonRelease a b).pending = s.pending := by
  and_intros <;> unfold State.abandonRelease <;> (try dsimp only) <;> (repeat' split) <;> simp

@[simp] theorem State.dockFaultRaised_frame (s : State) (a) :
    (s.dockFaultRaised a).clk = s.clk ∧ (s.dockFaultRaised a).hu = s.hu ∧ (s.dockFaultRaised a).fu = s.fu ∧
    (s.dockFaultRaised a).flt = s.flt ∧ (s.dockFaultRaised a).sup = s.sup ∧ (s.dockFaultRaised a).timebase = s.timebase ∧
    (s.dockFaultRaised a).draws = s.draws ∧ (s.dockFaultRaised a).pending = s.pending := by
  and_intros <;> unfold State.dockFaultRaised <;> (try dsimp only) <;> (repeat' split) <;> simp

@[simp] theorem State.dockFaultsCleared_frame (s : State) (a) :
    (s.dockFaultsCleared a).clk = s.clk ∧ (s.dockFaultsCleared a).slc = s.slc ∧ (s.dockFaultsCleared a).hu = s.hu ∧
    (s.dockFaultsCleared a).fu = s.fu ∧ (s.dockFaultsCleared a).flt = s.flt ∧ (s.dockFaultsCleared a).sq = s.sq ∧
    (s.dockFaultsCleared a).jnl = s.jnl ∧ (s.dockFaultsCleared a).kl = s.kl ∧ (s.dockFaultsCleared a).sup = s.sup ∧
    (s.dockFaultsCleared a).timebase = s.timebase ∧ (s.dockFaultsCleared a).draws = s.draws ∧ (s.dockFaultsCleared
    a).pending = s.pending := by
  and_intros <;> unfold State.dockFaultsCleared <;> simp

@[simp] theorem State.setBikePart_frame (s : State) (a b) :
    (s.setBikePart a b).clk = s.clk ∧ (s.setBikePart a b).slc = s.slc ∧ (s.setBikePart a b).hu = s.hu ∧ (s.setBikePart a
    b).fu = s.fu ∧ (s.setBikePart a b).flt = s.flt ∧ (s.setBikePart a b).sq = s.sq ∧ (s.setBikePart a b).jnl = s.jnl ∧
    (s.setBikePart a b).kl = s.kl ∧ (s.setBikePart a b).sup = s.sup ∧ (s.setBikePart a b).timebase = s.timebase ∧
    (s.setBikePart a b).draws = s.draws ∧ (s.setBikePart a b).pending = s.pending := by
  and_intros <;> unfold State.setBikePart <;> (repeat' split) <;> simp

@[simp] theorem State.clearBikePart_frame (s : State) (a b) :
    (s.clearBikePart a b).clk = s.clk ∧ (s.clearBikePart a b).slc = s.slc ∧ (s.clearBikePart a b).hu = s.hu ∧
    (s.clearBikePart a b).fu = s.fu ∧ (s.clearBikePart a b).flt = s.flt ∧ (s.clearBikePart a b).sq = s.sq ∧
    (s.clearBikePart a b).jnl = s.jnl ∧ (s.clearBikePart a b).kl = s.kl ∧ (s.clearBikePart a b).sup = s.sup ∧
    (s.clearBikePart a b).timebase = s.timebase ∧ (s.clearBikePart a b).draws = s.draws ∧ (s.clearBikePart a b).pending =
    s.pending := by
  and_intros <;> unfold State.clearBikePart <;> simp

@[simp] theorem State.setMissing_frame (s : State) (a b c) :
    (s.setMissing a b c).clk = s.clk ∧ (s.setMissing a b c).slc = s.slc ∧ (s.setMissing a b c).hu = s.hu ∧ (s.setMissing a
    b c).fu = s.fu ∧ (s.setMissing a b c).flt = s.flt ∧ (s.setMissing a b c).sq = s.sq ∧ (s.setMissing a b c).jnl = s.jnl
    ∧ (s.setMissing a b c).kl = s.kl ∧ (s.setMissing a b c).sup = s.sup ∧ (s.setMissing a b c).timebase = s.timebase ∧
    (s.setMissing a b c).draws = s.draws ∧ (s.setMissing a b c).pending = s.pending := by
  and_intros <;> unfold State.setMissing <;> simp

@[simp] theorem State.removeMissing_frame (s : State) (a) :
    (s.removeMissing a).clk = s.clk ∧ (s.removeMissing a).slc = s.slc ∧ (s.removeMissing a).hu = s.hu ∧ (s.removeMissing
    a).fu = s.fu ∧ (s.removeMissing a).flt = s.flt ∧ (s.removeMissing a).sq = s.sq ∧ (s.removeMissing a).jnl = s.jnl ∧
    (s.removeMissing a).kl = s.kl ∧ (s.removeMissing a).sup = s.sup ∧ (s.removeMissing a).timebase = s.timebase ∧
    (s.removeMissing a).draws = s.draws ∧ (s.removeMissing a).pending = s.pending := by
  and_intros <;> unfold State.removeMissing <;> simp

@[simp] theorem State.removeQuarantine_frame (s : State) (a) :
    (s.removeQuarantine a).clk = s.clk ∧ (s.removeQuarantine a).slc = s.slc ∧ (s.removeQuarantine a).hu = s.hu ∧
    (s.removeQuarantine a).fu = s.fu ∧ (s.removeQuarantine a).flt = s.flt ∧ (s.removeQuarantine a).sq = s.sq ∧
    (s.removeQuarantine a).jnl = s.jnl ∧ (s.removeQuarantine a).kl = s.kl ∧ (s.removeQuarantine a).sup = s.sup ∧
    (s.removeQuarantine a).timebase = s.timebase ∧ (s.removeQuarantine a).draws = s.draws ∧ (s.removeQuarantine a).pending
    = s.pending := by
  and_intros <;> unfold State.removeQuarantine <;> simp

@[simp] theorem State.abandonForQuarantine_frame (s : State) (a b) :
    (s.abandonForQuarantine a b).clk = s.clk ∧ (s.abandonForQuarantine a b).slc = s.slc ∧ (s.abandonForQuarantine a b).hu
    = s.hu ∧ (s.abandonForQuarantine a b).fu = s.fu ∧ (s.abandonForQuarantine a b).flt = s.flt ∧ (s.abandonForQuarantine a
    b).sq = s.sq ∧ (s.abandonForQuarantine a b).jnl = s.jnl ∧ (s.abandonForQuarantine a b).kl = s.kl ∧
    (s.abandonForQuarantine a b).sup = s.sup ∧ (s.abandonForQuarantine a b).timebase = s.timebase ∧
    (s.abandonForQuarantine a b).draws = s.draws ∧ (s.abandonForQuarantine a b).pending = s.pending := by
  and_intros <;> unfold State.abandonForQuarantine <;> (try dsimp only) <;> (repeat' split) <;> simp

@[simp] theorem State.setQuarantine_frame (s : State) (a b c) :
    (s.setQuarantine a b c).clk = s.clk ∧ (s.setQuarantine a b c).slc = s.slc ∧ (s.setQuarantine a b c).hu = s.hu ∧
    (s.setQuarantine a b c).fu = s.fu ∧ (s.setQuarantine a b c).flt = s.flt ∧ (s.setQuarantine a b c).sq = s.sq ∧
    (s.setQuarantine a b c).jnl = s.jnl ∧ (s.setQuarantine a b c).kl = s.kl ∧ (s.setQuarantine a b c).sup = s.sup ∧
    (s.setQuarantine a b c).timebase = s.timebase ∧ (s.setQuarantine a b c).draws = s.draws ∧ (s.setQuarantine a b
    c).pending = s.pending := by
  and_intros <;> (unfold State.setQuarantine; refine (foldl_kept _ _ (fun t n => ?_) _ _).trans ?_ <;> simp)

@[simp] theorem State.useFaultSerial_frame (s : State) :
    (s.useFaultSerial).clk = s.clk ∧ (s.useFaultSerial).slc = s.slc ∧ (s.useFaultSerial).du = s.du ∧ (s.useFaultSerial).hu
    = s.hu ∧ (s.useFaultSerial).fu = s.fu ∧ (s.useFaultSerial).bu = s.bu ∧ (s.useFaultSerial).sq = s.sq ∧
    (s.useFaultSerial).kl = s.kl ∧ (s.useFaultSerial).sup = s.sup ∧ (s.useFaultSerial).timebase = s.timebase ∧
    (s.useFaultSerial).draws = s.draws ∧ (s.useFaultSerial).pending = s.pending := by
  and_intros <;> unfold State.useFaultSerial <;> (try dsimp only) <;> simp

@[simp] theorem State.setLog_frame (s : State) (a) :
    (s.setLog a).clk = s.clk ∧ (s.setLog a).slc = s.slc ∧ (s.setLog a).du = s.du ∧ (s.setLog a).hu = s.hu ∧ (s.setLog
    a).fu = s.fu ∧ (s.setLog a).bu = s.bu ∧ (s.setLog a).sq = s.sq ∧ (s.setLog a).jnl = s.jnl ∧ (s.setLog a).kl = s.kl ∧
    (s.setLog a).sup = s.sup ∧ (s.setLog a).timebase = s.timebase ∧ (s.setLog a).draws = s.draws ∧ (s.setLog a).pending =
    s.pending := by
  and_intros <;> unfold State.setLog <;> (try dsimp only) <;> simp

@[simp] theorem State.noteRise_frame (s : State) (a) :
    (s.noteRise a).clk = s.clk ∧ (s.noteRise a).slc = s.slc ∧ (s.noteRise a).du = s.du ∧ (s.noteRise a).hu = s.hu ∧
    (s.noteRise a).fu = s.fu ∧ (s.noteRise a).flt = s.flt ∧ (s.noteRise a).bu = s.bu ∧ (s.noteRise a).sup = s.sup ∧
    (s.noteRise a).timebase = s.timebase ∧ (s.noteRise a).draws = s.draws ∧ (s.noteRise a).pending = s.pending := by
  and_intros <;> unfold State.noteRise <;> simp

@[simp] theorem State.faultEffects_frame (s : State) (a b) :
    (s.faultEffects a b).clk = s.clk ∧ (s.faultEffects a b).hu = s.hu ∧ (s.faultEffects a b).fu = s.fu ∧ (s.faultEffects a
    b).flt = s.flt ∧ (s.faultEffects a b).sup = s.sup ∧ (s.faultEffects a b).timebase = s.timebase ∧ (s.faultEffects a
    b).draws = s.draws ∧ (s.faultEffects a b).pending = s.pending := by
  and_intros <;> unfold State.faultEffects <;> (try dsimp only) <;> (repeat' split) <;> simp

@[simp] theorem State.refusedEffects_frame (s : State) (a b c) :
    (s.refusedEffects a b c).clk = s.clk ∧ (s.refusedEffects a b c).hu = s.hu ∧ (s.refusedEffects a b c).fu = s.fu ∧
    (s.refusedEffects a b c).sup = s.sup ∧ (s.refusedEffects a b c).timebase = s.timebase ∧ (s.refusedEffects a b c).draws
    = s.draws ∧ (s.refusedEffects a b c).pending = s.pending := by
  and_intros <;> unfold State.refusedEffects <;> (repeat' split) <;> simp

@[simp] theorem State.reportFault_frame (s : State) (a) :
    (s.reportFault a).1.clk = s.clk ∧ (s.reportFault a).1.hu = s.hu ∧ (s.reportFault a).1.fu = s.fu ∧ (s.reportFault a).1.sup = s.sup ∧ (s.reportFault a).1.timebase = s.timebase ∧ (s.reportFault a).1.draws = s.draws ∧ (s.reportFault a).1.pending = s.pending := by
  and_intros <;> unfold State.reportFault <;> (try dsimp only) <;> (repeat' split) <;> simp

@[simp] theorem State.report_frame (s : State) (a b c) :
    (s.report a b c).clk = s.clk ∧ (s.report a b c).hu = s.hu ∧ (s.report a b c).fu = s.fu ∧ (s.report a b c).sup = s.sup
    ∧ (s.report a b c).timebase = s.timebase ∧ (s.report a b c).draws = s.draws ∧ (s.report a b c).pending = s.pending := by
  simp [State.report]

@[simp] theorem State.memberReport_frame (s : State) (a b) :
    (s.memberReport a b).clk = s.clk ∧ (s.memberReport a b).hu = s.hu ∧ (s.memberReport a b).fu = s.fu ∧ (s.memberReport a
    b).sup = s.sup ∧ (s.memberReport a b).timebase = s.timebase ∧ (s.memberReport a b).draws = s.draws ∧ (s.memberReport a
    b).pending = s.pending := by
  simp [State.memberReport]

@[simp] theorem State.setHolds_frame (s : State) (a) :
    (s.setHolds a).clk = s.clk ∧ (s.setHolds a).slc = s.slc ∧ (s.setHolds a).du = s.du ∧ (s.setHolds a).fu = s.fu ∧
    (s.setHolds a).flt = s.flt ∧ (s.setHolds a).bu = s.bu ∧ (s.setHolds a).sq = s.sq ∧ (s.setHolds a).jnl = s.jnl ∧
    (s.setHolds a).kl = s.kl ∧ (s.setHolds a).sup = s.sup ∧ (s.setHolds a).timebase = s.timebase ∧ (s.setHolds a).draws =
    s.draws ∧ (s.setHolds a).pending = s.pending := by
  and_intros <;> unfold State.setHolds <;> (try dsimp only) <;> simp

@[simp] theorem State.roomForHold_frame (s : State) :
    (s.roomForHold).clk = s.clk ∧ (s.roomForHold).slc = s.slc ∧ (s.roomForHold).du = s.du ∧ (s.roomForHold).fu = s.fu ∧
    (s.roomForHold).flt = s.flt ∧ (s.roomForHold).bu = s.bu ∧ (s.roomForHold).sq = s.sq ∧ (s.roomForHold).kl = s.kl ∧
    (s.roomForHold).sup = s.sup ∧ (s.roomForHold).timebase = s.timebase ∧ (s.roomForHold).draws = s.draws ∧
    (s.roomForHold).pending = s.pending := by
  and_intros <;> unfold State.roomForHold <;> (try dsimp only) <;> (repeat' split) <;> simp

@[simp] theorem State.makeHold_frame (s : State) (a b c) :
    (s.makeHold a b c).clk = s.clk ∧ (s.makeHold a b c).slc = s.slc ∧ (s.makeHold a b c).du = s.du ∧ (s.makeHold a b c).fu
    = s.fu ∧ (s.makeHold a b c).flt = s.flt ∧ (s.makeHold a b c).bu = s.bu ∧ (s.makeHold a b c).sq = s.sq ∧ (s.makeHold a
    b c).kl = s.kl ∧ (s.makeHold a b c).sup = s.sup ∧ (s.makeHold a b c).timebase = s.timebase ∧ (s.makeHold a b c).draws
    = s.draws ∧ (s.makeHold a b c).pending = s.pending := by
  and_intros <;> unfold State.makeHold <;> (try dsimp only) <;> simp

@[simp] theorem State.refreshHold_frame (s : State) (a) :
    (s.refreshHold a).clk = s.clk ∧ (s.refreshHold a).slc = s.slc ∧ (s.refreshHold a).du = s.du ∧ (s.refreshHold a).fu =
    s.fu ∧ (s.refreshHold a).flt = s.flt ∧ (s.refreshHold a).bu = s.bu ∧ (s.refreshHold a).sq = s.sq ∧ (s.refreshHold
    a).kl = s.kl ∧ (s.refreshHold a).sup = s.sup ∧ (s.refreshHold a).timebase = s.timebase ∧ (s.refreshHold a).draws =
    s.draws ∧ (s.refreshHold a).pending = s.pending := by
  and_intros <;> unfold State.refreshHold <;> simp

@[simp] theorem State.useHoldSerial_frame (s : State) :
    (s.useHoldSerial).clk = s.clk ∧ (s.useHoldSerial).slc = s.slc ∧ (s.useHoldSerial).du = s.du ∧ (s.useHoldSerial).fu =
    s.fu ∧ (s.useHoldSerial).flt = s.flt ∧ (s.useHoldSerial).bu = s.bu ∧ (s.useHoldSerial).sq = s.sq ∧
    (s.useHoldSerial).kl = s.kl ∧ (s.useHoldSerial).sup = s.sup ∧ (s.useHoldSerial).timebase = s.timebase ∧
    (s.useHoldSerial).draws = s.draws ∧ (s.useHoldSerial).pending = s.pending := by
  and_intros <;> unfold State.useHoldSerial <;> (try dsimp only) <;> simp

@[simp] theorem State.liftHolds_frame (s : State) (a b) :
    (s.liftHolds a b).clk = s.clk ∧ (s.liftHolds a b).slc = s.slc ∧ (s.liftHolds a b).du = s.du ∧ (s.liftHolds a b).fu =
    s.fu ∧ (s.liftHolds a b).flt = s.flt ∧ (s.liftHolds a b).bu = s.bu ∧ (s.liftHolds a b).sq = s.sq ∧ (s.liftHolds a
    b).kl = s.kl ∧ (s.liftHolds a b).sup = s.sup ∧ (s.liftHolds a b).timebase = s.timebase ∧ (s.liftHolds a b).draws =
    s.draws ∧ (s.liftHolds a b).pending = s.pending := by
  and_intros <;> (unfold State.liftHolds; refine (foldl_kept _ _ (fun t n => ?_) _ _).trans ?_ <;> simp)

@[simp] theorem State.setOwned_frame (s : State) (a) :
    (s.setOwned a).clk = s.clk ∧ (s.setOwned a).slc = s.slc ∧ (s.setOwned a).du = s.du ∧ (s.setOwned a).fu = s.fu ∧
    (s.setOwned a).flt = s.flt ∧ (s.setOwned a).bu = s.bu ∧ (s.setOwned a).sq = s.sq ∧ (s.setOwned a).jnl = s.jnl ∧
    (s.setOwned a).kl = s.kl ∧ (s.setOwned a).sup = s.sup ∧ (s.setOwned a).timebase = s.timebase ∧ (s.setOwned a).draws =
    s.draws ∧ (s.setOwned a).pending = s.pending := by
  and_intros <;> unfold State.setOwned <;> (try dsimp only) <;> simp

@[simp] theorem State.openHire_frame (s : State) (a b c) :
    (s.openHire a b c).clk = s.clk ∧ (s.openHire a b c).du = s.du ∧ (s.openHire a b c).fu = s.fu ∧ (s.openHire a b c).flt
    = s.flt ∧ (s.openHire a b c).sq = s.sq ∧ (s.openHire a b c).kl = s.kl ∧ (s.openHire a b c).sup = s.sup ∧ (s.openHire a
    b c).timebase = s.timebase ∧ (s.openHire a b c).draws = s.draws ∧ (s.openHire a b c).pending = s.pending := by
  and_intros <;> unfold State.openHire <;> (try dsimp only) <;> simp

@[simp] theorem State.setSettled_frame (s : State) (a) :
    (s.setSettled a).clk = s.clk ∧ (s.setSettled a).slc = s.slc ∧ (s.setSettled a).du = s.du ∧ (s.setSettled a).fu = s.fu
    ∧ (s.setSettled a).flt = s.flt ∧ (s.setSettled a).bu = s.bu ∧ (s.setSettled a).sq = s.sq ∧ (s.setSettled a).jnl =
    s.jnl ∧ (s.setSettled a).kl = s.kl ∧ (s.setSettled a).sup = s.sup ∧ (s.setSettled a).timebase = s.timebase ∧
    (s.setSettled a).draws = s.draws ∧ (s.setSettled a).pending = s.pending := by
  and_intros <;> unfold State.setSettled <;> (try dsimp only) <;> simp

@[simp] theorem State.pushSettled_frame (s : State) (a b c) :
    (s.pushSettled a b c).clk = s.clk ∧ (s.pushSettled a b c).slc = s.slc ∧ (s.pushSettled a b c).du = s.du ∧
    (s.pushSettled a b c).fu = s.fu ∧ (s.pushSettled a b c).flt = s.flt ∧ (s.pushSettled a b c).bu = s.bu ∧ (s.pushSettled
    a b c).sq = s.sq ∧ (s.pushSettled a b c).jnl = s.jnl ∧ (s.pushSettled a b c).kl = s.kl ∧ (s.pushSettled a b c).sup =
    s.sup ∧ (s.pushSettled a b c).timebase = s.timebase ∧ (s.pushSettled a b c).draws = s.draws ∧ (s.pushSettled a b
    c).pending = s.pending := by
  and_intros <;> unfold State.pushSettled <;> simp

@[simp] theorem State.closeOwned_frame (s : State) (a b c d) :
    (s.closeOwned a b c d).clk = s.clk ∧ (s.closeOwned a b c d).du = s.du ∧ (s.closeOwned a b c d).flt = s.flt ∧
    (s.closeOwned a b c d).sup = s.sup ∧ (s.closeOwned a b c d).timebase = s.timebase ∧ (s.closeOwned a b c d).draws =
    s.draws ∧ (s.closeOwned a b c d).pending = s.pending := by
  and_intros <;> unfold State.closeOwned <;> (try dsimp only) <;> simp

@[simp] theorem State.setPendingClose_frame (s : State) (a) :
    (s.setPendingClose a).clk = s.clk ∧ (s.setPendingClose a).slc = s.slc ∧ (s.setPendingClose a).du = s.du ∧
    (s.setPendingClose a).fu = s.fu ∧ (s.setPendingClose a).flt = s.flt ∧ (s.setPendingClose a).bu = s.bu ∧
    (s.setPendingClose a).sq = s.sq ∧ (s.setPendingClose a).jnl = s.jnl ∧ (s.setPendingClose a).kl = s.kl ∧
    (s.setPendingClose a).sup = s.sup ∧ (s.setPendingClose a).timebase = s.timebase ∧ (s.setPendingClose a).draws =
    s.draws ∧ (s.setPendingClose a).pending = s.pending := by
  and_intros <;> unfold State.setPendingClose <;> (try dsimp only) <;> simp

@[simp] theorem State.lateClose_frame (s : State) (a b c d e) :
    (s.lateClose a b c d e).clk = s.clk ∧ (s.lateClose a b c d e).fu = s.fu ∧ (s.lateClose a b c d e).flt = s.flt ∧
    (s.lateClose a b c d e).sup = s.sup ∧ (s.lateClose a b c d e).timebase = s.timebase ∧ (s.lateClose a b c d e).draws =
    s.draws ∧ (s.lateClose a b c d e).pending = s.pending := by
  and_intros <;> unfold State.lateClose <;> (try dsimp only) <;> (repeat' split) <;> simp

@[simp] theorem State.makePendingClose_frame (s : State) (a b) :
    (s.makePendingClose a b).clk = s.clk ∧ (s.makePendingClose a b).slc = s.slc ∧ (s.makePendingClose a b).du = s.du ∧
    (s.makePendingClose a b).fu = s.fu ∧ (s.makePendingClose a b).flt = s.flt ∧ (s.makePendingClose a b).bu = s.bu ∧
    (s.makePendingClose a b).sup = s.sup ∧ (s.makePendingClose a b).timebase = s.timebase ∧ (s.makePendingClose a b).draws
    = s.draws ∧ (s.makePendingClose a b).pending = s.pending := by
  and_intros <;> unfold State.makePendingClose <;> (try dsimp only) <;> (repeat' split) <;> simp

@[simp] theorem State.setHeard_frame (s : State) (a) :
    (s.setHeard a).clk = s.clk ∧ (s.setHeard a).slc = s.slc ∧ (s.setHeard a).du = s.du ∧ (s.setHeard a).fu = s.fu ∧
    (s.setHeard a).flt = s.flt ∧ (s.setHeard a).bu = s.bu ∧ (s.setHeard a).sq = s.sq ∧ (s.setHeard a).jnl = s.jnl ∧
    (s.setHeard a).kl = s.kl ∧ (s.setHeard a).sup = s.sup ∧ (s.setHeard a).timebase = s.timebase ∧ (s.setHeard a).draws =
    s.draws ∧ (s.setHeard a).pending = s.pending := by
  and_intros <;> unfold State.setHeard <;> (try dsimp only) <;> simp

@[simp] theorem State.forgetHeard_frame (s : State) (a) :
    (s.forgetHeard a).clk = s.clk ∧ (s.forgetHeard a).slc = s.slc ∧ (s.forgetHeard a).du = s.du ∧ (s.forgetHeard a).fu =
    s.fu ∧ (s.forgetHeard a).flt = s.flt ∧ (s.forgetHeard a).bu = s.bu ∧ (s.forgetHeard a).sq = s.sq ∧ (s.forgetHeard
    a).jnl = s.jnl ∧ (s.forgetHeard a).kl = s.kl ∧ (s.forgetHeard a).sup = s.sup ∧ (s.forgetHeard a).timebase = s.timebase
    ∧ (s.forgetHeard a).draws = s.draws ∧ (s.forgetHeard a).pending = s.pending := by
  and_intros <;> unfold State.forgetHeard <;> simp

end Sys2Proof.Machine
end

