-- ==== Sys2Proof/Laws/Docks.lean ====
section
/-!
SUPPORT. What the dock unit's shared operations do to the dock table and the bike status list: reading a dock after a change, and
what the lamps leave as it was.
-/
namespace Sys2Proof.Machine

/-! ### Lamps touch nothing but the lamp -/

@[simp] theorem Dock.placeLamp_frame (k : Dock) (p : Lamp) :
    (k.placeLamp p).state = k.state ∧ (k.placeLamp p).bike = k.bike ∧ (k.placeLamp p).faultMark = k.faultMark ∧
    (k.placeLamp p).release = k.release ∧ (k.placeLamp p).untaken = k.untaken ∧ (k.placeLamp p).lastRefusal = k.lastRefusal ∧
    (k.placeLamp p).window = k.window ∧ (k.placeLamp p).silenceStart = k.silenceStart ∧ (k.placeLamp p).silent = k.silent ∧
    (k.placeLamp p).heard = k.heard ∧ (k.placeLamp p).lastHeard = k.lastHeard ∧
    (k.placeLamp p).hostDisabled = k.hostDisabled ∧ (k.placeLamp p).transient = k.transient ∧
    (k.placeLamp p).lockSlot = k.lockSlot ∧ (k.placeLamp p).resting = k.resting := by
  simp [Dock.placeLamp]

@[simp] theorem Dock.placeResting_frame (k : Dock) :
    k.placeResting.state = k.state ∧ k.placeResting.bike = k.bike ∧ k.placeResting.faultMark = k.faultMark ∧
    k.placeResting.release = k.release ∧ k.placeResting.untaken = k.untaken ∧ k.placeResting.lastRefusal = k.lastRefusal ∧
    k.placeResting.window = k.window ∧ k.placeResting.silenceStart = k.silenceStart ∧ k.placeResting.silent = k.silent ∧
    k.placeResting.heard = k.heard ∧ k.placeResting.lastHeard = k.lastHeard ∧ k.placeResting.hostDisabled = k.hostDisabled ∧
    k.placeResting.transient = k.transient ∧ k.placeResting.lockSlot = k.lockSlot ∧ k.placeResting.resting = k.resting := by
  unfold Dock.placeResting
  split <;> simp

@[simp] theorem Dock.refresh_frame (du : Du) (k : Dock) :
    (k.refresh du).state = k.state ∧ (k.refresh du).bike = k.bike ∧ (k.refresh du).faultMark = k.faultMark ∧
    (k.refresh du).release = k.release ∧ (k.refresh du).untaken = k.untaken ∧ (k.refresh du).lastRefusal = k.lastRefusal ∧
    (k.refresh du).window = k.window ∧ (k.refresh du).silenceStart = k.silenceStart ∧ (k.refresh du).silent = k.silent ∧
    (k.refresh du).heard = k.heard ∧ (k.refresh du).lastHeard = k.lastHeard ∧ (k.refresh du).hostDisabled = k.hostDisabled ∧
    (k.refresh du).transient = k.transient ∧ (k.refresh du).lockSlot = k.lockSlot := by
  unfold Dock.refresh
  dsimp only
  (repeat' split) <;> simp

/-- A lamp that a transient holds is left by the resting pattern's change. -/
theorem Dock.refresh_lampSlot (du : Du) (k : Dock) (h : k.transient.isSome = true) : (k.refresh du).lampSlot = k.lampSlot := by
  unfold Dock.refresh
  dsimp only
  (repeat' split) <;> simp_all

@[simp] theorem Dock.enter_frame (k : Dock) (st : DockState) :
    (k.enter st).state = st ∧ (k.enter st).bike = k.bike ∧ (k.enter st).faultMark = k.faultMark ∧
    (k.enter st).release = k.release ∧ (k.enter st).untaken = k.untaken ∧ (k.enter st).lastRefusal = k.lastRefusal ∧
    (k.enter st).window = k.window ∧ (k.enter st).silenceStart = k.silenceStart ∧ (k.enter st).silent = k.silent ∧
    (k.enter st).heard = k.heard ∧ (k.enter st).lastHeard = k.lastHeard ∧ (k.enter st).hostDisabled = k.hostDisabled ∧
    (k.enter st).lockSlot = k.lockSlot ∧ (k.enter st).resting = k.resting ∧ (k.enter st).lampSlot = k.lampSlot := by
  unfold Dock.enter
  split <;> simp

/-! ### The dock table -/

@[simp] theorem Du.dock_setDock (d : Du) (n : Nat) (k : Dock) (h : 1 ≤ n ∧ n ≤ 24) : (d.setDock n k).dock n = k := by
  simp [Du.dock, Du.setDock, h]

theorem Du.dock_setDock_ne (d : Du) (n m : Nat) (k : Dock) (h : m ≠ n) : (d.setDock n k).dock m = d.dock m := by
  unfold Du.dock Du.setDock
  split
  · split
    · simp only [Vector.getElem_set]
      split
      · omega
      · rfl
    · rfl
  · rfl

@[simp] theorem Du.setDock_frame (d : Du) (n : Nat) (k : Dock) :
    (d.setDock n k).bikes = d.bikes ∧ (d.setDock n k).statusDrops = d.statusDrops ∧ (d.setDock n k).polled = d.polled ∧
    (d.setDock n k).pollNext = d.pollNext ∧ (d.setDock n k).busOut = d.busOut := by
  unfold Du.setDock
  split <;> simp

@[simp] theorem State.announced_du (s b : State) : (s.announced b).du = s.du := by simp

/-- A dock changed is read back with its resting lamp worked out anew. -/
theorem State.dock_updateDock (s : State) (n : Nat) (f : Dock → Dock) (h : 1 ≤ n ∧ n ≤ 24) :
    (s.updateDock n f).dock n = (f (s.dock n)).refresh s.du := by
  simp [State.updateDock, State.putDock, State.dock, h]

/-- A dock changed leaves every other dock as it was. -/
theorem State.dock_updateDock_ne (s : State) (n m : Nat) (f : Dock → Dock) (h : m ≠ n) :
    (s.updateDock n f).dock m = s.dock m := by
  simp [State.updateDock, State.putDock, State.dock, Du.dock_setDock_ne _ _ _ _ h]

/-- A dock changed leaves the bike status list and the bus as they were. -/
@[simp] theorem State.updateDock_du (s : State) (n : Nat) (f : Dock → Dock) :
    (s.updateDock n f).du.bikes = s.du.bikes ∧ (s.updateDock n f).du.statusDrops = s.du.statusDrops ∧
    (s.updateDock n f).du.polled = s.du.polled ∧ (s.updateDock n f).du.pollNext = s.du.pollNext ∧
    (s.updateDock n f).du.busOut = s.du.busOut := by
  simp [State.updateDock, State.putDock]

/-- The bike status list changed is read back as it was given, and every dock's resting lamp is worked out anew. -/
@[simp] theorem State.setBikes_du (s : State) (l : List BikeStatus) (drops : Nat) :
    (s.setBikes l drops).du.bikes = l ∧ (s.setBikes l drops).du.statusDrops = drops ∧
    (s.setBikes l drops).du.polled = s.du.polled ∧ (s.setBikes l drops).du.pollNext = s.du.pollNext ∧
    (s.setBikes l drops).du.busOut = s.du.busOut := by
  simp [State.setBikes]

theorem State.dock_setBikes (s : State) (l : List BikeStatus) (drops : Nat) (n : Nat) (h : 1 ≤ n ∧ n ≤ 24) :
    (s.setBikes l drops).dock n = (s.dock n).refresh { s.du with bikes := l, statusDrops := drops } := by
  simp [State.setBikes, State.dock, Du.dock, h]

theorem State.dock_outside (s : State) (n : Nat) (h : ¬ (1 ≤ n ∧ n ≤ 24)) : s.dock n = Dock.initial 0 := by
  simp [State.dock, Du.dock, h]

/-- Two states with one dock unit read the same docks. -/
theorem State.dock_congr {s t : State} (h : t.du = s.du) (n : Nat) : t.dock n = s.dock n := by
  simp [State.dock, h]

end Sys2Proof.Machine
end

