-- ==== Sys2Proof/Laws/Journal.lean ====
section
/-!
SUPPORT. The journal's write list and store: what marking slots leaves, and the laws of reading and writing the store.
-/
namespace Sys2Proof.Machine

/-! ### Marks -/

theorem Jnl.mem_mark (j : Jnl) (slot : Slot) : slot ∈ (j.mark slot).writeList := by
  simp only [Jnl.mark]
  split <;> simp_all

/-- A slot marked twice in a row is marked once. -/
theorem Jnl.mark_mark (j : Jnl) (slot : Slot) : (j.mark slot).mark slot = j.mark slot := by
  have h1 : ((j.mark slot).mark slot).writeList = (j.mark slot).writeList := by
    show (if slot ∈ (j.mark slot).writeList then _ else _) = _
    rw [if_pos (j.mem_mark slot)]
  have h2 : ((j.mark slot).mark slot).wip = (j.mark slot).wip := by
    simp only [Jnl.mark]
    cases j.wip with
    | none => rfl
    | some w =>
      simp only [Option.map_some]
      split <;> simp_all
  calc (j.mark slot).mark slot
      = { j.mark slot with writeList := ((j.mark slot).mark slot).writeList, wip := ((j.mark slot).mark slot).wip } := rfl
    _ = j.mark slot := by rw [h1, h2]

theorem Jnl.Marked.refl (j : Jnl) : j.Marked j [] :=
  ⟨by simp, List.prefix_refl _, by simp, rfl, rfl⟩

theorem Jnl.marked_mark (j : Jnl) (slot : Slot) : j.Marked (j.mark slot) [slot] where
  listed := by
    intro x hx
    rw [List.mem_singleton.mp hx]
    exact j.mem_mark slot
  placed := by
    simp only [Jnl.mark]
    split
    · exact List.prefix_refl _
    · exact List.prefix_append _ _
  only := by
    intro x hx
    simp only [Jnl.mark] at hx
    split at hx <;> simp_all
  writing := by
    simp only [Jnl.mark]
    cases j.wip with
    | none => rfl
    | some w =>
      simp only [Option.map_some]
      split <;> rfl
  rest := rfl

theorem Jnl.Marked.trans {a b c : Jnl} {l m : List Slot} (h : a.Marked b l) (k : b.Marked c m) : a.Marked c (l ++ m) where
  listed := by
    intro x hx
    rcases List.mem_append.mp hx with hx | hx
    · exact k.placed.subset (h.listed x hx)
    · exact k.listed x hx
  placed := h.placed.trans k.placed
  only := by
    intro x hx
    rcases k.only x hx with hx | hx
    · rcases h.only x hx with hx | hx
      · exact .inl hx
      · exact .inr (by simp [hx])
    · exact .inr (by simp [hx])
  writing := k.writing.trans h.writing
  rest := by
    rw [k.rest, h.rest]

/-- Marks are of a set of slots: a list of the same slots says the same. -/
theorem Jnl.Marked.of_mem {a b : Jnl} {l m : List Slot} (h : a.Marked b l) (e : ∀ x, x ∈ l ↔ x ∈ m) : a.Marked b m :=
  ⟨fun x hx => h.listed x ((e x).mpr hx), h.placed, fun x hx => (h.only x hx).imp id (e x).mp, h.writing, h.rest⟩

@[simp] theorem State.mark_jnl (s : State) (slot : Slot) : (s.mark slot).jnl = s.jnl.mark slot := rfl

/-- Slots marked one after another. -/
theorem State.marked_foldl {α : Type} (g : α → Slot) (l : List α) (s : State) :
    s.jnl.Marked (l.foldl (fun s a => s.mark (g a)) s).jnl (l.map g) := by
  induction l generalizing s with
  | nil => exact Jnl.Marked.refl _
  | cons a l ih => exact (Jnl.marked_mark _ _).trans (ih (s.mark (g a)))

/-! ### The store (R154) -/

theorem Store.read_write_self (s : Store) (i : Nat) (c : SlotContent) : (s.write i c).read i = some c := by
  induction s with
  | nil => simp [Store.write, Store.read]
  | cons p s ih =>
    obtain ⟨k, d⟩ := p
    unfold Store.write
    split
    · simp [Store.read]
    · split
      · simp [Store.read]
      · simp only [Store.read]
        rw [if_neg (by omega)]
        exact ih

theorem Store.read_write_ne (s : Store) (i j : Nat) (c : SlotContent) (h : j ≠ i) : (s.write i c).read j = s.read j := by
  induction s with
  | nil =>
    simp only [Store.write, Store.read]
    rw [if_neg (Ne.symm h)]
  | cons p s ih =>
    obtain ⟨k, d⟩ := p
    unfold Store.write
    split
    · simp [Store.read, Ne.symm h]
    · split
      · rename_i hik
        subst hik
        simp only [Store.read]
        rw [if_neg (Ne.symm h), if_neg (Ne.symm h)]
      · simp only [Store.read, ih]

/-- The head of a store in canonical form lies below every later slot. -/
theorem Store.wf_cons {k : Nat} {d : SlotContent} {s : Store} :
    Store.wf ((k, d) :: s) = true ↔ k < 385 ∧ (∀ p ∈ s, k < p.1) ∧ Store.wf s = true := by
  induction s generalizing k d with
  | nil => simp [Store.wf]
  | cons p s ih =>
    obtain ⟨j, e⟩ := p
    have : Store.wf ((k, d) :: (j, e) :: s) = (decide (k < j) && Store.wf ((j, e) :: s)) := rfl
    rw [this, Bool.and_eq_true, decide_eq_true_eq, ih]
    constructor
    · rintro ⟨h1, h2, h3, h4⟩
      refine ⟨by omega, fun p hp => ?_, h2, h3, h4⟩
      rcases List.mem_cons.mp hp with rfl | hp
      · exact h1
      · exact h1.trans (h3 p hp)
    · rintro ⟨_, h2, h3, h4, h5⟩
      exact ⟨h2 (j, e) (by simp), h3, h4, h5⟩

theorem Store.mem_write {s : Store} {i : Nat} {c : SlotContent} {p : Nat × SlotContent} (h : p ∈ s.write i c) :
    p = (i, c) ∨ p ∈ s := by
  induction s with
  | nil => simpa [Store.write] using h
  | cons q s ih =>
    obtain ⟨k, d⟩ := q
    unfold Store.write at h
    split at h
    · simpa using h
    · split at h
      · rcases List.mem_cons.mp h with h | h
        · exact .inl h
        · exact .inr (by simp [h])
      · rcases List.mem_cons.mp h with h | h
        · exact .inr (by simp [h])
        · exact (ih h).imp id fun h => by simp [h]

/-- A slot written keeps the store's canonical form. -/
theorem Store.wf_write {s : Store} {i : Nat} (c : SlotContent) (h : s.wf = true) (hi : i < 385) : (s.write i c).wf = true := by
  induction s with
  | nil => simpa [Store.write, Store.wf] using hi
  | cons q s ih =>
    obtain ⟨k, d⟩ := q
    obtain ⟨h1, h2, h3⟩ := Store.wf_cons.mp h
    unfold Store.write
    split
    · rename_i hk
      refine Store.wf_cons.mpr ⟨hi, fun p hp => ?_, h⟩
      rcases List.mem_cons.mp hp with rfl | hp
      · exact hk
      · exact hk.trans (h2 p hp)
    · split
      · rename_i _ e
        subst e
        exact Store.wf_cons.mpr ⟨h1, h2, h3⟩
      · rename_i hk hn
        refine Store.wf_cons.mpr ⟨h1, fun p hp => ?_, ih h3⟩
        rcases Store.mem_write hp with rfl | hp
        · show k < i
          omega
        · exact h2 p hp

theorem reset_store_wf : State.reset.jnl.store.wf = true := rfl

end Sys2Proof.Machine
end

