-- ==== Sys2Proof/Laws/Lists.lean ====
section
/-!
SUPPORT. The list operations on a list whose first entry with a property is known.
-/
namespace Sys2Proof.Machine

variable {α : Type} (p : α → Bool) (f : α → α) (before rest : List α) (a : α)

theorem updateFirst_middle (h : ∀ x ∈ before, p x = false) (ha : p a = true) :
    updateFirst p f (before ++ a :: rest) = before ++ f a :: rest := by
  induction before with
  | nil => simp [updateFirst, ha]
  | cons x l ih => simpa [updateFirst, h x (by simp)] using ih fun y hy => h y (by simp [hy])

theorem updateFirst_none (l : List α) (h : ∀ x ∈ l, p x = false) : updateFirst p f l = l := by
  induction l with
  | nil => rfl
  | cons x l ih => simpa [updateFirst, h x (by simp)] using ih fun y hy => h y (by simp [hy])

theorem length_updateFirst (l : List α) : (updateFirst p f l).length = l.length := by
  induction l with
  | nil => rfl
  | cons x l ih =>
    unfold updateFirst
    split <;> simp [ih]

/-- A reading that the change keeps is kept by the list. -/
theorem map_updateFirst {β : Type} (g : α → β) (h : ∀ x, p x = true → g (f x) = g x) (l : List α) :
    (updateFirst p f l).map g = l.map g := by
  induction l with
  | nil => rfl
  | cons x l ih =>
    unfold updateFirst
    split
    · simp [h x ‹_›]
    · simp [ih]

/-- An entry of a changed list is an entry of the list, or a changed one. -/
theorem mem_updateFirst {l : List α} {x : α} (h : x ∈ updateFirst p f l) : x ∈ l ∨ ∃ y ∈ l, p y = true ∧ x = f y := by
  induction l with
  | nil => simp [updateFirst] at h
  | cons y l ih =>
    unfold updateFirst at h
    split at h
    · rename_i hy
      rcases List.mem_cons.mp h with rfl | h
      · exact .inr ⟨y, by simp, hy, rfl⟩
      · exact .inl (by simp [h])
    · rcases List.mem_cons.mp h with rfl | h
      · exact .inl (by simp)
      · rcases ih h with h | ⟨z, hz, hp, e⟩
        · exact .inl (by simp [h])
        · exact .inr ⟨z, by simp [hz], hp, e⟩

theorem find?_middle (h : ∀ x ∈ before, p x = false) (ha : p a = true) : (before ++ a :: rest).find? p = some a := by
  induction before with
  | nil => simp [ha]
  | cons x l ih =>
    rw [List.cons_append, List.find?_cons_of_neg (by simp [h x (by simp)])]
    exact ih fun y hy => h y (by simp [hy])

theorem eraseP_middle (h : ∀ x ∈ before, p x = false) (ha : p a = true) : (before ++ a :: rest).eraseP p = before ++ rest := by
  induction before with
  | nil => simp [ha]
  | cons x l ih => simpa [h x (by simp)] using ih fun y hy => h y (by simp [hy])

/-- A full list that takes an entry at its end keeps its length. -/
theorem length_pushBounded (limit : Nat) (l : List α) (a : α) (h : l.length ≤ limit) (h1 : 1 ≤ limit) :
    (pushBounded limit l a).length ≤ limit := by
  unfold pushBounded
  split <;> simp <;> omega

theorem lowestFree_lt {limit : Nat} {used : List Nat} {i : Nat} (h : lowestFree limit used = some i) :
    i < limit ∧ i ∉ used ∧ ∀ j < i, j ∈ used := by
  unfold lowestFree at h
  have h1 := List.mem_of_find?_eq_some h
  have h2 := List.find?_some h
  refine ⟨by simpa using h1, by simpa using h2, fun j hj => ?_⟩
  rw [List.find?_range_eq_some] at h
  simpa using h.2.2 j hj

end Sys2Proof.Machine
end

