-- ==== Sys2Proof/Laws/PerInstr.lean ====
section
/-!
SUPPORT. Statements made for every command, one lemma per constructor.

Family `RequestFrame`: the frame a host writes for a well-formed request command is read back as that request, its body length
allowed (R164, R186). A command that is no kiosk request writes no frame.
-/
set_option Elab.async false

namespace Sys2Proof.Laws.RequestFrame

open Sys2Proof.Machine

def Statement (i : Instr) : Prop :=
  ∀ r, requestOfInstr i = some r → i.wf = true →
    requestLengthOk r.code r.bytes = some true ∧ requestOf r.code r.bytes = some r

theorem sendTransfer x0 x1 x2 : Statement (.sendTransfer x0 x1 x2) := fun _ h => nomatch h

theorem sendTransferCut x0 : Statement (.sendTransferCut x0) := fun _ h => nomatch h

theorem fetchTransfer x0 x1 : Statement (.fetchTransfer x0 x1) := fun _ h => nomatch h

theorem restartAnswerTimeout x0 : Statement (.restartAnswerTimeout x0) := fun _ h => nomatch h

theorem getStatus : Statement (.getStatus) := by
  rintro _ ⟨⟩ -
  exact ⟨rfl, rfl⟩

theorem getCause : Statement (.getCause) := by
  rintro _ ⟨⟩ -
  exact ⟨rfl, rfl⟩

theorem setAttentionMask enables : Statement (.setAttentionMask enables) := by
  rintro _ ⟨⟩ h
  simp only [Instr.wf, fitsBytes, decide_eq_true_eq] at h
  simp (disch := omega) [requestLengthOk, requestOf, Request.code, Request.bytes, u8, fieldAt_whole, Nat.mod_eq_of_lt]

theorem takeRecords n : Statement (.takeRecords n) := by
  rintro _ ⟨⟩ h
  simp only [Instr.wf, fitsBytes, decide_eq_true_eq] at h
  simp (disch := omega) [requestLengthOk, requestOf, Request.code, Request.bytes, u8, fieldAt_whole, Nat.mod_eq_of_lt]

theorem setSettlement trigger timeout : Statement (.setSettlement trigger timeout) := by
  rintro _ ⟨⟩ h
  simp only [Instr.wf, fitsBytes, Bool.and_eq_true, decide_eq_true_eq] at h
  simp (disch := omega) [requestLengthOk, requestOf, Request.code, Request.bytes, u8, u16, fieldAt_whole, fieldAt_here,
    fieldAt_beyond, Nat.mod_eq_of_lt]

theorem setTime t : Statement (.setTime t) := by
  rintro _ ⟨⟩ h
  simp only [Instr.wf, CalendarTime.wf, fitsBytes, Bool.and_eq_true, decide_eq_true_eq] at h
  simp (disch := omega) [requestLengthOk, requestOf, Request.code, Request.bytes, CalendarTime.bytes, calendarAt, u8, u16,
    fieldAt_whole, fieldAt_here, fieldAt_beyond, Nat.mod_eq_of_lt]

theorem getTime : Statement (.getTime) := by
  rintro _ ⟨⟩ -
  exact ⟨rfl, rfl⟩

theorem loadBand band terms : Statement (.loadBand band terms) := by
  rintro _ ⟨⟩ h
  simp only [Instr.wf, BandTerms.wf, fitsBytes, Bool.and_eq_true, decide_eq_true_eq] at h
  simp (disch := omega) [requestLengthOk, requestOf, Request.code, Request.bytes, BandTerms.fieldBytes, bandTermsAt, u8, u16,
    u32, fieldAt_whole, fieldAt_here, fieldAt_beyond, Nat.mod_eq_of_lt]

theorem loadClass cls fields : Statement (.loadClass cls fields) := by
  rintro _ ⟨⟩ h
  simp only [Instr.wf, ClassFields.wf, fitsBytes, Bool.and_eq_true, decide_eq_true_eq] at h
  simp (disch := omega) [requestLengthOk, requestOf, Request.code, Request.bytes, ClassFields.bytes, classFieldsAt, u8, u16,
    fieldAt_whole, fieldAt_here, fieldAt_beyond, Nat.mod_eq_of_lt]

theorem loadWindow index fields : Statement (.loadWindow index fields) := by
  rintro _ ⟨⟩ h
  simp only [Instr.wf, WindowFields.wf, fitsBytes, Bool.and_eq_true, decide_eq_true_eq] at h
  simp (disch := omega) [requestLengthOk, requestOf, Request.code, Request.bytes, WindowFields.bytes, windowFieldsAt, u8, u16,
    fieldAt_whole, fieldAt_here, fieldAt_beyond, Nat.mod_eq_of_lt]

theorem readTariff : Statement (.readTariff) := by
  rintro _ ⟨⟩ -
  exact ⟨rfl, rfl⟩

theorem holdCard card reason : Statement (.holdCard card reason) := by
  rintro _ ⟨⟩ h
  simp only [Instr.wf, fitsBytes, Bool.and_eq_true, decide_eq_true_eq] at h
  simp (disch := omega) [requestLengthOk, requestOf, Request.code, Request.bytes, u8, u32, fieldAt_whole, fieldAt_here,
    fieldAt_beyond, Nat.mod_eq_of_lt]

theorem liftHold card reason : Statement (.liftHold card reason) := by
  rintro _ ⟨⟩ h
  simp only [Instr.wf, fitsBytes, Bool.and_eq_true, decide_eq_true_eq] at h
  simp (disch := omega) [requestLengthOk, requestOf, Request.code, Request.bytes, u8, u32, fieldAt_whole, fieldAt_here,
    fieldAt_beyond, Nat.mod_eq_of_lt]

theorem queryCard card validUntil : Statement (.queryCard card validUntil) := by
  rintro _ ⟨⟩ h
  cases validUntil with
  | none =>
    simp only [Instr.wf, Option.all_none, Bool.and_true, fitsBytes, decide_eq_true_eq] at h
    simp (disch := omega) [requestLengthOk, requestOf, Request.code, Request.bytes, u32, fieldAt_whole, Nat.mod_eq_of_lt]
  | some date =>
    simp only [Instr.wf, Option.all_some, Date.wf, fitsBytes, Bool.and_eq_true, decide_eq_true_eq] at h
    simp (disch := omega) [requestLengthOk, requestOf, Request.code, Request.bytes, Date.bytes, dateAt, u8, u16, u32,
      fieldAt_whole, fieldAt_here, fieldAt_beyond, Nat.mod_eq_of_lt]

theorem queryBike bike : Statement (.queryBike bike) := by
  rintro _ ⟨⟩ h
  simp only [Instr.wf, fitsBytes, decide_eq_true_eq] at h
  simp (disch := omega) [requestLengthOk, requestOf, Request.code, Request.bytes, u24, fieldAt_whole, Nat.mod_eq_of_lt]

theorem reportFault subject number kind severity : Statement (.reportFault subject number kind severity) := by
  rintro _ ⟨⟩ h
  simp only [Instr.wf, fitsBytes, Bool.and_eq_true, decide_eq_true_eq] at h
  simp (disch := omega) [requestLengthOk, requestOf, Request.code, Request.bytes, u8, u24, fieldAt_whole, fieldAt_here,
    fieldAt_beyond, Nat.mod_eq_of_lt]

theorem clearFault subject number : Statement (.clearFault subject number) := by
  rintro _ ⟨⟩ h
  simp only [Instr.wf, fitsBytes, Bool.and_eq_true, decide_eq_true_eq] at h
  simp (disch := omega) [requestLengthOk, requestOf, Request.code, Request.bytes, u8, u24, fieldAt_whole, fieldAt_here,
    fieldAt_beyond, Nat.mod_eq_of_lt]

theorem readFaults : Statement (.readFaults) := by
  rintro _ ⟨⟩ -
  exact ⟨rfl, rfl⟩

theorem dockDisable dock : Statement (.dockDisable dock) := by
  rintro _ ⟨⟩ h
  simp only [Instr.wf, fitsBytes, decide_eq_true_eq] at h
  simp (disch := omega) [requestLengthOk, requestOf, Request.code, Request.bytes, u8, fieldAt_whole, Nat.mod_eq_of_lt]

theorem dockEnable dock : Statement (.dockEnable dock) := by
  rintro _ ⟨⟩ h
  simp only [Instr.wf, fitsBytes, decide_eq_true_eq] at h
  simp (disch := omega) [requestLengthOk, requestOf, Request.code, Request.bytes, u8, fieldAt_whole, Nat.mod_eq_of_lt]

theorem readDocks : Statement (.readDocks) := by
  rintro _ ⟨⟩ -
  exact ⟨rfl, rfl⟩

theorem readNeighbours : Statement (.readNeighbours) := by
  rintro _ ⟨⟩ -
  exact ⟨rfl, rfl⟩

theorem claim station action amount lifetime : Statement (.claim station action amount lifetime) := by
  rintro _ ⟨⟩ h
  simp only [Instr.wf, fitsBytes, Bool.and_eq_true, decide_eq_true_eq] at h
  simp (disch := omega) [requestLengthOk, requestOf, Request.code, Request.bytes, u8, u16, fieldAt_whole, fieldAt_here,
    fieldAt_beyond, Nat.mod_eq_of_lt]

theorem openSession station : Statement (.openSession station) := by
  rintro _ ⟨⟩ h
  simp only [Instr.wf, fitsBytes, decide_eq_true_eq] at h
  simp (disch := omega) [requestLengthOk, requestOf, Request.code, Request.bytes, u16, fieldAt_whole, Nat.mod_eq_of_lt]

theorem take dock : Statement (.take dock) := by
  rintro _ ⟨⟩ h
  simp only [Instr.wf, fitsBytes, decide_eq_true_eq] at h
  simp (disch := omega) [requestLengthOk, requestOf, Request.code, Request.bytes, u8, fieldAt_whole, Nat.mod_eq_of_lt]

theorem announceDelivery bikes : Statement (.announceDelivery bikes) := by
  rintro _ ⟨⟩ h
  simp only [Instr.wf, Bool.and_eq_true, decide_eq_true_eq, List.all_eq_true, fitsBytes] at h
  have count : fieldAt (Request.announceDelivery bikes).bytes 0 1 = bikes.length := by
    simp only [Request.bytes, u8, fieldAt_here]
    omega
  have read : bikesAt (Request.announceDelivery bikes).bytes 1 bikes.length = bikes := by
    simpa [Request.bytes, u8, bikesAt_skip] using bikesAt_bikesBytes bikes [] h.2
  constructor
  · simp only [Request.code, requestLengthOk, count]
    simp [Request.bytes, u8]
  · simp [requestOf, Request.code, count, read]

theorem closeSession : Statement (.closeSession) := by
  rintro _ ⟨⟩ -
  exact ⟨rfl, rfl⟩

theorem unload bike : Statement (.unload bike) := by
  rintro _ ⟨⟩ h
  simp only [Instr.wf, fitsBytes, decide_eq_true_eq] at h
  simp (disch := omega) [requestLengthOk, requestOf, Request.code, Request.bytes, u24, fieldAt_whole, Nat.mod_eq_of_lt]

theorem readLoad : Statement (.readLoad) := by
  rintro _ ⟨⟩ -
  exact ⟨rfl, rfl⟩

theorem readClaims : Statement (.readClaims) := by
  rintro _ ⟨⟩ -
  exact ⟨rfl, rfl⟩

theorem readOptions : Statement (.readOptions) := by
  rintro _ ⟨⟩ -
  exact ⟨rfl, rfl⟩

theorem writeOptions block : Statement (.writeOptions block) := by
  rintro _ ⟨⟩ h
  have length : block.length = 16 := by simpa [Instr.wf] using h
  simp [requestLengthOk, requestOf, Request.code, Request.bytes, length]

theorem restart : Statement (.restart) := by
  rintro _ ⟨⟩ -
  exact ⟨rfl, rfl⟩

theorem optionAreaRead : Statement (.optionAreaRead) := fun _ h => nomatch h

theorem optionWriteStart : Statement (.optionWriteStart) := fun _ h => nomatch h

theorem optionWriteEnd x0 : Statement (.optionWriteEnd x0) := fun _ h => nomatch h

theorem brownOut : Statement .brownOut := fun _ h => nomatch h

theorem powerHoldEnd x0 : Statement (.powerHoldEnd x0) := fun _ h => nomatch h

theorem resetAssert : Statement (.resetAssert) := fun _ h => nomatch h

theorem resetRelease x0 : Statement (.resetRelease x0) := fun _ h => nomatch h

theorem replayComplete : Statement (.replayComplete) := fun _ h => nomatch h

theorem listenTimerExpiry : Statement (.listenTimerExpiry) := fun _ h => nomatch h

theorem batteryReading x0 : Statement (.batteryReading x0) := fun _ h => nomatch h

theorem rawTick : Statement (.rawTick) := fun _ h => nomatch h

theorem gradeRise : Statement (.gradeRise) := fun _ h => nomatch h

theorem temperatureSample x0 : Statement (.temperatureSample x0) := fun _ h => nomatch h

theorem minuteBoundary : Statement (.minuteBoundary) := fun _ h => nomatch h

theorem carrierRise : Statement (.carrierRise) := fun _ h => nomatch h

theorem carrierFall x0 : Statement (.carrierFall x0) := fun _ h => nomatch h

theorem frameCompleted x0 : Statement (.frameCompleted x0) := fun _ h => nomatch h

theorem frameProcessed : Statement (.frameProcessed) := fun _ h => nomatch h

theorem slotEnd : Statement (.slotEnd) := fun _ h => nomatch h

theorem transmissionEnd : Statement (.transmissionEnd) := fun _ h => nomatch h

theorem relayDelayExpiry x0 x1 : Statement (.relayDelayExpiry x0 x1) := fun _ h => nomatch h

theorem ownQuietExpiry : Statement (.ownQuietExpiry) := fun _ h => nomatch h

theorem neighbourQuietExpiry x0 : Statement (.neighbourQuietExpiry x0) := fun _ h => nomatch h

theorem neighbourAgeExpiry x0 : Statement (.neighbourAgeExpiry x0) := fun _ h => nomatch h

theorem beaconTimerExpiry : Statement (.beaconTimerExpiry) := fun _ h => nomatch h

theorem poll : Statement (.poll) := fun _ h => nomatch h

theorem pollAnswerTimeout : Statement (.pollAnswerTimeout) := fun _ h => nomatch h

theorem heartbeat x0 x1 : Statement (.heartbeat x0 x1) := fun _ h => nomatch h

theorem card x0 x1 : Statement (.card x0 x1) := fun _ h => nomatch h

theorem bikeOut x0 : Statement (.bikeOut x0) := fun _ h => nomatch h

theorem bikeIn x0 x1 : Statement (.bikeIn x0 x1) := fun _ h => nomatch h

theorem button x0 : Statement (.button x0) := fun _ h => nomatch h

theorem lockFail x0 : Statement (.lockFail x0) := fun _ h => nomatch h

theorem releaseTimeout x0 : Statement (.releaseTimeout x0) := fun _ h => nomatch h

theorem returnWindowExpiry x0 : Statement (.returnWindowExpiry x0) := fun _ h => nomatch h

theorem lampTransientEnd x0 : Statement (.lampTransientEnd x0) := fun _ h => nomatch h

theorem postSilence x0 : Statement (.postSilence x0) := fun _ h => nomatch h

theorem pendingCloseRepeat x0 x1 : Statement (.pendingCloseRepeat x0 x1) := fun _ h => nomatch h

theorem claimExpiry x0 x1 : Statement (.claimExpiry x0 x1) := fun _ h => nomatch h

theorem sessionIdleTimeout : Statement (.sessionIdleTimeout) := fun _ h => nomatch h

theorem claimAnswerTimeout x0 : Statement (.claimAnswerTimeout x0) := fun _ h => nomatch h

theorem vanClaimExpiry x0 : Statement (.vanClaimExpiry x0) := fun _ h => nomatch h

theorem sessionAnswerTimeout : Statement (.sessionAnswerTimeout) := fun _ h => nomatch h

theorem vanSessionIdleTimeout : Statement (.vanSessionIdleTimeout) := fun _ h => nomatch h

theorem takeAnswerTimeout x0 : Statement (.takeAnswerTimeout x0) := fun _ h => nomatch h

theorem takeCompletionTimeout x0 : Statement (.takeCompletionTimeout x0) := fun _ h => nomatch h

theorem settlementIdleTimeout : Statement (.settlementIdleTimeout) := fun _ h => nomatch h

theorem journalWriteStart : Statement (.journalWriteStart) := fun _ h => nomatch h

theorem journalWriteEnd x0 : Statement (.journalWriteEnd x0) := fun _ h => nomatch h

theorem bodyLengthArrived x0 : Statement (.bodyLengthArrived x0) := fun _ h => nomatch h

theorem backupDomainPowerLost : Statement (.backupDomainPowerLost) := fun _ h => nomatch h

end Sys2Proof.Laws.RequestFrame
end

