-- ==== Sys2Proof/Laws/Replay.lean ====
section
/-!
SUPPORT. What REPLAY makes of the slots it is handed: the sorting keeps the entries it is given, sorting out splits them in two, and the
hold list that is left has one entry for each pair of card and reason (R66, R158).
-/
namespace Sys2Proof.Machine

variable {α : Type}

theorem mem_insertBy (before : α → α → Bool) (a : α) (l : List α) (x : α) : x ∈ insertBy before a l ↔ x = a ∨ x ∈ l := by
  induction l with
  | nil => simp [insertBy]
  | cons b l ih =>
    unfold insertBy
    split
    · simp
    · simp only [List.mem_cons, ih]
      tauto

/-- A sorted list has the entries of the list. -/
theorem mem_sortBy (before : α → α → Bool) (l : List α) (x : α) : x ∈ sortBy before l ↔ x ∈ l := by
  induction l with
  | nil => simp [sortBy]
  | cons a l ih => simp [sortBy, mem_insertBy, ih]

/-- The kept entries stand in the order of the list. -/
theorem keptOf_sortOut_sublist (drops : α → List α → Bool) (l : List α) : (keptOf (sortOut drops l)).Sublist l := by
  induction l with
  | nil => simp [sortOut, keptOf]
  | cons a l ih =>
    cases h : drops a l with
    | true => simpa [sortOut, keptOf, h] using ih.cons a
    | false => simpa [sortOut, keptOf, h] using ih.cons_cons a

/-- Every entry is kept or dropped, and nothing else is. -/
theorem mem_keptOf_or_droppedOf (drops : α → List α → Bool) (l : List α) (x : α) :
    x ∈ keptOf (sortOut drops l) ∨ x ∈ droppedOf (sortOut drops l) ↔ x ∈ l := by
  induction l with
  | nil => simp [sortOut, keptOf, droppedOf]
  | cons a l ih =>
    rw [List.mem_cons, ← ih]
    cases h : drops a l with
    | true => simp [sortOut, keptOf, droppedOf, h]; tauto
    | false => simp [sortOut, keptOf, droppedOf, h]; tauto

/-- The kept holds have one entry for each pair of card and reason (R66). -/
theorem keptHolds_nodup (l : List Hold) :
    ((keptOf (sortOut Hold.superseded l)).map fun h => (h.card, h.reason)).Nodup := by
  induction l with
  | nil => simp [sortOut, keptOf]
  | cons a l ih =>
    cases h : a.superseded l with
    | true => simpa [sortOut, keptOf, h] using ih
    | false =>
      have hk : keptOf (sortOut Hold.superseded (a :: l)) = a :: keptOf (sortOut Hold.superseded l) := by
        simp [sortOut, keptOf, h]
      rw [hk, List.map_cons, List.nodup_cons]
      refine ⟨fun hm => ?_, ih⟩
      obtain ⟨x, hx, e⟩ := List.mem_map.mp hm
      have hx := (keptOf_sortOut_sublist Hold.superseded l).subset hx
      simp only [Prod.mk.injEq] at e
      have : a.superseded l = true := List.any_eq_true.mpr ⟨x, hx, by simp [Hold.isFor, e.1, e.2]⟩
      simp [h] at this

/-- Every pair of card and reason of the list stands on a kept hold. -/
theorem keptHolds_complete (l : List Hold) (h : Hold) (hl : h ∈ l) :
    ∃ x ∈ keptOf (sortOut Hold.superseded l), x.card = h.card ∧ x.reason = h.reason := by
  induction l generalizing h with
  | nil => simp at hl
  | cons a l ih =>
    have grow : ∀ x ∈ keptOf (sortOut Hold.superseded l), x ∈ keptOf (sortOut Hold.superseded (a :: l)) := by
      intro x hx
      cases ha : a.superseded l <;> simp_all [sortOut, keptOf]
    rcases List.mem_cons.mp hl with rfl | hl
    · cases ha : h.superseded l with
      | false => exact ⟨h, by simp [sortOut, keptOf, ha], rfl, rfl⟩
      | true =>
        obtain ⟨y, hy, e⟩ := List.any_eq_true.mp ha
        obtain ⟨x, hx, e1, e2⟩ := ih y hy
        simp only [Hold.isFor, Bool.and_eq_true, decide_eq_true_eq] at e
        exact ⟨x, grow x hx, e1.trans e.1, e2.trans e.2⟩
    · obtain ⟨x, hx, e⟩ := ih h hl
      exact ⟨x, grow x hx, e⟩

/-- Marks one after another touch the journal alone. -/
theorem State.foldl_mark_rest (g : α → Slot) (l : List α) (s : State) :
    ∃ j, l.foldl (fun s a => s.mark (g a)) s = { s with jnl := j } := by
  induction l generalizing s with
  | nil => exact ⟨s.jnl, rfl⟩
  | cons a l ih =>
    obtain ⟨j, h⟩ := ih (s.mark (g a))
    exact ⟨j, h⟩

/-- All that taking the hold list region does: the hold list becomes the kept entries of the slots read, in their order, and the slots of
the dropped ones are marked (R66, R158). -/
theorem State.replayHolds_spec (s : State) :
    let rows := sortOut Hold.superseded (holdsRead s.jnl.store)
    ∃ j, s.replayHolds = { s with hu := { s.hu with holds := keptOf rows }, jnl := j } ∧
      s.jnl.Marked j ((droppedOf rows).map fun h => .hold h.slot) := by
  intro rows
  obtain ⟨j, h⟩ := State.foldl_mark_rest (fun h : Hold => Slot.hold h.slot) (droppedOf rows) (s.setHolds (keptOf rows))
  have m := State.marked_foldl (fun h : Hold => Slot.hold h.slot) (droppedOf rows) (s.setHolds (keptOf rows))
  rw [h] at m
  exact ⟨j, h, m⟩

end Sys2Proof.Machine
end

