-- ==== Sys2Proof/Laws/Street.lean ====
section
/-!
SUPPORT. What origination does, once for every rule that floods or sends a notice: the transmit queue, the header, the counters
slot and the van session's idle timer.
-/
namespace Sys2Proof.Machine

/-- A queue entry without its access. -/
def QueueEntry.row (e : QueueEntry) : Notice × TxClass × Bool := (e.notice, e.cls, e.relayed)

/-! ### The choice of R20 -/

theorem row_enterAccess (c : Bool) (i : Nat) (q : List QueueEntry) : (enterAccess c i q).map QueueEntry.row = q.map QueueEntry.row := by
  induction q generalizing i with
  | nil => cases i <;> rfl
  | cons e rest ih =>
    cases i with
    | zero =>
      simp only [enterAccess, List.map_cons, List.map_map]
      congr 1
      split <;> rfl
    | succ i =>
      simp only [enterAccess, List.map_cons, ih]
      rfl

/-- The choice made anew changes accesses and the slot's beginning alone. -/
theorem State.reselect_slc (s : State) :
    s.reselect.slc = { s.slc with queue := s.reselect.slc.queue, slotStart := s.reselect.slc.slotStart } := by
  unfold State.reselect
  (repeat' split) <;> simp

theorem State.reselect_rows (s : State) : s.reselect.slc.queue.map QueueEntry.row = s.slc.queue.map QueueEntry.row := by
  unfold State.reselect
  (repeat' split) <;> simp [row_enterAccess]

@[simp] theorem State.reselect_slc_frame (s : State) :
    s.reselect.slc.transmitting = s.slc.transmitting ∧ s.reselect.slc.relays = s.slc.relays ∧
    s.reselect.slc.seen = s.slc.seen ∧ s.reselect.slc.rxBuffer = s.slc.rxBuffer ∧ s.reselect.slc.assembly = s.slc.assembly ∧
    s.reselect.slc.carrier = s.slc.carrier ∧ s.reselect.slc.errCheck = s.slc.errCheck ∧
    s.reselect.slc.errLength = s.slc.errLength ∧ s.reselect.slc.errOverrun = s.slc.errOverrun ∧
    s.reselect.slc.errTruncated = s.slc.errTruncated ∧ s.reselect.slc.newErrors = s.slc.newErrors ∧
    s.reselect.slc.txDrops = s.slc.txDrops ∧ s.reselect.slc.relayDrops = s.slc.relayDrops ∧
    s.reselect.slc.neighbourDrops = s.slc.neighbourDrops ∧ s.reselect.slc.neighbours = s.slc.neighbours ∧
    s.reselect.slc.ownQuiet = s.slc.ownQuiet ∧ s.reselect.slc.beaconTimer = s.slc.beaconTimer ∧
    s.reselect.slc.originSerial = s.slc.originSerial ∧ s.reselect.slc.channel = s.slc.channel ∧
    s.reselect.slc.radioOut = s.slc.radioOut := by
  rw [State.reselect_slc]
  simp

theorem State.reselect_congr {s t : State} (h1 : s.slc = t.slc) (h2 : s.sup = t.sup) (h3 : s.timebase = t.timebase) :
    s.reselect.slc = t.reselect.slc := by
  unfold State.reselect
  rw [h1, h2, h3]
  split
  · split
    · exact h1
    · split
      · exact h1
      · rfl
  · exact h1

/-- The class is the highest of a queue. -/
def HighestOf (q : List QueueEntry) (c : TxClass) : Prop :=
  c = .urgent ∨ (∀ x ∈ q, x.cls ≠ .urgent) ∧ (c = .normal ∨ ∀ x ∈ q, x.cls ≠ .normal)

theorem chosenEntry_highest {q : List QueueEntry} {i : Nat} (h : chosenEntry q = some i) :
    ∃ e, q[i]? = some e ∧ HighestOf q e.cls := by
  unfold chosenEntry at h
  rcases h1 : q.findIdx? (fun e => decide (e.cls = .urgent)) with _ | j
  · rw [h1] at h
    simp only [Option.orElse_none] at h
    rw [List.findIdx?_eq_none_iff] at h1
    have u : ∀ x ∈ q, x.cls ≠ .urgent := fun x hx => by simpa using h1 x hx
    rcases h2 : q.findIdx? (fun e => decide (e.cls = .normal)) with _ | j
    · rw [h2] at h
      simp only [Option.orElse_none] at h
      rw [List.findIdx?_eq_none_iff] at h2
      have n : ∀ x ∈ q, x.cls ≠ .normal := fun x hx => by simpa using h2 x hx
      obtain ⟨hl, _, _⟩ := List.findIdx?_eq_some_iff_getElem.mp h
      exact ⟨q[i], by simp, .inr ⟨u, .inr n⟩⟩
    · rw [h2] at h
      simp only [Option.orElse_some, Option.some.injEq] at h
      subst h
      obtain ⟨hl, hp, _⟩ := List.findIdx?_eq_some_iff_getElem.mp h2
      exact ⟨q[j], by simp, .inr ⟨u, .inl (by simpa using hp)⟩⟩
  · rw [h1] at h
    simp only [Option.orElse_some, Option.some.injEq] at h
    subst h
    obtain ⟨hl, hp, _⟩ := List.findIdx?_eq_some_iff_getElem.mp h1
    exact ⟨q[j], by simp, .inl (by simpa using hp)⟩

theorem chosenEntry_of_ne_nil {q : List QueueEntry} (h : q ≠ []) : ∃ i, chosenEntry q = some i := by
  unfold chosenEntry
  rcases h1 : q.findIdx? (fun e => decide (e.cls = .urgent)) with _ | j
  · rcases h2 : q.findIdx? (fun e => decide (e.cls = .normal)) with _ | j
    · rcases h3 : q.findIdx? (fun e => decide (e.cls = .background)) with _ | j
      · rw [List.findIdx?_eq_none_iff] at h1 h2 h3
        obtain ⟨e, rest, rfl⟩ := List.exists_cons_of_ne_nil h
        have := h1 e (by simp)
        have := h2 e (by simp)
        have := h3 e (by simp)
        cases hc : e.cls <;> simp_all
      · exact ⟨j, by simp only [h1, h2, h3, Option.orElse_none]⟩
    · exact ⟨j, by simp only [h1, h2, Option.orElse_none, Option.orElse_some]⟩
  · exact ⟨j, by simp only [h1, Option.orElse_some]⟩

theorem enterAccess_getElem? (c : Bool) {i : Nat} {q : List QueueEntry} (h : i < q.length) :
    ∃ e, (enterAccess c i q)[i]? = some e ∧ e.access.isSome = true ∧ some e.cls = q[i]?.map (·.cls) := by
  induction q generalizing i with
  | nil => simp at h
  | cons e rest ih =>
    cases i with
    | zero =>
      simp only [enterAccess, List.getElem?_cons_zero]
      split <;> simp_all
    | succ i =>
      simp only [enterAccess, List.getElem?_cons_succ]
      exact ih (by simpa using h)

theorem HighestOf.of_rows {q r : List QueueEntry} (h : q.map QueueEntry.row = r.map QueueEntry.row) {c : TxClass}
    (hq : HighestOf q c) : HighestOf r c := by
  have hc : q.map (·.cls) = r.map (·.cls) := by
    have := congrArg (List.map fun x : Notice × TxClass × Bool => x.2.1) h
    simpa [Function.comp_def, QueueEntry.row] using this
  have hm : ∀ k, (∀ x ∈ q, x.cls ≠ k) → ∀ x ∈ r, x.cls ≠ k := by
    intro k hk x hx e
    have : k ∈ q.map (·.cls) := by
      rw [hc]
      exact List.mem_map.mpr ⟨x, hx, e⟩
    obtain ⟨y, hy, rfl⟩ := List.mem_map.mp this
    exact hk y hy rfl
  rcases hq with h | ⟨h1, h2⟩
  · exact .inl h
  · exact .inr ⟨hm _ h1, h2.imp id (hm _)⟩

/-- In RUN with nothing in flight, a queue that is not empty has an entry of its highest class in access. -/
theorem State.reselect_access (s : State) (h : s.sup.start = .run) (h2 : s.slc.transmitting = none) (hq : s.slc.queue ≠ []) :
    ∃ e ∈ s.reselect.slc.queue, e.access.isSome = true ∧ HighestOf s.reselect.slc.queue e.cls := by
  obtain ⟨i, hi⟩ := chosenEntry_of_ne_nil hq
  obtain ⟨e, he, hb⟩ := chosenEntry_highest hi
  unfold State.reselect
  rw [if_pos ⟨h, h2⟩, hi]
  dsimp only
  split
  · rename_i hx
    simp only [he, Option.bind_some] at hx
    exact ⟨e, List.mem_of_getElem? he, hx, hb⟩
  · simp only [State.setSlc_slc]
    obtain ⟨e', h1, h3, h4⟩ := enterAccess_getElem? s.slc.carrier (List.getElem?_eq_some_iff.mp he).1
    rw [he] at h4
    simp only [Option.map_some, Option.some.injEq] at h4
    exact ⟨e', List.mem_of_getElem? h1, h3, HighestOf.of_rows (row_enterAccess _ _ _).symm (h4 ▸ hb)⟩

/-! ### Origination (R19) -/

/-- The notice that origination makes. -/
def State.originated (s : State) (body : NoticeBody) (dest : Node) : Notice :=
  { origin := s.node, serial := s.slc.originSerial, sender := s.node,
    hops := if body.scope = .flooded then s.sup.image.hopLimit else 0,
    dest := if body.scope = .addressed then dest else 0, body := body }

theorem State.originate_eq (s : State) (body : NoticeBody) (dest : Node) :
    s.originate body dest =
      (((s.touchVanSession body dest).setSlc { s.slc with originSerial := nextSerial s.slc.originSerial }).mark .counters).enqueue
        (s.originated body dest) body.cls false := by
  unfold State.originate State.originated
  cases h : body.scope <;> simp

theorem State.touchVanSession_bu (s : State) (body : NoticeBody) (dest : Node) :
    (s.touchVanSession body dest).bu = { s.bu with vanSession := s.bu.vanSession.map fun v =>
      if body.scope = .addressed ∧ v.state = .opened ∧ v.station = dest then { v with idleStart := s.timebase } else v } := by
  unfold State.touchVanSession
  rcases h : s.bu with ⟨a, b, c, d, e, f, g, i, j, k, v, l, m, n⟩
  cases v with
  | none => simp [h]
  | some v =>
    dsimp only
    split <;> simp_all

@[simp] theorem State.originate_jnl (s : State) (body : NoticeBody) (dest : Node) :
    (s.originate body dest).jnl = s.jnl.mark .counters := by
  rw [State.originate_eq]
  simp

/-- Origination changes the street link, marks the counters slot and may restart a van session's idle timer, and nothing else. -/
theorem State.originate_frame_eq (s : State) (body : NoticeBody) (dest : Node) :
    s.originate body dest = { s with
      slc := (s.originate body dest).slc, jnl := s.jnl.mark .counters, bu := (s.touchVanSession body dest).bu } := by
  have h : (s.originate body dest).bu = (s.touchVanSession body dest).bu := by
    rw [State.originate_eq]
    simp
  apply State.eq_of_blocks <;> simp [h]

/-- What origination does to the street link depends on the street link, the image, the start state and the timebase alone. -/
theorem State.originate_slc_congr {s t : State} (body : NoticeBody) (dest : Node) (h1 : s.slc = t.slc) (h2 : s.sup = t.sup)
    (h3 : s.timebase = t.timebase) : (s.originate body dest).slc = (t.originate body dest).slc := by
  unfold State.originate State.enqueue
  apply State.reselect_congr
  · simp [h1, h2, State.node]
  · simp [h2]
  · simp [h3]

/-- Origination touches only the queue, the slot's beginning, the drop count and the serial counter of the street link. -/
@[simp] theorem State.originate_slc_frame (s : State) (body : NoticeBody) (dest : Node) :
    (s.originate body dest).slc.transmitting = s.slc.transmitting ∧ (s.originate body dest).slc.relays = s.slc.relays ∧
    (s.originate body dest).slc.seen = s.slc.seen ∧ (s.originate body dest).slc.rxBuffer = s.slc.rxBuffer ∧
    (s.originate body dest).slc.assembly = s.slc.assembly ∧ (s.originate body dest).slc.carrier = s.slc.carrier ∧
    (s.originate body dest).slc.errCheck = s.slc.errCheck ∧ (s.originate body dest).slc.errLength = s.slc.errLength ∧
    (s.originate body dest).slc.errOverrun = s.slc.errOverrun ∧
    (s.originate body dest).slc.errTruncated = s.slc.errTruncated ∧
    (s.originate body dest).slc.newErrors = s.slc.newErrors ∧ (s.originate body dest).slc.relayDrops = s.slc.relayDrops ∧
    (s.originate body dest).slc.neighbourDrops = s.slc.neighbourDrops ∧
    (s.originate body dest).slc.neighbours = s.slc.neighbours ∧ (s.originate body dest).slc.ownQuiet = s.slc.ownQuiet ∧
    (s.originate body dest).slc.beaconTimer = s.slc.beaconTimer ∧ (s.originate body dest).slc.channel = s.slc.channel ∧
    (s.originate body dest).slc.radioOut = s.slc.radioOut ∧
    (s.originate body dest).slc.originSerial = nextSerial s.slc.originSerial := by
  rw [State.originate_eq]
  simp [State.enqueue]

end Sys2Proof.Machine
end

