-- ==== Sys2Proof/Tests/Slice0.lean ====
section
/-!
SUPPORT. Tests of the model: ill-formed commands refused, values worked out in the manual's own cases, one step on a small state for
some commands of each family, and for each statement with hypotheses a concrete state and operands that meet them. The source of an
expected value is named above its theorem.
-/
set_option Elab.async false

namespace Sys2Proof.Machine.Tests
open Sys2Proof Sys2Proof.Machine

/-! ### States the tests build on -/

/-- The state after a command; the state itself should the command stop. -/
def after (c : Instr) (s : State) : State :=
  match exec c s with
  | .next t => t
  | .fault _ | .refused _ => s

/-- A station in RUN, node 112, with six docks and a target fill of 4, at 2022-03-07 20:26:40. -/
def station : State :=
  { State.reset with
    clk := { State.reset.clk with dom := { State.reset.clk.dom with time := 700000000, grade := 2, clockLost := false } },
    sup := { State.reset.sup with
      start := .run, image := { Image.default with node := 112, dockCount := 6, targetFill := 4 } } }

/-- A van in RUN, node 301. -/
def van : State :=
  { station with sup := { station.sup with image := { station.sup.image with node := 301, role := .van } } }

/-- The state with this request in progress. -/
def asking (s : State) (r : Request) : State := { s with kl := { s.kl with link := .working, inProgress := some r } }

/-- A heard dock, as the events of Chapter 3 leave one, in this state. -/
def heardDock (st : DockState) (bike : Option Bike) : Dock :=
  { Dock.initial 0 with state := st, heard := true, bike := bike.map fun b => { bike := b, time := 699999000 } }

/-- The state with this entry at dock 1 and its post polled for an event. -/
def atDock (s : State) (k : Dock) : State :=
  State.putDock { s with du := { s.du with polled := some (1, .event) } } 1 k

/-- The state with another start state. -/
def inStart (s : State) (st : StartState) : State := { s with sup := { s.sup with start := st } }

/-- A member's card that is valid. -/
def member : CardRecord := { card := 7730411, cls := .member, validUntil := { year := 2090, month := 1, day := 1 } }

def memberAnswer : CardAnswer := { card := 7730411, classCode := 1, validUntil := { year := 2090, month := 1, day := 1 } }

/-! ### Ill-formed commands -/

theorem test_wf_sendTransfer : [Instr.sendTransfer 0xC1 [1, 1, 0] [], .sendTransfer 0xC1 [1, 0, 0xFE, 0] [], .sendTransfer 0xC2 [] []].any
    Instr.wf = false := by decide
theorem test_wf_sendTransferCut : [Instr.sendTransferCut [0xC1, 1, 0, 0xFE], .sendTransferCut [0xC2]].any Instr.wf = false := by decide
theorem test_wf_fetchTransfer : [Instr.fetchTransfer [0xC1] ⟨0, 0⟩, .fetchTransfer [0xC2, 0] ⟨65536, 0⟩].any Instr.wf = false := by
  decide
theorem test_wf_restartSense : (Instr.restartAnswerTimeout { battery := 0, temperature := 32768 }).wf = false := by decide
theorem test_wf_mask : (Instr.setAttentionMask 256).wf = false := by decide
theorem test_wf_takeRecords : (Instr.takeRecords 256).wf = false := by decide
theorem test_wf_settlement : (Instr.setSettlement 1 65536).wf = false := by decide
theorem test_wf_setTime : (Instr.setTime ⟨65536, 1, 1, 0, 0, 0⟩).wf = false := by decide
theorem test_wf_loadBand : (Instr.loadBand 0 { BandTerms.default with lostFee := 4294967296 }).wf = false := by decide
theorem test_wf_loadClass : (Instr.loadClass 0 ⟨100, 65536, 1, 0⟩).wf = false := by decide
theorem test_wf_loadWindow : (Instr.loadWindow 0 ⟨1, 0, 0, 0, 0, 65536, 0⟩).wf = false := by decide
theorem test_wf_cards :
    [Instr.holdCard 4294967296 0, .liftHold 1 256, .queryCard 1 (some ⟨2000, 256, 1⟩)].any Instr.wf = false := by decide
theorem test_wf_bikes : [Instr.queryBike 16777216, .unload 16777216].any Instr.wf = false := by decide
theorem test_wf_faults : [Instr.reportFault 0 16777216 0 1, .clearFault 256 0].any Instr.wf = false := by decide
theorem test_wf_docks : [Instr.dockDisable 256, .dockEnable 256, .take 256].any Instr.wf = false := by decide
theorem test_wf_van : [Instr.claim 65536 0 1 5, .openSession 65536].any Instr.wf = false := by decide
theorem test_wf_announce : (Instr.announceDelivery [16777216]).wf = false ∧
    (Instr.announceDelivery (List.replicate 85 1)).wf = false := by decide +kernel
theorem test_wf_block : (Instr.writeOptions [0]).wf = false := by decide
theorem test_wf_inputs : [Instr.powerHoldEnd ⟨0, 65536, 0⟩, .resetRelease ⟨0, -32769⟩, .batteryReading 65536,
    .temperatureSample 32768].any Instr.wf = false := by decide
theorem test_wf_frames : [Instr.frameCompleted [0], .frameCompleted (1 :: 0 :: List.replicate 268 0), .bodyLengthArrived 65536].any
    Instr.wf = false := by decide +kernel
theorem test_wf_street : [Instr.relayDelayExpiry 65536 0, .neighbourQuietExpiry 65536, .neighbourAgeExpiry 65536].any
    Instr.wf = false := by decide
theorem test_wf_bus : [Instr.heartbeat 256 0, .card 256 memberAnswer, .card 1 ⟨1, 256, ⟨2090, 1, 1⟩⟩, .bikeOut 256, .bikeIn 1 16777216,
    .button 256, .lockFail 256].any Instr.wf = false := by decide
theorem test_wf_dockTimers : [Instr.releaseTimeout 256, .returnWindowExpiry 256, .lampTransientEnd 256, .postSilence 256].any
    Instr.wf = false := by decide
theorem test_wf_timers : [Instr.pendingCloseRepeat 1 4294967296, .claimExpiry 65536 0, .claimAnswerTimeout 256, .vanClaimExpiry 256,
    .takeAnswerTimeout 256, .takeCompletionTimeout 256].any Instr.wf = false := by decide
theorem test_wf_admits : [Instr.rawTick, .setTime ⟨2025, 2, 29, 0, 0, 0⟩, .holdCard 4294967295 255, .card 24 memberAnswer].all
    Instr.wf = true := by decide

/-! ### Station time -/

/-- R1: station time 0 is 2000-01-01 00:00:00, a Saturday. -/
theorem test_epoch : calendarOf 0 = ⟨2000, 1, 1, 0, 0, 0⟩ ∧ weekdayOf 0 = 6 := by decide +kernel

/-- R1: the last station time is 2099-12-31 23:59:59. -/
theorem test_lastTime : calendarOf lastTime = ⟨2099, 12, 31, 23, 59, 59⟩ := by decide +kernel

/-- R7: dates that do not exist, and one that does. -/
theorem test_dates : dateExists ⟨2025, 2, 29⟩ = false ∧ dateExists ⟨2024, 4, 31⟩ = false ∧ dateExists ⟨2024, 2, 29⟩ = true := by
  decide

/-- Section 1.3.1: the clock of the cold morning just before its threshold, at 08:14:59. -/
def coldMorning : State :=
  { station with clk := { station.clk with dom := { station.clk.dom with
      time := secondsOf ⟨2025, 1, 14, 8, 14, 59⟩, drift := -9999909, trimA := 35, trimK := 34, trimT0 := 25, temperature := 5 } } }

/-- Section 1.3.1: the tick that reaches the threshold counts an extra second, passes the boundary at 08:15:00 once, and leaves -10. -/
theorem test_rawTick_extra : let c := (after .rawTick coldMorning).clk
    c.dom.time = secondsOf ⟨2025, 1, 14, 8, 15, 1⟩ ∧ c.dom.drift = -10 ∧ c.boundaries = [secondsOf ⟨2025, 1, 14, 8, 15, 0⟩] := by
  decide +kernel

/-- Section 1.6.1: at 09:15:10 with a correction of INSERT 12 due, the next tick arrives at 09:15:12 with 11 left. -/
theorem test_rawTick_slew : let s := { station with clk := { station.clk with
      slew := some { direction := .insert, count := 12 }, slewDue := true,
      dom := { station.clk.dom with time := secondsOf ⟨2025, 1, 14, 9, 15, 10⟩ } } }
    (after .rawTick s).now = secondsOf ⟨2025, 1, 14, 9, 15, 12⟩ ∧
      (after .rawTick s).clk.slew = some { direction := .insert, count := 11 } := by decide +kernel

/-- Section 1.9.1: the weekday table. -/
def weekdayTable : State :=
  { station with clk := { station.clk with windows :=
      #v[{ enabled := true, closes := true, band := none, weekdays := none, months := none, startMinute := 120, endMinute := 300 },
         { enabled := true, closes := false, band := some 2, weekdays := some 0b0011111, months := none, startMinute := 420,
           endMinute := 600 },
         { enabled := true, closes := false, band := some 1, weekdays := none, months := some (11, 2), startMinute := 1320,
           endMinute := 360 },
         Window.blank, Window.blank, Window.blank, Window.blank, Window.blank] } }

/-- The three results of the weekday table at a calendar time. -/
def windowResults (c : CalendarTime) : BitVec 8 × Nat × Bool :=
  let s := { weekdayTable with clk := { weekdayTable.clk with dom := { weekdayTable.clk.dom with time := secondsOf c } } }
  (s.evaluateWindows.clk.matchSet, s.evaluateWindows.clk.band, s.evaluateWindows.clk.closed)

/-- Section 1.9.1: the six rows of its results. -/
theorem test_windows :
    windowResults ⟨2025, 1, 14, 8, 30, 0⟩ = (0b010, 2, false) ∧ windowResults ⟨2025, 1, 14, 23, 15, 0⟩ = (0b100, 1, false) ∧
    windowResults ⟨2025, 1, 15, 3, 0, 0⟩ = (0b101, 1, true) ∧ windowResults ⟨2025, 1, 15, 6, 0, 0⟩ = (0, 0, false) ∧
    windowResults ⟨2025, 5, 10, 8, 30, 0⟩ = (0, 0, false) ∧ windowResults ⟨2025, 11, 3, 5, 59, 0⟩ = (0b100, 1, false) := by
  decide +kernel

/-- R4: a sample is clamped to +85. -/
theorem test_temperatureSample :
    (after (.temperatureSample 90) { station with clk := { station.clk with sampleTicks := 60 } }).clk.dom.temperature = 85 := by
  decide

/-- R6: after 21,600 raw ticks the grade rises from 2 to 3. -/
theorem test_gradeRise : (after .gradeRise { station with clk := { station.clk with
      dom := { station.clk.dom with gradeTimer := 21600 } } }).clk.dom.grade = 3 := by decide

/-- R7: SET TIME of a date that does not exist is refused, and an hour on is a step with source KIOSK. -/
theorem test_setTime : let c : CalendarTime := ⟨2022, 3, 7, 21, 26, 40⟩
    let bad : CalendarTime := ⟨2025, 2, 29, 0, 0, 0⟩
    (after (.setTime bad) (asking station (.setTime bad))).kl.held = some ⟨.badValue, []⟩ ∧
      (after (.setTime c) (asking station (.setTime c))).clk.lastStep = some { source := none, amount := 3600 } := by
  decide +kernel

/-! ### The kiosk link -/

/-- R186, R164: a send begins with 0xC1; GET STATUS is code 1 with an empty body, and the complement of 1 is 0xFE. 0xFF goes out while
the four bytes come in, and the receipt 0xF0 for the byte after them. -/
theorem test_sendTransfer : let t := after (.sendTransfer 0xC1 [1, 0, 0xFE] [0]) station
    t.kl.link = .working ∧ t.kl.inProgress = some .getStatus ∧ t.kl.shiftedOut = [0xFF, 0xFF, 0xFF, 0xFF, 0xF0] := by decide

/-- R163: while a request is worked on, the receipt is a whole BUSY answer: status 9, length 0, check 0xF6. -/
theorem test_sendTransfer_busy : (after (.sendTransfer 0xC1 [1, 0, 0xFE] [0, 0, 0, 0, 0]) (asking station .getCause)).kl.shiftedOut =
    [0xFF, 0xFF, 0xFF, 0xFF, 9, 0, 0, 0xF6, 0xFF] := by decide

/-- R163, R186: a frame cut short in IDLE is answered BAD_LENGTH, and only 0xFF goes out. -/
theorem test_sendTransferCut : let t := after (.sendTransferCut [0xC1, 1]) station
    t.kl.held = some ⟨.badLength, []⟩ ∧ t.kl.shiftedOut = [0xFF, 0xFF] := by decide

/-- R162, R186: a fetch begins with 0xC2; with no answer held it shifts out 0xFF, 0xF2 and fill. A first byte of 0xC3 is ignored. -/
theorem test_fetchTransfer : (after (.fetchTransfer [0xC2, 0, 0, 0] ⟨1200, 20⟩) station).kl.shiftedOut = [0xFF, 0xF2, 0xFF, 0xFF] ∧
    (after (.fetchTransfer [0xC3, 0, 0, 0] ⟨1200, 20⟩) station).kl.shiftedOut = [0xFF, 0xFF, 0xFF, 0xFF] := by decide

/-- R171: SUPPLY outranks TIME, is reported with the pending set, and is cleared; TIME stays. -/
theorem test_getCause : let t := after .getCause (asking { station with kl := { station.kl with
      raised := { station.kl.raised with supply := true } } } .getCause)
    t.kl.held = some ⟨.ok, [1, 0b0100001]⟩ ∧ t.kl.raised.supply = false ∧ t.kl.raised.time = true := by decide

/-- R169: enables beyond the seven causes are refused. -/
theorem test_setAttentionMask :
    (after (.setAttentionMask 128) (asking station (.setAttentionMask 128))).kl.held = some ⟨.badValue, []⟩ := by decide

/-- R152: an idle timeout of 1 s is clamped to 5 s and answered with the trigger. -/
theorem test_setSettlement :
    (after (.setSettlement 4 1) (asking station (.setSettlement 4 1))).kl.held = some ⟨.ok, [4, 0, 5]⟩ := by decide

/-- R166: READ DOCKS is not answered in role VAN. -/
theorem test_wrongRole : (after .readDocks (asking van .readDocks)).kl.held = some ⟨.wrongRole, []⟩ := by decide

/-- R167: RESTART is answered OK at once, and the link waits in RESTARTING. -/
theorem test_restart : let t := after .restart (asking station .restart)
    t.kl.link = .restarting ∧ t.kl.held = some ⟨.ok, []⟩ := by decide

/-! ### Fares -/

/-- Section 5.7.1: bands 1 and 2, and the MEMBER class. -/
def bandOne : BandTerms :=
  { unlock := 100, free := 30, grace := 2, block := 15, price := 150, cap := 1500, lateAfter := 240, lateFee := 500, lostFee := 25000 }
def bandTwo : BandTerms :=
  { unlock := 100, free := 20, grace := 2, block := 10, price := 120, cap := 1200, lateAfter := 240, lateFee := 500, lostFee := 25000 }
def ride (terms : BandTerms) (seconds : Nat) (endsHere : Bool) (spent : Cents) : FareQuestion :=
  { terms := terms, classTerms := { percent := 80, dayCap := 1500, waived := false }, start := 700000000,
    endTime := 700000000 + seconds, endsHere := endsHere, late := false, endGrade := 2, ownGrade := 0, stepped := false,
    maxHire := 1440, spent := spent }

/-- Section 5.7.1: the three rides, 272, 440 and 1,288 cents. -/
theorem test_fares :
    (priceHire (ride bandTwo 2255 false 0)).amount = 272 ∧ (priceHire (ride bandOne 3725 true 272)).amount = 440 ∧
    (priceHire (ride bandOne 17000 false 712)).amount = 1288 ∧ (priceHire (ride bandOne 17000 false 712)).capped = 788 ∧
    (priceHire (ride bandOne 17000 false 712)).flags =
      { skew := false, clamped := false, falseStart := false, rideCap := true, dayCap := true, late := true, clockUnsure := false,
        stepped := false } := by decide

/-- Section 5.7.3: put straight back here, and elsewhere. -/
theorem test_falseStart : (priceHire (ride bandOne 75 true 0)).outcome = .falseStart ∧
    (priceHire (ride bandOne 75 false 0)).amount = 80 := by decide

/-- Section 5.7.2: from a full table the older of the two least entries goes, and the new one stands at the end. -/
theorem test_addSpend : let others := (List.range 29).map fun i => ({ card := 2000 + i, spent := 120 } : DaySpend)
    addSpend (⟨1001, 150⟩ :: ⟨1002, 80⟩ :: ⟨1003, 80⟩ :: others) 7730411 272 =
      ⟨1001, 150⟩ :: ⟨1003, 80⟩ :: others ++ [⟨7730411, 272⟩] := by decide +kernel

/-- R93: a lost-bike fee above 100,000 cents is refused, and so is band 4 (R95). -/
theorem test_loadBand : (after (.loadBand 4 bandOne) (asking station (.loadBand 4 bandOne))).kl.held = some ⟨.badValue, []⟩ ∧
    (after (.loadBand 1 bandOne) (asking station (.loadBand 1 bandOne))).fu.bands[1] = bandOne := by decide +kernel

/-! ### Frames -/

/-- R185: the cyclic check of polynomial 0x1021 that starts from all ones, uninverted, over the nine digits is 0x29B1. -/
theorem test_noticeCheck : noticeCheck [0x31, 0x32, 0x33, 0x34, 0x35, 0x36, 0x37, 0x38, 0x39] = 0x29B1 := by decide +kernel

/-- R185: the bytes of a HIRE CLOSE of bike 40117 at station time 700,000,000 and grade 2 without an identity, laid out by hand. -/
theorem test_hireClose_bytes :
    Notice.bytes { origin := 140, serial := 258, sender := 140, hops := 3, dest := 0, body := .hireClose 40117 700000000 2 none } =
      [0, 12, 1, 0, 140, 1, 2, 0, 140, 3, 0, 0, 0x00, 0x9C, 0xB5, 0x29, 0xB9, 0x27, 0x00, 2, 0, 0, 0, 0] := by decide +kernel

/-- R27: an origin of 0 fails the range test, and a dock of 25 does. -/
theorem test_frameRanges : let n : Notice := { origin := 140, serial := 1, sender := 140, hops := 0, dest := 112, body := .takeRequest 1 24 }
    testFrame 112 n.frame = .valid n ∧ testFrame 112 (Notice.frame { n with origin := 0 }) = .badLength ∧
    testFrame 112 (Notice.frame { n with body := .takeRequest 1 25 }) = .badLength := by decide +kernel

/-- R188: the poll of dock 7 with UNLOCK and GREEN in its slots, before its check. -/
theorem test_pollFrame : (pollFrame 7 .event (some .unlock) (some .green)).take 4 = [7, 1, 1, 2] := by decide

/-- R189: a dock count of 0 becomes 1, a hop limit of 7 becomes 4, a channel of 20 becomes 15 and a trim A of -300 becomes -200. -/
theorem test_imageOf : let i := imageOf [0, 112, 0, 0, 0, 20, 7, 5, 160, 2, 1, 0xFE, 0xD4, 0, 25, 0]
    i.dockCount = 1 ∧ i.hopLimit = 4 ∧ i.channel = 15 ∧ i.trimA = -200 ∧ i.node = 112 ∧ i.maxHire = 1440 := by decide +kernel

/-! ### Docks -/

/-- Section 3.4.1: dock 7's second timeout in a row of two, and the third, which faults the dock; here at dock 1. -/
theorem test_releaseTimeout : let releasing (untaken : Nat) : State := atDock station { heardDock .releasing (some 880214) with
      release := some { purpose := .member, card := some member, start := 0 }, untaken := untaken }
    (after (.releaseTimeout 1) (releasing 1)).dock 1 = { (after (.releaseTimeout 1) (releasing 1)).dock 1 with
      state := .holding, untaken := 2, lockSlot := some .lock, lampSlot := some .red, release := none } ∧
    (after (.releaseTimeout 1) (releasing 2)).dock 1 = { (after (.releaseTimeout 1) (releasing 2)).dock 1 with
      state := .faulted, untaken := 0, faultMark := true, release := none } := by decide +kernel

/-- R46: a grant releases the dock with UNLOCK and GREEN; a card past its date is refused and shown RED. -/
theorem test_card : let t := after (.card 1 memberAnswer) (atDock station (heardDock .holding (some 40117)))
    let u := after (.card 1 { memberAnswer with validUntil := ⟨2001, 1, 1⟩ }) (atDock station (heardDock .holding (some 40117)))
    (t.dock 1).state = .releasing ∧ (t.dock 1).lockSlot = some .unlock ∧ (t.dock 1).lampSlot = some .green ∧
    (u.dock 1).state = .holding ∧ (u.dock 1).lastRefusal = some .cardInvalid ∧ (u.dock 1).lampSlot = some .red := by decide +kernel

/-- Section 4.6.1: the BIKE_OUT opens hire 112:3071 and floods HIRE OPEN. -/
theorem test_bikeOut : let s := atDock { station with hu := { station.hu with hireSerial := 3071 } } { heardDock .releasing (some 40117) with
      release := some { purpose := .member, card := some member, start := 0 } }
    let t := after (.bikeOut 1) s
    t.hu.owned.map (fun o => (o.fields.serial, o.fields.bike, o.fields.card)) = [(3071, 40117, 7730411)] ∧
    t.slc.queue.map (·.notice.body) = [.hireOpen ⟨112, 3071⟩ 7730411 .member 40117 700000000 1] ∧ (t.dock 1).state = .empty := by
  decide +kernel

/-- Section 4.6.1: the return at another station posts a RETURN note, floods HIRE CLOSE and makes a pending close. -/
theorem test_bikeIn : let s := atDock { station with hu := { station.hu with
      heard := [{ hire := ⟨140, 3071⟩, card := 7730411, bike := 40117, start := 699990000, heard := 699990001 }] } } (heardDock .empty none)
    let t := after (.bikeIn 1 40117) s
    t.hu.heard = [] ∧ t.sq.queue.map (·.fields.body) = [.returned 40117 1 700000000 (some ⟨140, 3071⟩)] ∧
    t.slc.queue.map (·.notice.body) = [.hireClose 40117 700000000 2 (some ⟨140, 3071⟩)] ∧
    t.hu.pendingClose.map (fun p => (p.bike, p.endTime, p.repeats)) = [(40117, 700000000, 0)] := by decide +kernel

/-- Section 6.6.1: the first press in a window reports the bike at severity 1 with the window's card; the second does nothing. -/
theorem test_button : let s := atDock station { heardDock .holding (some 51733) with
      window := some { start := 0, card := some 7730411, taken := false } }
    let t := after (.button 1) s
    t.flt.log.map (fun e => (e.subject, e.kind, e.severity, e.cards)) = [(.bike 51733, .reported, 1, [7730411])] ∧
    (after (.button 1) { t with du := { t.du with polled := some (1, .event) } }).flt = t.flt := by decide +kernel

/-- R54, R55: a LOCK_FAIL faults the dock. -/
theorem test_lockFail : ((after (.lockFail 1) (atDock station (heardDock .empty none))).dock 1).state = .faulted := by decide +kernel

/-- R57: a post silent for 30 s takes its dock OFFLINE. -/
theorem test_postSilence : let t := after (.postSilence 1) (atDock station (heardDock .empty none))
    (t.dock 1).state = .offline ∧ t.timebase = 30000 ∧ t.flt.log.map (·.kind) = [.postSilent] := by decide +kernel

/-- R59: the first heartbeat of a post with a bike settles its dock as HOLDING. -/
theorem test_heartbeat : let t := after (.heartbeat 1 40117) (atDock station (Dock.initial 0))
    (t.dock 1).state = .holding ∧ (t.dock 1).bike = some ⟨40117, 700000000⟩ ∧ (t.dock 1).window = none := by decide +kernel

/-- R45, R58: a heartbeat that answers a STATUS poll of an OFFLINE dock settles it, though its post is no longer silent. -/
theorem test_heartbeat_status : let s := atDock station (heardDock .offline (some 40117))
    ((after (.heartbeat 1 40117) { s with du := { s.du with polled := some (1, .status) } }).dock 1).state = .holding := by
  decide +kernel

/-- R56: a dock number above the dock count is refused, and a configured one is DISABLED. -/
theorem test_dockDisable : (after (.dockDisable 7) (asking station (.dockDisable 7))).kl.held = some ⟨.badValue, []⟩ ∧
    ((after (.dockDisable 6) (asking station (.dockDisable 6))).dock 6).state = .disabled := by decide +kernel

/-! ### Cards, faults and rebalancing -/

/-- R67: a hold placed here takes the next hold serial and the answer carries its identity and that it is new. -/
theorem test_holdCard : let t := after (.holdCard 51002 0) (asking station (.holdCard 51002 0))
    t.kl.held = some ⟨.ok, [0, 112, 0, 0, 1]⟩ ∧ t.slc.queue.map (·.notice.body) = [.cardHold ⟨112, 0⟩ 51002 .lost] := by decide +kernel

/-- R114: a report of severity 3 quarantines the bike and raises FAULT. -/
theorem test_reportFault : let t := after (.reportFault 0 51733 0 3) (asking station (.reportFault 0 51733 0 3))
    t.du.quarantined 51733 = true ∧ t.kl.raised.fault = true ∧ t.kl.held = some ⟨.ok, [0, 112, 0, 0, 1, 3]⟩ := by decide +kernel

/-- R118: CLEAR FAULT marks the entry CLEARED, lifts the quarantine and answers one entry. -/
theorem test_clearFault : let s := after (.reportFault 0 51733 0 3) (asking station (.reportFault 0 51733 0 3))
    let t := after (.clearFault 0 51733) (asking s (.clearFault 0 51733))
    t.du.quarantined 51733 = false ∧ t.flt.log.map (·.state) = [.cleared] ∧ t.kl.held = some ⟨.ok, [0, 1]⟩ := by decide +kernel

/-- Section 7.2.1: station 205's docks and ring. -/
def emptying : State :=
  { station with
    sup := { station.sup with image := { station.sup.image with node := 205, dockCount := 24, targetFill := 12 } },
    bu := { station.bu with ring := [{ outs := 14, ins := 6 }] },
    du := { station.du with
      docks := Vector.ofFn fun i => if i.val < 2 then heardDock .faulted none else if i.val < 9 then heardDock .holding (some (1000 + i.val))
        else heardDock .empty none,
      bikes := [{ bike := 1002, quarantine := some ⟨⟨205, 1⟩, 2⟩, missing := none },
                { bike := 1003, quarantine := some ⟨⟨205, 2⟩, 2⟩, missing := none }] } }

/-- Section 7.2.1: raw need 15, wanted DELIVER 15, wanted COLLECT 0, published 15. -/
theorem test_need : let b := emptying.recomputeNeed.bu
    emptying.countW = 22 ∧ emptying.countA = 5 ∧ emptying.countQd = 2 ∧
    b.rawNeed = 15 ∧ b.wantDeliver = 15 ∧ b.wantCollect = 0 ∧ b.published = 15 := by decide +kernel

/-- Section 7.3.1: two vans claim one station. -/
theorem test_claims : let s := emptying.recomputeNeed
    let t := (s.takeClaim 301 17 .deliver 10 40).takeClaim 302 5 .deliver 8 40
    let u := (t.takeClaim 302 5 .deliver 8 40).takeClaim 303 2 .deliver 4 20
    t.bu.claims.map (fun c => (c.id.node, c.granted)) = [(301, 10), (302, 5)] ∧ t.bu.published = 0 ∧
    u.slc.queue.map (·.notice.body) = [.claimAnswer 17 .granted 10, .claimAnswer 5 .trimmed 5, .claimAnswer 5 .trimmed 5,
      .claimAnswer 2 .refusedNoNeed 0] := by decide +kernel

/-- R138: OPEN SESSION to the van's own number is refused, and to a station is sent and waited for. -/
theorem test_openSession : (after (.openSession 301) (asking van (.openSession 301))).kl.held = some ⟨.badValue, []⟩ ∧
    (after (.openSession 112) (asking van (.openSession 112))).slc.queue.map (fun e => (e.notice.dest, e.notice.body)) =
      [(112, .sessionOpen)] := by decide +kernel

/-! ### Settlement, journal and supply -/

/-- The example after R150: 40 owned hires and 2 member releases leave a note limit of 22. -/
theorem test_noteLimit : let hire (i : Nat) : OwnedHire :=
      { fields := { serial := i, card := 1, cls := .member, bike := i, dock := 1, start := 0, band := 0, terms := bandOne,
                    classTerms := ⟨100, 0, false⟩, stepped := false }, durable := true, slot := i }
    let releasing := { heardDock .releasing (some 5) with release := some { purpose := .member, card := some member, start := 0 } }
    (State.noteLimit { station with
      hu := { station.hu with owned := (List.range 40).map hire },
      du := { station.du with docks := (station.du.docks.set 0 releasing).set 1 releasing } }) = 22 := by decide +kernel

/-- R154, R155: a band loaded marks its slot; the write puts it in the store. -/
theorem test_journal : let s := after (.loadBand 2 bandOne) (asking station (.loadBand 2 bandOne))
    let t := after (.journalWriteEnd true) (after .journalWriteStart s)
    s.jnl.writeList = [.band 2] ∧ t.jnl.writeList = [] ∧ t.jnl.store.read 2 = some (.band bandOne) := by decide +kernel

/-- Section 10.2.1: the tenth reading below 12.00 V moves NORMAL to SAVING and raises SUPPLY; a reading of 12.00 V restarts the count. -/
theorem test_batteryReading : let s := { station with sup := { station.sup with down := 9 } }
    (after (.batteryReading 1195) s).sup.supply = .saving ∧ (after (.batteryReading 1195) s).kl.raised.supply = true ∧
    (after (.batteryReading 1200) s).sup.down = 0 := by decide +kernel

/-- R178: a first reading of 11.99 V at the end of the POWER hold gives SAVING, against the default thresholds. R181: the hold ends
100 ms after the supply has risen, here 2 s after its fall. -/
theorem test_powerHoldEnd : let t := after (.powerHoldEnd ⟨2000, ⟨1199, 20⟩⟩) (after .brownOut station)
    t.sup.supply = .saving ∧ t.timebase = station.timebase + 2100 := by decide +kernel

/-- R182: the listen timer's 30 s end in RUN. -/
theorem test_listenTimerExpiry : let t := after .listenTimerExpiry (inStart station .listen)
    t.sup.start = .run ∧ t.timebase = 30000 := by decide +kernel

/-! ### The street link -/

/-- The station with a HIRE CLOSE in access, counting 1. -/
def counting : State :=
  { station with slc := { station.slc with queue :=
      [{ notice := { origin := 112, serial := 7, sender := 112, hops := 3, dest := 0, body := .hireClose 40117 700000000 2 none },
         cls := .urgent, relayed := false,
         access := some { phase := .count, exponent := 2, busyFinds := 0, held := some 1, idleSlots := 0 } }] } }

/-- Section 2.3.1: a carrier in COUNT is a busy find, k goes from 2 to 3, and the access is back in SENSE. -/
theorem test_carrierRise : (after .carrierRise counting).slc.queue.map (fun e => e.access.map fun a => (a.phase, a.exponent, a.busyFinds)) =
    [some (.sense, 3, 1)] := by decide +kernel

/-- R23, R25: at a count of 0 the notice goes on air. -/
theorem test_slotEnd : let t := after .slotEnd counting
    t.slc.queue = [] ∧ t.slc.transmitting.map (·.serial) = some 7 ∧ t.slc.seen = [⟨112, 7⟩] := by decide +kernel

/-- R26, R27: a frame whose check disagrees is counted under CHECK. -/
theorem test_frameProcessed : (after .frameProcessed { station with slc := { station.slc with
      rxBuffer := [[0, 0, 9, 0, 140, 0, 1, 0, 140, 0, 0, 0, 0, 0]] } }).slc.errCheck = 1 := by decide +kernel

/-- R26: a body length of 256 ends the frame as a LENGTH error. -/
theorem test_bodyLengthArrived : (after (.bodyLengthArrived 256) { station with slc := { station.slc with
      carrier := true, assembly := .receiving none } }).slc.errLength = 1 := by decide +kernel

/-- R38: the beacon timer floods a beacon. -/
theorem test_beaconTimerExpiry : (after .beaconTimerExpiry { station with slc := { station.slc with
      beaconTimer := some 15000 } }).slc.queue.map (·.notice.body.kindCode) = [7] := by decide +kernel

/-! ### What meets the hypotheses of the statements

For each statement with hypotheses: a state and operands that meet them, clause by clause where the statement has several. -/

theorem takes_asking (s : State) (r : Request) (h : s.inReset = false ∧ s.admission r = none) : (asking s r).Takes r :=
  ⟨h.1, rfl, rfl, h.2⟩

theorem witness_StepTakesFrontCommand :
    ({ station with pending := [.rawTick, .poll] } : State).pending = .rawTick :: [.poll] ∧ station.pending = [] := ⟨rfl, rfl⟩

theorem witness_RequestFramesAreTakenAsWritten :
    (requestOfInstr (.takeRecords 255) = some (.takeRecords 255) ∧ (Instr.takeRecords 255).wf = true ∧ station.inReset = false ∧
      station.kl.link = .idle ∧ station.admission (.takeRecords 255) = none) ∧
    (requestOfInstr (.announceDelivery []) = some (.announceDelivery []) ∧ (Instr.announceDelivery []).wf = true ∧
      van.inReset = false ∧ van.kl.link = .idle ∧ van.admission (.announceDelivery []) = none) := by decide

theorem witness_FailingFramesAreAnsweredInOrder : station.inReset = false ∧ station.kl.link = .idle ∧
    (List.replicate 255 (0 : Byte)).length ≤ 255 ∧
    ¬ (0 : Byte) = ~~~ ((1 :: BitVec.ofNat 8 0 :: []).foldl (· + ·) 0) ∧
    (0xDD : Byte) = ~~~ (((34 : Byte) :: BitVec.ofNat 8 0 :: []).foldl (· + ·) 0) ∧ 33 < (34 : Byte).toNat ∧
    (0xFD : Byte) = ~~~ (((1 : Byte) :: BitVec.ofNat 8 1 :: [0]).foldl (· + ·) 0) ∧ requestLengthOk 1 [0] = some false ∧
    ((0xE4 : Byte) = ~~~ (((27 : Byte) :: BitVec.ofNat 8 0 :: []).foldl (· + ·) 0) ∧ requestLengthOk 27 [] = some true ∧
      requestOf 27 [] = some .closeSession ∧ Request.closeSession.roleOk station.isVan = false) ∧
    ((0xF8 : Byte) = ~~~ (((7 : Byte) :: BitVec.ofNat 8 0 :: []).foldl (· + ·) 0) ∧ requestLengthOk 7 [] = some true ∧
      requestOf 7 [] = some .getTime ∧ Request.getTime.roleOk (inStart station .listen).isVan = true ∧
      Request.getTime.anyStart = false ∧ (inStart station .listen).sup.start ≠ .run) := by decide +kernel

theorem witness_BusyAndCutSendsAreTurnedAway : (asking station .getStatus).inReset = false ∧
    (asking station .getStatus).kl.link ≠ .idle ∧ station.kl.link = .idle ∧
    (∀ code length rest, ([1] : List Byte) = code :: length :: rest → rest.length ≤ length.toNat) ∧
    (∀ code length rest, ([1, 1, 7] : List Byte) = code :: length :: rest → rest.length ≤ length.toNat) ∧
    ((List.replicate 255 0 : List Byte).length ≤ 255 ∧ (0xC3 : Byte) ≠ 0xC1 ∧ (0xC3 : Byte) ≠ 0xC2) := by
  refine ⟨by decide, by decide, by decide, fun _ _ _ h => by simp at h, fun c l r h => ?_, by decide +kernel⟩
  simp only [List.cons.injEq] at h
  obtain ⟨-, rfl, rfl⟩ := h
  decide

/-- The station with an answer held. -/
def answered : State := { station with kl := { station.kl with held := some { status := .ok, body := [] } } }

theorem witness_FetchShiftsOutAnswerOrMarker :
    ((asking station .getStatus).inReset = false ∧ (asking station .getStatus).kl.link = .working) ∧
    (station.kl.link = .idle ∧ station.kl.held = none) ∧
    (answered.kl.link ≠ .working ∧ answered.kl.held = some { status := .ok, body := [] } ∧ answered.kl.link ≠ .restarting) ∧
    (({ answered with kl := { answered.kl with link := .restarting } } : State).kl.link = .restarting ∧
      (List.replicate 3 0 : List Byte).length < (Answer.frame { status := .ok, body := [] }).length) ∧
    (asking station .restart).Takes .restart :=
  ⟨by decide, by decide, by decide, by decide, takes_asking _ _ (by decide)⟩

theorem witness_ReadingRequestsReport : (asking (inStart station .options) .getStatus).Takes .getStatus ∧
    (asking station .getTime).Takes .getTime ∧
    ((asking station (.queryCard 4294967295 (some ⟨2099, 12, 31⟩))).Takes (.queryCard 4294967295 (some ⟨2099, 12, 31⟩)) ∧
      dateExists ⟨2099, 12, 31⟩ = true) ∧
    (asking station (.queryCard 1 none)).Takes (.queryCard 1 none) ∧ (asking station (.queryCard 0 none)).Takes (.queryCard 0 none) ∧
    (asking station (.queryBike 1)).Takes (.queryBike 1) ∧ (asking station (.queryBike 16777215)).Takes (.queryBike 16777215) ∧
    (asking station .readTariff).Takes .readTariff ∧ (asking station .readFaults).Takes .readFaults ∧
    (asking station .readDocks).Takes .readDocks ∧ (asking van .readNeighbours).Takes .readNeighbours ∧
    (asking van .readLoad).Takes .readLoad ∧ (asking van .readClaims).Takes .readClaims := by
  refine ⟨?_, ?_, ⟨?_, by decide⟩, ?_, ?_, ?_, ?_, ?_, ?_, ?_, ?_, ?_, ?_⟩ <;> exact takes_asking _ _ (by decide)

theorem witness_AttentionRequestsReportAndMask : (asking (inStart station .replay) .getCause).Takes .getCause ∧
    (asking station (.setAttentionMask 127)).Takes (.setAttentionMask 127) ∧
    (asking station (.setAttentionMask 128)).Takes (.setAttentionMask 128) := by
  refine ⟨?_, ?_, ?_⟩ <;> exact takes_asking _ _ (by decide)

theorem witness_CalendarAndSecondsAreInverse : 0 ≤ lastTime ∧ lastTime ≤ lastTime ∧
    calendarExists ⟨2000, 1, 1, 0, 0, 0⟩ = true ∧ calendarExists ⟨2099, 12, 31, 23, 59, 59⟩ = true := by decide

/-- The station with these fields of the backup domain and slew. -/
def ticking (drift : Int) (withhold : Bool) (slew : Option Slew) (slewDue : Bool) (time : Time) : State :=
  { station with clk := { station.clk with
      slew := slew, slewDue := slewDue, dom := { station.clk.dom with drift := drift, withhold := withhold, time := time } } }

/-- The same with a constant error of the crystal. -/
def erring (s : State) (e : Int) : State :=
  { s with clk := { s.clk with dom := { s.clk.dom with trimA := e, trimK := 0 } } }

def inserting : State := erring (ticking 9999999 false (some ⟨.insert, 2⟩) true 59) 1
def withholding : State := ticking 9999999 true (some ⟨.withhold, 1⟩) true 59
def catchingUp : State := erring (ticking (-9999999) false none false 59) (-1)
def unpowered : State := { station with clk := { station.clk with dom := { station.clk.dom with powered := false } } }

theorem witness_RawTickAdvancesTheClock :
    (ticking 0 false none false lastTime).clk.dom.time ≤ lastTime ∧ (ticking 0 false none false lastTime).clk.dom.powered = true ∧
    (unpowered.clk.dom.time ≤ lastTime ∧ unpowered.clk.dom.powered = false) ∧
    ((withholding.clk.dom.withhold && (withholding.clk.slewDue &&
        withholding.clk.slew.any fun w => decide (w.direction = .withhold))) = true ∧ withholding.clk.dom.time < 60) ∧
    (10000000 ≤ inserting.clk.dom.drift + (inserting.clk.dom.trimA -
        ((inserting.clk.dom.temperature - inserting.clk.dom.trimT0) * (inserting.clk.dom.temperature - inserting.clk.dom.trimT0) *
          inserting.clk.dom.trimK).tdiv 100) ∧
      inserting.clk.slewDue = true ∧ inserting.clk.slew = some ⟨.insert, 2⟩ ∧ inserting.clk.dom.withhold = false ∧
      inserting.clk.dom.time < 60 ∧ inserting.inReset = false) ∧
    (catchingUp.clk.dom.drift + (catchingUp.clk.dom.trimA -
        ((catchingUp.clk.dom.temperature - catchingUp.clk.dom.trimT0) * (catchingUp.clk.dom.temperature - catchingUp.clk.dom.trimT0) *
          catchingUp.clk.dom.trimK).tdiv 100) ≤ -10000000 ∧ catchingUp.clk.slewDue = false) := by decide +kernel

/-- The station with a grade timer and a sampling period that have run out. -/
def clockDue : State :=
  { station with clk := { station.clk with dom := { station.clk.dom with grade := 6, gradeTimer := 21600 }, sampleTicks := 60 } }

/-- The station held in a POWER reset. -/
def heldDown : State := { station with sup := { station.sup with powerHold := some 0 } }

theorem witness_ClockEventsAreTakenWhenDue :
    (clockDue.clk.dom.powered = true ∧ clockDue.clk.dom.grade < 7 ∧ 21600 ≤ clockDue.clk.dom.gradeTimer ∧
      clockDue.sup.powerHold = none ∧ 60 ≤ clockDue.clk.sampleTicks) ∧
    station.clk.dom.gradeTimer < 21600 ∧ 7 ≤ State.reset.clk.dom.grade ∧ station.clk.sampleTicks < 60 ∧
    heldDown.sup.powerHold ≠ none := by decide

theorem witness_SetTimeAnchorsAndSteps :
    ((asking station (.setTime ⟨2025, 2, 29, 0, 0, 0⟩)).Takes (.setTime ⟨2025, 2, 29, 0, 0, 0⟩) ∧
      calendarExists ⟨2025, 2, 29, 0, 0, 0⟩ = false) ∧
    ((asking station (.setTime ⟨2022, 3, 7, 20, 26, 40⟩)).Takes (.setTime ⟨2022, 3, 7, 20, 26, 40⟩) ∧
      calendarExists ⟨2022, 3, 7, 20, 26, 40⟩ = true ∧ secondsOf ⟨2022, 3, 7, 20, 26, 40⟩ = station.now) ∧
    ((asking van (.setTime ⟨2022, 3, 7, 20, 26, 41⟩)).Takes (.setTime ⟨2022, 3, 7, 20, 26, 41⟩) ∧
      calendarExists ⟨2022, 3, 7, 20, 26, 41⟩ = true ∧ secondsOf ⟨2022, 3, 7, 20, 26, 41⟩ ≠ van.now) :=
  ⟨⟨takes_asking _ _ (by decide), by decide⟩, ⟨takes_asking _ _ (by decide), by decide +kernel⟩,
    takes_asking _ _ (by decide), by decide +kernel⟩

theorem witness_BeaconsOfBetterGradeAreAdopted :
    station.clk.dom.grade ≤ 1 + 1 ∧ 0 + 1 < station.clk.dom.grade ∧
    30 ≤ (((700000030 : Nat) : Int) - (station.now : Int)).natAbs ∧ ((700000000 : Nat) : Int) - (station.now : Int) = 0 ∧
    ((((700000029 : Nat) : Int) - (station.now : Int)).natAbs < 30 ∧ ((700000029 : Nat) : Int) - (station.now : Int) ≠ 0) := by decide

/-- The weekday table on Wednesday 15 January at 03:00: entries 0 and 2 match. -/
theorem witness_WindowsMatchAndGiveThreeResults :
    let s := { weekdayTable with clk := { weekdayTable.clk with dom := { weekdayTable.clk.dom with time := secondsOf ⟨2025, 1, 15, 3, 0, 0⟩ } } }
    ((s.clk.windows[2]).holds s.now = true ∧ (s.clk.windows[2]).closes = false ∧
      (∀ j : Fin 8, j < 2 → (s.clk.windows[j]).holds s.now = true → (s.clk.windows[j]).closes = true)) ∧
    ∀ i : Fin 8, (station.clk.windows[i]).holds station.now = true → (station.clk.windows[i]).closes = true := by decide +kernel

/-- A station with midnight's boundary waiting and a hire of no great age. -/
def atMidnight : State :=
  { station with
    clk := { station.clk with boundaries := [699926400] },
    hu := { station.hu with owned :=
      [{ fields := { serial := 1, card := 7730411, cls := .member, bike := 40117, dock := 1, start := 699999000, band := 0, terms := bandOne,
                     classTerms := ⟨80, 1500, false⟩, stepped := false }, durable := true, slot := 0 }] } }

/-- The same with two hires, the first overdue to the second and the other a second short of it. -/
def overdueAtMidnight : State :=
  { atMidnight with hu := { atMidnight.hu with owned := (atMidnight.hu.owned ++ atMidnight.hu.owned).zipWith (fun o i =>
      { o with slot := i, fields := { o.fields with serial := i, start := 700000000 - station.sup.image.maxHire * 60 + i } }) [0, 1] } }

/-- R87: one conversion at the boundary: the hire gone, its record posted, its card held, its bike missing and its end kept. -/
theorem test_minuteBoundary : let t := after .minuteBoundary overdueAtMidnight
    t.hu.owned.map (·.fields.serial) = [1] ∧ t.sq.queue.length = 1 ∧ t.hu.holds.map (·.reason) = [.overdue] ∧
    t.hu.settled.map (·.outcome) = [.overdue] ∧ t.du.bikes.map (·.missing.isSome) = [true] := by decide +kernel

theorem witness_MinuteBoundaryIsTaken : atMidnight.inReset = false ∧ atMidnight.clk.boundaries = 699926400 :: [] ∧
    699926400 % 86400 = 0 ∧ 699926400 / 60 % 5 = 0 ∧ (atMidnight.sup.start = .listen ∨ atMidnight.sup.start = .run) ∧
    atMidnight.hu.owned.filter (fun o => atMidnight.isOverdue o.fields.start) = [] ∧
    (overdueAtMidnight.inReset = false ∧ overdueAtMidnight.clk.boundaries = 699926400 :: [] ∧ overdueAtMidnight.sup.start = .run ∧
      overdueAtMidnight.sq.queue.length +
        (overdueAtMidnight.hu.owned.filter fun o => overdueAtMidnight.isOverdue o.fields.start).length = 1) ∧
    ((inStart atMidnight .options).inReset = false ∧ (inStart atMidnight .options).clk.boundaries = 699926400 :: [] ∧
      (inStart atMidnight .options).sup.start = .options) := by decide +kernel

/-- A queued notice of a kind, out of access. -/
def queued (body : NoticeBody) : QueueEntry :=
  { notice := { origin := 112, serial := 7, sender := 112, hops := 3, dest := 0, body := body }, cls := body.cls, relayed := false,
    access := none }

def beaconEntry : QueueEntry := queued (.beacon station.beaconBody)
def normalEntry : QueueEntry := queued (.cardHold ⟨112, 1⟩ 51002 .lost)
def closeEntry : QueueEntry := queued (.hireClose 40117 700000000 2 none)

/-- The station with this transmit queue. -/
def queueing (q : List QueueEntry) : State := { station with slc := { station.slc with queue := q } }

/-- What R21 sees of a queue entry. -/
def rowOf (e : QueueEntry) : Notice × TxClass × Bool := (e.notice, e.cls, e.relayed)

theorem witness_OriginatedNoticesJoinTheQueue :
    let isBeacon (x : Notice × TxClass × Bool) : Bool := decide (x.1.body.kindCode = 7)
    let isNormal (x : Notice × TxClass × Bool) : Bool := decide (x.2.1 = .normal)
    let rows (q : List QueueEntry) := (queueing q).slc.queue.map rowOf
    ((NoticeBody.beacon station.beaconBody).kindCode = 7 ∧ (rows [beaconEntry]).any isBeacon = true) ∧
    (¬ (NoticeBody.resume.kindCode = 7) ∧ (rows (List.replicate 11 closeEntry)).length < 12) ∧
    (12 ≤ (rows (List.replicate 11 closeEntry ++ [beaconEntry])).length ∧ NoticeBody.sessionOpen.cls ≠ .background ∧
      (rows (List.replicate 11 closeEntry ++ [beaconEntry])).any isBeacon = true) ∧
    (12 ≤ (rows (List.replicate 11 closeEntry ++ [normalEntry])).length ∧ closeEntry.cls = .urgent ∧
      (rows (List.replicate 11 closeEntry ++ [normalEntry])).any isBeacon = false ∧
      (rows (List.replicate 11 closeEntry ++ [normalEntry])).any isNormal = true) ∧
    (12 ≤ (rows (List.replicate 12 closeEntry)).length ∧ (rows (List.replicate 12 closeEntry)).any isBeacon = false ∧
      (closeEntry.cls = .urgent → (rows (List.replicate 12 closeEntry)).any isNormal = false)) ∧
    ((queueing []).sup.start = .run ∧ (queueing []).slc.transmitting = none) ∧
    (let going (e : QueueEntry) : QueueEntry :=
       { e with access := some { phase := .count, exponent := 3, busyFinds := 1, held := some 4, idleSlots := 0 } }
     (rows [going closeEntry] = [] ++ rowOf (going closeEntry) :: [] ∧ (going closeEntry).access.isSome = true ∧ closeEntry.cls = .urgent) ∧
     (rows [going normalEntry] = [] ++ rowOf (going normalEntry) :: [] ∧ normalEntry.cls = .normal ∧ NoticeBody.resume.cls ≠ .urgent ∧
      normalEntry.notice.body.kindCode ≠ 7 ∧ ∀ x ∈ rows [going normalEntry], x.2.1 ≠ .urgent) ∧
     (closeEntry.notice.body.cls = .urgent ∧ (rows (List.replicate 11 (going normalEntry))).length < 12)) ∧
    ((inStart (queueing []) .listen).sup.start ≠ .run) := by decide +kernel

/-- The station whose only notice is in this access. -/
def inAccess (body : NoticeBody) (a : Access) : State := queueing [{ queued body with access := some a }]

def sensing (idle : Nat) (held : Option Nat) : Access :=
  { phase := .sense, exponent := 2, busyFinds := 6, held := held, idleSlots := idle }

theorem witness_AccessCountsSlotsAndBusyFinds :
    let s := inAccess (.hireClose 40117 700000000 2 none)
    let q := queued (.hireClose 40117 700000000 2 none)
    ((s (sensing 0 none)).running = true ∧ (s (sensing 0 none)).slc.transmitting = none ∧ (s (sensing 0 none)).slc.carrier = false ∧
      (s (sensing 0 none)).slc.queue = [] ++ { q with access := some (sensing 0 none) } :: []) ∧
    ((sensing 0 none).phase = .sense ∧ (sensing 0 none).idleSlots = 0 ∧ (sensing 0 none).busyFinds < 7) ∧
    ((sensing 1 (some 0)).phase = .sense ∧ 1 ≤ (sensing 1 (some 0)).idleSlots ∧ (sensing 1 (some 0)).held = some 0) ∧
    ((sensing 1 none).phase = .sense ∧ 1 ≤ (sensing 1 none).idleSlots ∧ (sensing 1 none).held = none) ∧
    (let a : Access := { phase := .count, exponent := 7, busyFinds := 7, held := some 1, idleSlots := 0 }
     a.phase = .count ∧ a.held = some 1 ∧ 7 ≤ a.busyFinds) ∧
    (queued .resume).cls ≠ .background ∧ beaconEntry.cls = .background := by decide +kernel

/-- The station with this assembly under an active carrier. -/
def hearing (a : Assembly) : State := { station with slc := { station.slc with carrier := true, assembly := a } }

/-- The frame of a QUIET of station 140. -/
def quietFrame : List Byte := Notice.frame { origin := 140, serial := 1, sender := 140, hops := 0, dest := 0, body := .quiet 20 }

/-- The station with these frames in its receive buffer. -/
def buffering (frames : List (List Byte)) : State := { station with slc := { station.slc with rxBuffer := frames } }

def onAir : State :=
  { queueing [closeEntry] with slc := { (queueing [closeEntry]).slc with
      transmitting := some { origin := 112, serial := 6, sender := 112, hops := 0, dest := 0, body := .resume } } }

theorem witness_FramesAreAssembledAndChecked :
    (station.listening = true ∧ station.slc.carrier = false ∧ ∀ e ∈ station.slc.queue, e.access = none) ∧
    ((hearing (.receiving none)).listening = true ∧ (hearing (.receiving none)).slc.assembly = .receiving none ∧
      (hearing (.receiving none)).slc.carrier = true) ∧
    (fieldAt quietFrame 0 2 ≤ 255 ∧ quietFrame.length = 14 + fieldAt quietFrame 0 2 ∧
      (hearing (.receiving (some 1))).slc.assembly = .receiving (some (fieldAt quietFrame 0 2)) ∧
      (hearing (.receiving (some 1))).slc.rxBuffer.length < 4) ∧
    (4 ≤ (buffering (List.replicate 4 quietFrame)).slc.rxBuffer.length) ∧
    ((hearing .ended).listening = true ∧ (hearing .ended).slc.carrier = true ∧ (hearing .ended).slc.assembly = .ended) ∧
    (onAir.listening = false ∧ onAir.slc.carrier = false) ∧
    ((buffering [quietFrame.set 3 7]).awake = true ∧ testFrame (buffering [quietFrame.set 3 7]).node (quietFrame.set 3 7) = .badCheck) ∧
    testFrame (buffering []).node (Notice.frame { origin := 140, serial := 1, sender := 140, hops := 0, dest := 0, body := .quiet 0 }) =
      .badLength ∧
    ((buffering [quietFrame]).awake = true ∧ testFrame (buffering [quietFrame]).node quietFrame =
      .valid { origin := 140, serial := 1, sender := 140, hops := 0, dest := 0, body := .quiet 20 }) ∧
    (onAir.slc.transmitting.isSome = true ∧ onAir.inReset = false ∧ onAir.sup.start = .run ∧ onAir.slc.queue ≠ []) := by
  decide +kernel

/-- A HIRE CLOSE of station 140, relayed to here by station 141. -/
def heardClose : Notice :=
  { origin := 140, serial := 9, sender := 141, hops := 3, dest := 0, body := .hireClose 40117 700000000 2 none }

/-- The station with these notices waiting to be relayed, each heard this often since. -/
def relaying (l : List (Notice × Nat)) (seen : List Ident) : State :=
  { station with slc := { station.slc with
      relays := l.map fun p => { notice := p.1, start := 0, delay := 2000, hearings := p.2 }, seen := seen } }

def waiting (n : Notice) (h : Nat) : RelayEntry := { notice := n, start := 0, delay := 2000, hearings := h }

/-- The station with this neighbour. -/
def neighboured (quietUntil : Option Millis) : State :=
  { station with slc := { station.slc with
      neighbours := [{ node := 140, role := none, lastHeard := 0, ageStart := 0, beacon := none, quietUntil := quietUntil }],
      ownQuiet := some 0, beaconTimer := some 15000 } }

/-- The station with a full neighbour table without station 140, its first entry this old. -/
def crowded (age : Millis) : State :=
  { station with
    timebase := age,
    slc := { station.slc with neighbours := (List.range 16).map fun i =>
      { node := 200 + i, role := none, lastHeard := 0, ageStart := if i = 0 then 0 else 1, beacon := none, quietUntil := none } } }

/-- R37: a new sender takes the place of the oldest entry above 60 s, and is counted at 60 s. -/
theorem test_fullTable :
    ((crowded 60001).hearSender 140).slc.neighbours.head?.map (fun x => (x.node, x.ageStart)) = some (140, 60001) ∧
    ((crowded 60001).hearSender 140).slc.neighbourDrops = 0 ∧
    ((crowded 60000).hearSender 140).slc.neighbours = (crowded 60000).slc.neighbours ∧
    ((crowded 60000).hearSender 140).slc.neighbourDrops = 1 := by decide +kernel

/-- A notice of station 140 heard from itself, for this node where it is addressed. -/
def told (body : NoticeBody) : Notice := { origin := 140, serial := 9, sender := 140, hops := 3, dest := 112, body := body }

theorem witness_FloodedNoticesAreRelayedOnce :
    ((neighboured none).slc.neighbours.map (·.node) = [] ++ (told .resume).sender :: [] ∧ station.slc.neighbours.length < 16 ∧
      ∀ x ∈ station.slc.neighbours, x.node ≠ (told .resume).sender) ∧
    (∀ age ∈ [60000, 60001], (∀ x ∈ (crowded age).slc.neighbours, x.node ≠ (told .resume).sender) ∧
      16 ≤ (crowded age).slc.neighbours.length ∧ (crowded age).slc.neighbours.map (·.ageStart) = [] ++ 0 :: List.replicate 15 1 ∧
      (crowded age).timebase - 0 = age) ∧
    (NoticeBody.sessionOpen.scope = .addressed ∧ (113 : Node) ≠ station.node) ∧
    ((told .sessionOpen).body.scope = .addressed ∧ (told .sessionOpen).dest = station.node ∧ (told .resume).body.scope = .broadcast) ∧
    (((neighboured (some 7000)).hearSender (told .resume).sender).slc.neighbours.map (fun x => (x.node, x.quietUntil)) =
        [] ++ ((told .resume).sender, some 7000) :: [] ∧
      (told (.quiet 20)).body = .quiet 20 ∧ (told .resume).body = .resume ∧
      (told (.beacon { station.beaconBody with quiet := true })).body = .beacon { station.beaconBody with quiet := true }) ∧
    (heardClose.body.scope = .flooded ∧ heardClose.ident ∈ (relaying [] [heardClose.ident]).slc.seen ∧
      ∀ e ∈ (relaying [] [heardClose.ident]).slc.relays, decide (e.notice.ident = heardClose.ident) = false) ∧
    ((relaying [(heardClose, 0)] [heardClose.ident]).slc.relays = [] ++ waiting heardClose 0 :: [] ∧
      (relaying [(heardClose, 1)] [heardClose.ident]).slc.relays = [] ++ waiting heardClose 1 :: [] ∧
      decide ((waiting heardClose 0).notice.ident = heardClose.ident) = true) ∧
    (∀ h ∈ [0, 1], (relaying [(heardClose, h)] []).slc.relays = [] ++ waiting heardClose h :: [] ∧
      heardClose.ident ∉ (relaying [(heardClose, h)] []).slc.seen ∧ heardClose.origin ≠ (relaying [(heardClose, h)] []).node) ∧
    (Notice.ident { heardClose with origin := 112 } ∉ station.slc.seen ∧ (112 : Node) = station.node) ∧
    (heardClose.ident ∉ station.slc.seen ∧ heardClose.origin ≠ station.node ∧ station.sup.start = .run ∧ 1 ≤ heardClose.hops ∧
      station.sup.supply = .normal ∧ (∀ x ∈ (station.hearSender 141).slc.neighbours, x.quietUntil = none) ∧
      station.slc.relays.length < 8 ∧ station.slc.relays.length ≠ 5) ∧
    (8 ≤ (relaying (List.replicate 8 (closeEntry.notice, 0)) []).slc.relays.length ∧
      ∀ e ∈ (relaying (List.replicate 8 (closeEntry.notice, 0)) []).slc.relays, decide (e.notice.ident = heardClose.ident) = false) ∧
    ¬ (inStart station .listen).sup.start = .run := by decide +kernel

theorem witness_StreetTimersAct :
    ((relaying [(heardClose, 0)] []).awake = true ∧ (relaying [(heardClose, 0)] []).slc.relays = [] ++ waiting heardClose 0 :: []) ∧
    ((neighboured none).awake = true ∧ (neighboured none).slc.ownQuiet = some 0 ∧ (neighboured none).running = true ∧
      (neighboured none).slc.beaconTimer = some 15000 ∧ ∀ x ∈ (neighboured none).slc.neighbours, x.quietUntil = none) ∧
    ((neighboured (some 20000)).slc.neighbours =
        [] ++ { node := 140, role := none, lastHeard := 0, ageStart := 0, beacon := none, quietUntil := some 20000 } :: [] ∧
      ∃ x ∈ (neighboured (some 20000)).slc.neighbours, x.quietUntil ≠ none) := by decide +kernel

/-- The twelve bytes of a header of kind 20, which no notice has. -/
def unknownKind : List Byte := [0, 0, 20, 0, 140, 0, 1, 0, 140, 0, 0, 0]

theorem unknownKind_is_no_notice (n : Notice) : unknownKind ≠ n.bytes := by
  intro h
  have third : (n.bytes)[2]? = some 20 := by rw [← h]; rfl
  obtain ⟨_, _, _, _, _, body⟩ := n
  cases body <;> simp [Notice.bytes, NoticeBody.kindCode, u16, u8, beBytes] at third

theorem witness_NoticeFramesRoundTrip :
    (heardClose.inRange = true ∧ heardClose.sender ≠ station.node ∧ heardClose.body.bytes.length ≠ 0) ∧
    (testFrame station.node heardClose.frame = .valid heardClose ∧
      heardClose.frame.length = 14 + fieldAt heardClose.frame 0 2) ∧
    ([0, 0] ≠ checkBytes heardClose.bytes ∧ ([0, 0] : List Byte).length = 2 ∧
      (checkBytes heardClose.bytes).length = 2) ∧
    20 ≤ fieldAt unknownKind 2 1 ∧
    ((∀ n : Notice, n.inRange = true → unknownKind ≠ n.bytes) ∧ unknownKind.length = 12 + fieldAt unknownKind 0 2) ∧
    (Notice.inRange { heardClose with sender := 112 } = true ∧ (112 : Node) = station.node) :=
  ⟨by decide +kernel, by decide +kernel, by decide +kernel, by decide, ⟨fun n _ => unknownKind_is_no_notice n, by decide⟩,
    by decide +kernel⟩

/-! #### Settlement, journal, options and supply -/

/-- A note that stands in the queue, and a money record with this slot. -/
def noteRecord : SettlementRecord := station.newRecord (.unsettledReturn 40117 700000000) none 0
def moneyRecord (slot : Nat) (ready : Bool) : SettlementRecord :=
  { station.newRecord (.overdue ⟨112, 1⟩ 7730411 40117 0 25000) (some slot) 0 with slotDone := ready, ownedDone := ready }

/-- The station with this settlement queue. -/
def settling (q : List SettlementRecord) : State := { station with sq := { station.sq with queue := q } }

theorem witness_PostedRecordsJoinTheQueue :
    ((RecordBody.unsettledReturn 40117 0).isMoney = false ∧
      (settling (List.replicate 63 noteRecord)).sq.queue.length < 64 - (settling []).hu.owned.length - (settling []).du.memberReleases ∧
      64 - (settling []).hu.owned.length - (settling []).du.memberReleases ≤ (settling (List.replicate 64 noteRecord)).sq.queue.length) ∧
    ((RecordBody.overdue ⟨112, 1⟩ 7730411 40117 0 25000).isMoney = true ∧
      (64 ≤ (settling (List.replicate 64 noteRecord)).sq.queue.length ∧
        (settling (List.replicate 64 noteRecord)).sq.queue.any (fun r => !r.isMoney) = true) ∧
      ¬ 64 ≤ (settling [moneyRecord 0 true]).sq.queue.length) := by decide +kernel

theorem witness_TakeRecordsHandsOverTheOldest :
    ((asking (settling [moneyRecord 0 true]) (.takeRecords 1)).Takes (.takeRecords 1) ∧
      (asking (settling [moneyRecord 0 true]) (.takeRecords 8)).Takes (.takeRecords 8)) ∧
    (asking station (.takeRecords 0)).Takes (.takeRecords 0) ∧ (asking station (.takeRecords 9)).Takes (.takeRecords 9) := by
  refine ⟨⟨?_, ?_⟩, ?_, ?_⟩ <;> exact takes_asking _ _ (by decide)

theorem witness_SettlementCauseFollowsItsCondition :
    (asking station (.setSettlement 32 301)).Takes (.setSettlement 32 301) ∧ 32 ∈ [1, 4, 16, 32] ∧
    (asking station (.setSettlement 2 4)).Takes (.setSettlement 2 4) ∧ 2 ∉ [1, 4, 16, 32] ∧
    ((settling [noteRecord]).running = true ∧ (takeable (settling [noteRecord]).sq.queue).head? = some noteRecord) :=
  ⟨takes_asking _ _ (by decide), by decide, takes_asking _ _ (by decide), by decide, by decide +kernel⟩

/-- The station with this write in progress. -/
def writing (slot : Slot) (content : SlotContent) (again : Bool) : State :=
  { atMidnight with jnl := { station.jnl with wip := some { slot := slot, content := content, again := again, touched := false } } }

theorem witness_JournalWritesTheHeadOfTheList :
    (let s : State := { station with jnl := { station.jnl with writeList := [.counters] } }
     s.awake = true ∧ s.storeFree = true ∧ s.jnl.optionWork.waits = false ∧ s.jnl.writeList = .counters :: []) ∧
    (let w : WriteInProgress := { slot := .counters, content := station.slotContent .counters, again := false, touched := true }
     let s : State := { station with jnl := { station.jnl with wip := some w } }
     s.inReset = false ∧ s.jnl.wip.map (fun w => (w.again, w.touched)) = some (false, true)) ∧
    ((writing (.owned 0) (.owned none) false).inReset = false ∧
      (writing (.owned 0) (.owned none) false).jnl.wip = some { slot := .owned 0, content := .owned none, again := false, touched := false } ∧
      (writing (.owned 0) (.owned none) false).jnl.store.wf = true) ∧
    (writing (.owned 0) (.owned (atMidnight.hu.owned.head?.map (·.fields))) false).jnl.wip.map (·.slot) = some (.owned 0) ∧
    (let w : WriteInProgress :=
       { slot := .owned 0, content := .owned (atMidnight.hu.owned.head?.map (·.fields)), again := false, touched := true }
     let s : State := { writing .counters (.counters ⟨0, 0, 0, 0, 0, 0⟩) false with jnl := { station.jnl with wip := some w } }
     s.jnl.wip = some w ∧ w.touched = true) ∧
    ((∀ i, (writing .counters (.counters ⟨0, 0, 0, 0, 0, 0⟩) false).jnl.wip.map (·.slot) ≠ some (.owned i)) ∧
      (inStart (writing .counters (.counters ⟨0, 0, 0, 0, 0, 0⟩) false) .listen).sup.start ≠ .run) ∧
    (writing (.money 63) (.money none) true).jnl.wip = some { slot := .money 63, content := .money none, again := true, touched := false } := by
  refine ⟨by decide +kernel, by decide +kernel, by decide +kernel, by decide +kernel, by decide +kernel, ⟨fun i => ?_, by decide⟩, by decide⟩
  simp [writing]

/-- R151: the write of an ended hire's slot that began after its removal lets its record count it, and no other record. -/
theorem test_ownedDone : let r : SettlementRecord := { moneyRecord 0 false with slotDone := true, ownedSlot := 0, ownedBegun := true }
    let s : State := { writing (.owned 0) (.owned none) false with sq := { station.sq with queue := [r, { r with ownedSlot := 1 }] } }
    (after (.journalWriteEnd true) s).sq.queue.map (·.ready) = [true, false] := by decide +kernel

/-- The state with this work on the option area. -/
def optioning (s : State) (w : OptionWork) : State := { s with jnl := { s.jnl with optionWork := w } }

theorem witness_OptionRequestsWaitForTheStore : let block : List Byte := List.replicate 16 0
    ((asking station .readOptions).Takes .readOptions ∧ (asking station .readOptions).jnl.optionWork = .none) ∧
    ((asking van (.writeOptions block)).Takes (.writeOptions block) ∧ (asking van (.writeOptions block)).jnl.optionWork = .none) ∧
    ((optioning station .readWaiting).storeFree = true ∧ (optioning station .readWaiting).jnl.optionWork = .readWaiting ∧
      (optioning station .readWaiting).inReset = false) ∧
    ((optioning station (.writeWaiting block)).storeFree = true ∧
      (optioning station (.writeWaiting block)).jnl.optionWork = .writeWaiting block) ∧
    (optioning station (.writing block false)).jnl.optionWork = .writing block false ∧
    (optioning station (.writing block true)).jnl.optionWork = .writing block true :=
  ⟨⟨takes_asking _ _ (by decide), rfl⟩, ⟨takes_asking _ _ (by decide), rfl⟩, by decide, by decide, rfl, rfl⟩

theorem witness_OptionBlocksKeepTheImage : let i : Image := { station.sup.image with
      node := 4095, dockCount := 24, targetFill := 24, channel := 15, hopLimit := 4, maxHire := 2880, trimA := -200, trimK := 63, trimT0 := 50 }
    i.node ≤ 4095 ∧ 1 ≤ i.dockCount ∧ i.dockCount ≤ 24 ∧ i.targetFill ≤ i.dockCount ∧ i.channel ≤ 15 ∧ 1 ≤ i.hopLimit ∧ i.hopLimit ≤ 4 ∧
      60 ≤ i.maxHire ∧ i.maxHire ≤ 2880 ∧ -200 ≤ i.trimA ∧ i.trimA ≤ 200 ∧ i.trimK ≤ 63 ∧ i.trimT0 ≤ 50 ∧
    (let reserved : List Byte := List.replicate 15 0 ++ [1]
     let beyond : List Byte := List.replicate 15 0xFF ++ [0]
     (reserved.length = 16 ∧ (checkBytes reserved).length = 2 ∧ fieldAt reserved 15 1 ≠ 0 ∧ [0, 0] ≠ checkBytes reserved) ∧
     beyond.length = 16 ∧ fieldAt beyond 15 1 = 0) := by decide +kernel

/-- The station held by the reset input, and in a POWER reset or not. -/
def held (power : Option Millis) : State := { station with sup := { station.sup with lineHold := true, powerHold := power } }

theorem witness_ResetsHoldAndStartsClear :
    (heldDown.sup.powerHold = some 0 ∧ heldDown.sup.lineHold = false) ∧
    ((held (some 0)).sup.powerHold = some 0 ∧ (held (some 0)).sup.lineHold = true) ∧
    ((held none).sup.lineHold = true ∧ (held none).sup.powerHold = none) ∧
    (let s : State := { answered with kl := { answered.kl with link := .restarting } }
     s.inReset = false ∧ s.kl.link = .restarting ∧ s.kl.held = some { status := .ok, body := [] } ∧
      (Answer.frame { status := .ok, body := [] }).length ≤ (List.replicate 4 0 : List Byte).length) := by decide

theorem witness_ResetIsThePowerStartOfABlankPart :
    let s : State := { State.reset with
      sup := { State.reset.sup with powerHold := some 0 },
      clk := { State.reset.clk with dom := { State.reset.clk.dom with valid := false } } }
    s.sup.powerHold = some 0 ∧ s.sup.lineHold = false ∧ s.clk.dom.valid = false ∧ s.jnl.store = [] ∧
      s.jnl.optionArea = List.replicate 18 0xFF := by decide

/-- A station about to replay under supply state CRITICAL. -/
def replayingCritical : State :=
  let s := inStart station .replay
  { s with sup := { s.sup with supply := .critical } }

/-- R180: the SUPPLY fault held back is reported at the entry to LISTEN, under the fault serial gone on by 64. -/
theorem test_replay_critical : (after .replayComplete replayingCritical).flt.log.map (fun e => (e.id.serial, e.subject, e.kind, e.severity)) =
    [(64, .station, .supply, 1)] := by decide +kernel

theorem witness_ReplayRebuildsAndListens : (inStart station .replay).inReset = false ∧ (inStart station .replay).sup.start = .replay ∧
    (inStart station .replay).storeFree = true ∧ (inStart station .replay).sup.supply ≠ .critical ∧
    (let storing (s : State) (i : Nat) : State :=
       { inStart s .replay with jnl := { s.jnl with store := [(i, .invalid)] } }
     ((storing station 319).storeFree = true ∧ ∃ p ∈ (storing station 319).jnl.store, p.2 = .invalid) ∧
     (∀ i ∈ [271, 320], (storing van i).isVan = true ∧ ∃ p ∈ (storing van i).jnl.store, p.2 = .invalid ∧ (p.1 < 272 ∨ 320 ≤ p.1)) ∧
     ∀ i ∈ [272, 319], ∀ p ∈ (storing van i).jnl.store, ¬ (p.1 < 272 ∨ 320 ≤ p.1)) ∧
    (let entry : FaultEntry :=
       { id := ⟨112, 830⟩, subject := .station, kind := .supply, severity := 1, count := 15, cards := [], first := 0, last := 0,
         state := .opened }
     let s : State := { replayingCritical with flt := { replayingCritical.flt with log := [entry] } }
     s.inReset = false ∧ s.sup.start = .replay ∧ s.storeFree = true ∧ s.sup.supply = .critical ∧ s.flt.log = [] ++ entry :: [] ∧
       replayingCritical.storeFree = true ∧ replayingCritical.flt.log = []) := by decide

theorem witness_ListenEndsInRun : (inStart (queueing [closeEntry]) .listen).inReset = false ∧
    (inStart (queueing [closeEntry]) .listen).sup.start = .listen ∧ (inStart (queueing [closeEntry]) .listen).slc.transmitting = none ∧
    (inStart (queueing [closeEntry]) .listen).slc.queue ≠ [] := by decide +kernel

/-- The station with these filter counts in a supply state. -/
def filtering (st : SupplyState) (down up : Nat) : State :=
  { station with sup := { station.sup with supply := st, down := down, up := up } }

/-- The station at its tenth low reading, with three CARD HOLDs to relay, one relayed already, and this node's QUIET sent then or queued. -/
def shedding (own : Option Millis) (start : StartState) : State :=
  { filtering .normal 9 0 with
    sup := { (filtering .normal 9 0).sup with start := start },
    slc := { station.slc with
      relays := List.replicate 3 (waiting normalEntry.notice 0), ownQuiet := own,
      queue := [{ normalEntry with relayed := true }, queued (.quiet 20)] } }

theorem witness_BatteryReadingsFilterTheSupplyState : (filtering .normal 8 0).inReset = false ∧
    (1199 < (filtering .normal 8 0).sup.image.saving.level ∧ 8 + 1 < 10) ∧
    ((filtering .saving 9 0).sup.supply ≠ .critical ∧ 1119 < (filtering .saving 9 0).sup.image.critical.level ∧ 10 ≤ 9 + 1) ∧
    ((filtering .critical 0 9).sup.supply ≠ .normal ∧ (filtering .critical 0 9).sup.image.critical.level + 30 < 1151 ∧ 10 ≤ 9 + 1) ∧
    ((shedding (some 0) .run).inReset = false ∧ 1199 < (shedding (some 0) .run).sup.image.saving.level ∧
      3 ≤ (shedding (some 0) .run).slc.relays.length ∧ (shedding (some 0) .run).slc.ownQuiet.isSome = true ∧
      ∀ e ∈ (shedding (some 0) .run).slc.relays, e.notice.body.kindCode ≠ 1 ∧ e.notice.body.kindCode ≠ 2) ∧
    ((shedding none .replay).quietQueued = true ∧ (shedding none .replay).slc.ownQuiet.isSome = false ∧
      (shedding none .replay).sup.start ≠ .run) ∧
    ((inStart (filtering .saving 9 0) .listen).sup.start = .listen ∧ (filtering .saving 9 0).flt.log.length < 32) := by
  decide +kernel

/-- A station about to replay a store that holds an owned hire and a money record. -/
def replaying : State :=
  { inStart station .replay with jnl := { station.jnl with store :=
      [(272, .owned (atMidnight.hu.owned.head?.map (·.fields))), (320, .money (some (moneyRecord 0 true).fields))] } }

/-- A station about to replay a store that holds one card's LOST hold in two slots. -/
def doubled : State :=
  let f : HoldFields := { card := 51002, reason := .lost, id := ⟨112, 1⟩, placed := 699999000 }
  { inStart station .replay with jnl := { station.jnl with store :=
      [(16, .hold (some f)), (17, .hold (some { f with id := ⟨140, 2⟩, placed := 0 }))] } }

/-- R66, R158: one entry of the pair, the one placed last; the slot of the other is written empty (the model's choice, log 53). -/
theorem test_replay_pair : let t := after .replayComplete doubled
    t.hu.holds.map (fun h => (h.card, h.placed, h.slot)) = [(51002, 699999000, 0)] ∧ t.jnl.writeList = [.counters, .hold 1] := by
  decide +kernel

/-- A station about to replay two hires of one bike, the second a second later. -/
def hiredTwice : State :=
  let f : Option OwnedFields := atMidnight.hu.owned.head?.map (·.fields)
  { inStart station .replay with jnl := { station.jnl with store :=
      [(272, .owned f), (319, .owned (f.map fun f => { f with serial := 2, start := f.start + 1 }))] } }

/-- R89, R159: a hire on a money record, and the earlier hire of one bike, are dropped with their slot marked; the record is queued. -/
theorem test_replay_owned : let t := after .replayComplete hiredTwice
    let u := after .replayComplete replaying
    t.hu.owned.map (fun o => (o.slot, o.fields.serial)) = [(47, 2)] ∧ Slot.owned 0 ∈ t.jnl.writeList ∧
    u.hu.owned = [] ∧ Slot.owned 0 ∈ u.jnl.writeList ∧ u.sq.queue.map (·.slot) = [some 0] := by decide +kernel

theorem witness_ReplayRestoresOnlyWhatTheStoreHolds :
    (∀ s ∈ [replaying, doubled, hiredTwice], s.inReset = false ∧ s.sup.start = .replay ∧ s.storeFree = true ∧ s.isVan = false ∧
      s.clk.dom.clockLost = false) ∧
    (let s : State := { hiredTwice with clk := { hiredTwice.clk with dom := { hiredTwice.clk.dom with clockLost := true } } }
     s.inReset = false ∧ s.sup.start = .replay ∧ s.storeFree = true ∧ s.isVan = false ∧ s.clk.dom.clockLost = true) ∧
    (let s : State := { inStart van .replay with jnl := replaying.jnl }
     s.inReset = false ∧ s.sup.start = .replay ∧ s.storeFree = true ∧ s.isVan = true) ∧
    (∃ f, hiredTwice.jnl.store.read (272 + 0) = some (.owned (some f)) ∧
      ∃ g, hiredTwice.jnl.store.read (272 + 47) = some (.owned (some g)) ∧ g.bike = f.bike ∧ f.start < g.start) ∧
    (∃ f, replaying.jnl.store.read (320 + 0) = some (.money (some f))) ∧
    ∃ f, doubled.jnl.store.read (16 + 1) = some (.hold (some f)) :=
  ⟨by decide +kernel, by decide +kernel, by decide +kernel, ⟨_, rfl, _, rfl, by decide, by decide⟩, ⟨_, rfl⟩, ⟨_, rfl⟩⟩

/-! #### Tariffs, fares and faults -/

theorem witness_LoadRequestsReplaceTheirEntry :
    ((asking station (.loadBand 3 bandOne)).Takes (.loadBand 3 bandOne) ∧ 3 < 4 ∧ BandTerms.inRange bandOne = true) ∧
    ((asking station (.loadBand 4 bandOne)).Takes (.loadBand 4 bandOne)) ∧
    ((asking station (.loadClass 3 ⟨100, 50000, 4, 1⟩)).Takes (.loadClass 3 ⟨100, 50000, 4, 1⟩) ∧ 1 = true.toNat) ∧
    ((asking station (.loadClass 3 ⟨101, 0, 1, 0⟩)).Takes (.loadClass 3 ⟨101, 0, 1, 0⟩)) ∧
    ((asking station (.loadWindow 7 ⟨0b00101, 3, 0, 0, 0, 0, 1439⟩)).Takes (.loadWindow 7 ⟨0b00101, 3, 0, 0, 0, 0, 1439⟩) ∧
      windowOf ⟨0b00101, 3, 0, 0, 0, 0, 1439⟩ = some { enabled := true, closes := false, band := some 3, weekdays := none, months := none,
                                                       startMinute := 0, endMinute := 1439 }) ∧
    ((asking station (.loadWindow 7 ⟨0b00101, 3, 0, 0, 0, 0, 1440⟩)).Takes (.loadWindow 7 ⟨0b00101, 3, 0, 0, 0, 0, 1440⟩) ∧
      windowOf ⟨0b00101, 3, 0, 0, 0, 0, 1440⟩ = none) :=
  ⟨⟨takes_asking _ _ (by decide), by decide⟩, takes_asking _ _ (by decide), ⟨takes_asking _ _ (by decide), by decide⟩,
    takes_asking _ _ (by decide), ⟨takes_asking _ _ (by decide), by decide⟩, takes_asking _ _ (by decide), by decide⟩

theorem witness_FareStagesGiveTheAmount :
    let skewed : FareQuestion := { ride bandOne 0 true 0 with endTime := 699999999 }
    ((skewed.endTime : Int) - (skewed.start : Int) < 0 ∧ (priceHire skewed).minutes ≤ skewed.terms.grace ∧ skewed.endsHere = true ∧
      skewed.late = false) ∧
    (((ride bandOne 86400 false 0).endTime : Int) - ((ride bandOne 86400 false 0).start : Int) ≤ ((1440 * 60 : Nat) : Int)) ∧
    (((1440 * 60 : Nat) : Int) < ((ride bandOne 86401 false 0).endTime : Int) - ((ride bandOne 86401 false 0).start : Int) ∧
      ¬ (ride bandOne 86401 false 0).endsHere = true) ∧
    (1 ≤ (ride bandOne 17000 false 712).terms.block ∧ (priceHire (ride bandOne 17000 false 712)).outcome = .charged ∧
      (ride bandOne 17000 false 712).late = false) := by decide

theorem witness_DaySpendKeepsOneEntryPerCard :
    let full : List DaySpend := ⟨1001, 150⟩ :: ⟨1002, 80⟩ :: (List.replicate 30 ⟨1003, 80⟩)
    (full = [⟨1001, 150⟩] ++ ⟨1002, 80⟩ :: List.replicate 30 ⟨1003, 80⟩ ∧ ∀ x ∈ ([⟨1001, 150⟩] : List DaySpend), x.card ≠ 1002) ∧
    ((∀ x ∈ full, x.card ≠ 7730411) ∧ 32 ≤ full.length ∧ (∀ x ∈ ([⟨1001, 150⟩] : List DaySpend), 80 < x.spent) ∧
      ∀ x ∈ List.replicate 30 (⟨1003, 80⟩ : DaySpend), 80 ≤ x.spent) ∧
    (∀ x ∈ full.take 31, x.card ≠ 7730411) ∧ (full.take 31).length < 32 := by decide +kernel

/-- An entry of the fault log. -/
def faultOf (subject : Subject) (kind : FaultKind) (severity : Nat) (state : FaultState) : FaultEntry :=
  { id := ⟨112, 830⟩, subject := subject, kind := kind, severity := severity, count := 1, cards := [], first := 0, last := 0,
    state := state }

/-- The station with this fault log. -/
def logging (l : List FaultEntry) : State := { station with flt := { station.flt with log := l } }

theorem witness_FaultReportsMergeOrEnter :
    ((asking van (.reportFault 1 1 4 2)).Takes (.reportFault 1 1 4 2) ∧ (asking van (.reportFault 1 1 4 2)).isVan = true ∧
      (asking van (.reportFault 1 1 4 2)).sup.image.dockCount ≤ 24) ∧
    ((asking station (.reportFault 0 0 0 1)).Takes (.reportFault 0 0 0 1) ∧ ¬ (1 ≤ 0 ∧ 0 ≤ 16777215)) ∧
    ((asking station (.reportFault 0 16777215 0 3)).Takes (.reportFault 0 16777215 0 3) ∧ faultKinds[0]? = some .brake ∧
      FaultKind.brake ∈ [FaultKind.brake, .tyre, .chain, .light, .reported]) ∧
    ((asking station (.reportFault 1 6 5 2)).Takes (.reportFault 1 6 5 2) ∧ faultKinds[5]? = some .dockJam ∧
      FaultKind.dockJam ∈ [FaultKind.lock, .dockJam] ∧ 6 ≤ station.sup.image.dockCount) ∧
    ((logging [faultOf (.bike 5) .brake 1 .collected]).flt.log = [] ++ faultOf (.bike 5) .brake 1 .collected :: [] ∧
      station.bu.session = none ∧ station.sq.queue.length < station.noteLimit ∧
      (settling (List.replicate 64 noteRecord)).du.memberReleases = 0 ∧ (settling (List.replicate 64 noteRecord)).bu.session = none ∧
      (settling (List.replicate 64 noteRecord)).noteLimit ≤ (settling (List.replicate 64 noteRecord)).sq.queue.length) ∧
    (32 ≤ (logging (faultOf (.bike 5) .brake 3 .cleared :: List.replicate 31 (faultOf (.bike 6) .tyre 2 .opened))).flt.log.length) ∧
    (32 ≤ (logging (faultOf (.bike 6) .tyre 1 .opened :: List.replicate 31 (faultOf (.bike 6) .tyre 2 .opened))).flt.log.length) ∧
    (32 ≤ (logging (List.replicate 32 (faultOf (.bike 6) .tyre 2 .opened))).flt.log.length ∧
      ∀ x ∈ (logging (List.replicate 32 (faultOf (.bike 6) .tyre 2 .opened))).flt.log, decide (x.state ≠ .cleared) = true ∧ x.severity ≠ 1) ∧
    (let heard (id : Ident) := told (.fault id 5 .brake 2)
     let entry := faultOf (.bike 5) .brake 1
     (heard ⟨112, 830⟩).body = .fault ⟨112, 830⟩ 5 .brake 2 ∧
     (∃ e ∈ (logging [entry .cleared]).flt.log, e.id = ⟨112, 830⟩ ∧ decide (e.state ≠ .cleared) = false) ∧
     ((logging [entry .opened]).flt.log = [] ++ entry .opened :: [] ∧ (entry .opened).id = ⟨112, 830⟩ ∧
      ∀ e ∈ (logging [entry .opened]).flt.log, e.id = ⟨112, 830⟩ → decide (e.state ≠ .cleared) = true) ∧
     (∀ e ∈ (logging [entry .opened]).flt.log, e.id ≠ ⟨140, 9⟩ ∧ decide (e.state ≠ .cleared) = true ∧ e.subject = .bike 5 ∧ e.kind = .brake)) ∧
    (let release : Release := { purpose := .member, card := some member, start := 0 }
     let s := atDock station { heardDock .releasing (some 5) with release := some release }
     (asking s (.reportFault 0 5 0 2)).Takes (.reportFault 0 5 0 2) ∧ (asking s (.reportFault 1 1 5 2)).Takes (.reportFault 1 1 5 2) ∧
     (s.dock 1).state = .releasing ∧ (s.dock 1).release = some release ∧ release.purpose = .member ∧
     (s.dock 1).bike = some ⟨5, 699999000⟩ ∧ (∀ x ∈ s.du.bikes, x.bike ≠ 5) ∧ s.du.bikes.length < 64) ∧
    (let quarantined : BikeStatus := { bike := 7, quarantine := some { id := ⟨112, 1⟩, severity := 2 }, missing := none }
     let missing : BikeStatus := { bike := 8, quarantine := none, missing := some ⟨140, 0⟩ }
     let marking (l : List BikeStatus) : State := { station with du := { station.du with bikes := l } }
     let others := List.replicate 63 quarantined
     ((marking (quarantined :: others)).du.bikes = [] ++ quarantined :: others ∧ 64 ≤ (marking (quarantined :: others)).du.bikes.length ∧
       ∀ x ∈ (marking (quarantined :: others)).du.bikes, x.bike ≠ 5 ∧ x.quarantine ≠ none) ∧
     ((marking (others ++ [missing])).du.bikes = others ++ missing :: [] ∧ missing.quarantine = none ∧
       ∀ x ∈ others, x.quarantine ≠ none) ∧
     ((marking [quarantined]).du.bikes = [] ++ quarantined :: [] ∧ quarantined.bike = 7)) :=
  ⟨⟨takes_asking _ _ (by decide), by decide⟩, ⟨takes_asking _ _ (by decide), by decide⟩, ⟨takes_asking _ _ (by decide), by decide⟩,
    ⟨takes_asking _ _ (by decide), by decide⟩, by decide +kernel, by decide, by decide, by decide, by decide +kernel,
    ⟨takes_asking _ _ (by decide), takes_asking _ _ (by decide), by decide +kernel⟩, by decide +kernel⟩

/-- R61, R70: the report that quarantines a bike abandons its member release: LOCK and RED, and the dock is HOLDING again. -/
theorem test_quarantineAbandons : let s := atDock station { heardDock .releasing (some 5) with
      release := some { purpose := .member, card := some member, start := 0 } }
    let k := (after (.reportFault 0 5 0 2) (asking s (.reportFault 0 5 0 2))).dock 1
    k.state = .holding ∧ k.release = none ∧ k.lockSlot = some .lock ∧ k.lampSlot = some .red := by decide +kernel

theorem witness_ClearFaultMarksTheSubjectsEntries :
    ((asking station (.clearFault 0 1)).Takes (.clearFault 0 1) ∧ (asking station (.clearFault 0 16777215)).Takes (.clearFault 0 16777215) ∧
      (asking station (.clearFault 1 6)).Takes (.clearFault 1 6) ∧ (asking station (.clearFault 2 0)).Takes (.clearFault 2 0)) ∧
    ((asking station (.clearFault 1 7)).Takes (.clearFault 1 7) ∧ ¬ 7 ≤ station.sup.image.dockCount) ∧
    ((asking van (.clearFault 1 1)).Takes (.clearFault 1 1) ∧ van.isVan = true) ∧
    station.sup.image.dockCount ≤ 24 ∧ (station.du.bikes.map (·.bike)).Nodup ∧
    (let s := logging [faultOf (.bike 5) .brake 2 .opened]
     (told (.faultClear 5 0)).body = .faultClear 5 0 ∧ (s.du.bikes.map (·.bike)).Nodup ∧
      ((s.deliver (told (.faultClear 5 0))).flt.log.all fun e => decide (e.state = .cleared)) = true ∧
      let later := { faultOf (.bike 5) .brake 2 .opened with first := 121 }
      later ∈ ((logging [later]).deliver (told (.faultClear 5 0))).flt.log) := by
  refine ⟨⟨?_, ?_, ?_, ?_⟩, ⟨?_, by decide⟩, ⟨?_, by decide⟩, by decide, by decide, by decide +kernel⟩ <;> exact takes_asking _ _ (by decide)

/-! #### Docks and hires -/

/-- R59, R80: the first heartbeat of a post with a hired bike ends the hire here; the activity ring does not count it. -/
theorem test_heartbeat_first : let s : State := { atDock station (Dock.initial 0) with hu := atMidnight.hu }
    let t := after (.heartbeat 1 40117) s
    t.hu.owned = [] ∧ t.hu.settled.map (·.bike) = [40117] ∧ t.bu.ring = s.bu.ring := by decide +kernel

/-- R44, R58: a bike found by a silent post's heartbeat arrives, and its GREEN_FLASH keeps the lamp slot (the model's choice, log 65). -/
theorem test_recovery : let s := atDock station { heardDock .offline none with silent := true }
    let k := (after (.heartbeat 1 40117) s).dock 1
    k.state = .holding ∧ k.bike.map (·.bike) = some 40117 ∧ k.lampSlot = some .greenFlash := by decide +kernel

theorem witness_PostsArePolledAndHeard :
    let heard := atDock station (heardDock .holding (some 5))
    let silent := atDock station { heardDock .offline none with silent := true }
    let fresh := atDock station (Dock.initial 0)
    (station.busRuns = true ∧ 1 ≤ station.sup.image.dockCount ∧ station.sup.image.dockCount ≤ 24) ∧
    (heard.busRuns = true ∧ 1 ≤ heard.sup.image.dockCount ∧ heard.du.polled = some (1, .event) ∧ (heard.dock 1).heard = true ∧
      (heard.dock 1).silent = false ∧ (heard.dock 1).bike.map (·.bike) = some 5) ∧
    (silent.busRuns = true ∧ (silent.dock 1).heard = true ∧ (silent.dock 1).silent = true ∧ (silent.dock 1).bike = none ∧
      (silent.dock 1).state = .offline) ∧
    (let s : State := { atDock station (heardDock .offline (some 5)) with du := { (atDock station (heardDock .offline (some 5))).du with
        polled := some (1, .status) } }
     s.busRuns = true ∧ s.du.polled = some (1, .status) ∧ (s.dock 1).heard = true ∧ (s.dock 1).silent = false ∧
      (s.dock 1).bike.map (·.bike) = some 5) ∧
    (fresh.busRuns = true ∧ (fresh.dock 1).heard = false ∧ (fresh.dock 1).bike = none) ∧
    (let hired : State := { fresh with hu := atMidnight.hu }
     hired.busRuns = true ∧ hired.du.polled = some (1, .event) ∧ (hired.dock 1).heard = false ∧ (hired.du.bikes.map (·.bike)).Nodup ∧
      hired.hu.owned.map (·.fields.bike) = [40117] ∧ ∀ o ∈ hired.hu.owned, o.fields.bike ≠ 5) ∧
    ((heard.dock 1).bike = some ⟨5, 699999000⟩ ∧ (6 : Bike) ≠ 0 ∧ (5 : Bike) ≠ 6 ∧ (6 : Bike) ≤ 16777215) ∧
    (let quiet (bike : Option Bike) := atDock station { heardDock .offline bike with silent := true }
     (∀ bike ∈ [none, some 5], (quiet bike).busRuns = true ∧ (quiet bike).du.polled = some (1, .event) ∧
       ((quiet bike).dock 1).heard = true ∧ ((quiet bike).dock 1).silent = true ∧ ((quiet bike).dock 1).state ≠ .empty) ∧
     ((quiet none).dock 1).bike = none ∧ ((quiet (some 5)).dock 1).bike.map (·.bike) = some 5) ∧
    (let empty := atDock station (heardDock .empty none)
     empty.busRuns = true ∧ empty.du.polled = some (1, .event) ∧ (empty.dock 1).heard = true ∧ (empty.dock 1).silent = false ∧
      (empty.dock 1).bike = none) := by decide +kernel

/-- The station with a session in which dock 1 is released to the van. -/
def collecting (closing : Bool) : State :=
  let s := atDock station { heardDock .releasing (some 5) with release := some { purpose := .van, card := none, start := 0 } }
  let ss : Session :=
    { van := 301, closing := closing, allowanceAtOpen := 2, allowance := 1, collected := [4], expected := [], delivered := [],
      inFlight := [{ dock := 1, request := 9, counted := true }], recent := [], idleStart := 0 }
  { s with bu := { s.bu with session := some ss } }

theorem witness_DocksAreWithdrawnAndReturned :
    let releasing := atDock station { heardDock .releasing (some 5) with
      release := some { purpose := .member, card := some member, start := 0 } }
    let disabled := atDock station { heardDock .disabled (some 5) with hostDisabled := true }
    ((asking releasing (.dockDisable 1)).Takes (.dockDisable 1) ∧ (asking releasing (.dockDisable 6)).Takes (.dockDisable 6) ∧
      (asking releasing (.dockDisable 7)).Takes (.dockDisable 7) ∧ (asking releasing (.dockDisable 0)).Takes (.dockDisable 0)) ∧
    ((asking disabled (.dockEnable 1)).Takes (.dockEnable 1) ∧ ((asking disabled (.dockEnable 1)).dock 1).state = .disabled) ∧
    ((asking disabled (.dockEnable 6)).Takes (.dockEnable 6) ∧ ((asking disabled (.dockEnable 6)).dock 6).state ≠ .disabled) ∧
    (asking disabled (.dockEnable 0)).Takes (.dockEnable 0) ∧
    (releasing.busRuns = true ∧ releasing.du.polled = some (1, .event) ∧ (releasing.dock 1).state = .releasing ∧
      (releasing.dock 1).silent = false ∧ releasing.flt.log.length < 32) ∧
    (∀ closing, (asking (collecting closing) (.dockDisable 1)).Takes (.dockDisable 1) ∧ (collecting closing).busRuns = true ∧
      (collecting closing).du.polled = some (1, .event) ∧ ((collecting closing).dock 1).silent = false ∧
      ((collecting closing).dock 1).state = .releasing ∧
      ((collecting closing).dock 1).release = some { purpose := .van, card := none, start := 0 } ∧
      (collecting closing).bu.session.map (fun ss => (ss.closing, ss.inFlight)) = some (closing, [] ++ ⟨1, 9, true⟩ :: []) ∧
      (collecting closing).sq.queue.length + 1 < (collecting closing).noteLimit) := by
  refine ⟨⟨?_, ?_, ?_, ?_⟩, ⟨?_, by decide +kernel⟩, ⟨?_, by decide +kernel⟩, ?_, by decide +kernel,
    fun closing => ⟨?_, by cases closing <;> decide +kernel⟩⟩
  case refine_8 => cases closing <;> exact takes_asking _ _ (by decide)
  all_goals exact takes_asking _ _ (by decide)

/-- R131: a release to the van that lapses leaves the allowance, tells the van of no bike and ends a CLOSING session; the flag told with no
bike is free. -/
theorem test_vanLapse : let t := after (.releaseTimeout 1) (collecting false)
    let u := after (.releaseTimeout 1) (collecting true)
    t.bu.session.map (fun ss => (ss.collected, ss.allowance, ss.inFlight.length, ss.idleStart)) = some ([4], 1, 0, t.timebase) ∧
    t.slc.queue.map (·.notice.body.kindCode) = [NoticeBody.kindCode (.takeDone 9 1 none false)] ∧ u.bu.session = none ∧
    u.slc.queue.map (·.notice.body.kindCode) = [NoticeBody.kindCode (.takeDone 9 1 none false),
      NoticeBody.kindCode (.sessionSummary ⟨2, 1, [4], [], []⟩)] := by decide +kernel

theorem witness_DockTimersAndButtonsAct :
    let releasing (untaken : Nat) := atDock station { heardDock .releasing (some 5) with
      release := some { purpose := .member, card := some member, start := 0 }, untaken := untaken }
    let windowed (taken : Bool) := atDock station { heardDock .holding (some 5) with
      window := some { start := 0, card := some 7, taken := taken }, transient := some { lamp := .greenFlash, start := 0 } }
    ((releasing 1).busRuns = true ∧ ((releasing 1).dock 1).state = .releasing ∧ ((releasing 1).dock 1).untaken < 2 ∧
      ((releasing 1).dock 1).release = some { purpose := .member, card := some member, start := 0 }) ∧
    2 ≤ ((releasing 2).dock 1).untaken ∧
    (((windowed false).dock 1).window = some { start := 0, card := some 7, taken := false } ∧
      ((windowed false).dock 1).transient = some { lamp := .greenFlash, start := 0 } ∧ (windowed false).busRuns = true ∧
      (windowed false).du.polled = some (1, .event) ∧ 1 ≤ (windowed false).sup.image.dockCount ∧
      ((windowed false).dock 1).bike = some ⟨5, 699999000⟩ ∧ ∀ e ∈ (windowed false).flt.log, e.subject = .bike 5 → e.state = .cleared) ∧
    (∀ cards ∈ [[], [7], [8, 9], [8, 9, 10]], let reported : FaultEntry := { faultOf (.bike 5) .reported 1 .opened with cards := cards }
     let s : State := { windowed false with flt := (logging [reported]).flt }
     s.busRuns = true ∧ s.du.polled = some (1, .event) ∧ s.flt.log = [] ++ reported :: [] ∧ s.bu.session = none ∧
      s.sq.queue.length < s.noteLimit) ∧
    ((windowed true).dock 1).window = some { start := 0, card := some 7, taken := true } ∧
    (let idle := atDock station (heardDock .holding (some 5))
     (idle.dock 1).window = none ∧ (idle.dock 1).state = .holding ∧ (idle.dock 1).bike = some ⟨5, 699999000⟩) ∧
    (let empty := atDock station (heardDock .empty none)
     (empty.dock 1).window = none ∧ (empty.dock 1).state ≠ .holding) ∧
    (∀ closing, (collecting closing).busRuns = true ∧ ((collecting closing).dock 1).state = .releasing ∧
      ((collecting closing).dock 1).release = some { purpose := .van, card := none, start := 0 } ∧
      ((collecting closing).dock 1).untaken < 2 ∧
      (collecting closing).bu.session.map (fun ss => (ss.closing, ss.inFlight)) = some (closing, [] ++ ⟨1, 9, true⟩ :: []) ∧
      (collecting closing).sq.queue.length + 1 < (collecting closing).noteLimit) := by decide +kernel

/-- The station with this hold. -/
def holding (n : Nat) : State :=
  { station with hu := { station.hu with
      holds := List.replicate n { card := 51002, reason := .lost, id := ⟨112, 1⟩, placed := 0, slot := 0 } } }

theorem witness_HoldRequestsPlaceAndLift :
    let h : Hold := { card := 51002, reason := .lost, id := ⟨112, 1⟩, placed := 0, slot := 0 }
    ((asking station (.holdCard 1 2)).Takes (.holdCard 1 2) ∧ (asking station (.holdCard 0 0)).Takes (.holdCard 0 0) ∧
      (asking station (.holdCard 1 4)).Takes (.holdCard 1 4)) ∧
    ((asking (holding 1) (.holdCard 51002 0)).Takes (.holdCard 51002 0) ∧ holdReasons[0]? = some .lost ∧
      (asking (holding 1) (.holdCard 51002 0)).hu.holds = [] ++ h :: []) ∧
    ((asking (holding 255) (.holdCard 4294967295 3)).Takes (.holdCard 4294967295 3) ∧ holdReasons[3]? = some .scheme ∧
      (∀ x ∈ (holding 255).hu.holds, ¬ (x.card = 4294967295 ∧ x.reason = .scheme)) ∧ (holding 255).hu.holds.length < 256) ∧
    ((asking (holding 256) (.holdCard 1 0)).Takes (.holdCard 1 0) ∧ (∀ x ∈ (holding 256).hu.holds, ¬ (x.card = 1 ∧ x.reason = .lost)) ∧
      256 ≤ (holding 256).hu.holds.length ∧ (holding 256).hu.holds = h :: List.replicate 255 h) ∧
    ((asking station (.liftHold 1 5)).Takes (.liftHold 1 5) ∧ (asking (holding 1) (.liftHold 51002 4)).Takes (.liftHold 51002 4) ∧
      (asking (holding 1) (.liftHold 4294967295 2)).Takes (.liftHold 4294967295 2) ∧ holdReasons[2]? = some .overdue) ∧
    ((told (.cardHold ⟨140, 8⟩ 51002 .lost)).body = .cardHold ⟨140, 8⟩ 51002 .lost ∧ (holding 1).hu.holds = [] ++ h :: [] ∧
      (∀ x ∈ (holding 255).hu.holds, ¬ (x.card = 51002 ∧ x.reason = .scheme)) ∧ (holding 255).hu.holds.length < 256 ∧
      256 ≤ (holding 256).hu.holds.length ∧ (told (.cardLift 51002 none)).body = .cardLift 51002 none) := by
  refine ⟨⟨?_, ?_, ?_⟩, ⟨?_, by decide, by decide⟩, ⟨?_, by decide, by decide +kernel, by decide +kernel⟩,
    ⟨?_, by decide +kernel, by decide +kernel, by decide +kernel⟩, ⟨?_, ?_, ?_, by decide⟩, by decide +kernel⟩ <;> exact takes_asking _ _ (by decide)

theorem witness_OverdueHiresAreConverted :
    let held (l : List Hold) : State := { atMidnight with hu := { atMidnight.hu with holds := l } }
    let h : Hold := { card := 7730411, reason := .overdue, id := ⟨140, 8⟩, placed := 0, slot := 0 }
    (∃ o, o ∈ atMidnight.hu.owned ∧ o.fields.card = 7730411) ∧ atMidnight.sq.queue.length < 64 ∧
    (64 ≤ (settling (List.replicate 64 noteRecord)).sq.queue.length) ∧
    ((held [h]).hu.holds = [] ++ h :: [] ∧ ∀ x ∈ (held []).hu.holds, ¬ (x.card = 7730411 ∧ x.reason = .overdue)) ∧
    (256 ≤ (holding 256).hu.holds.length ∧ ∀ x ∈ (holding 256).hu.holds, ¬ (x.card = 7730411 ∧ x.reason = .overdue)) := by
  decide +kernel

/-- The station with this pending close. -/
def closing (repeats : Nat) : State :=
  { station with hu := { station.hu with pendingClose :=
      [{ bike := 40117, endTime := 699999000, endGrade := 2, hire := none, repeats := repeats, timerStart := 0 }] } }

theorem witness_PendingClosesRepeatFiveSends :
    let p (repeats : Nat) : PendingClose :=
      { bike := 40117, endTime := 699999000, endGrade := 2, hire := none, repeats := repeats, timerStart := 0 }
    ((closing 3).awake = true ∧ (closing 3).hu.pendingClose = [] ++ p 3 :: [] ∧ (p 3).repeats < 4) ∧
    ((closing 4).hu.pendingClose = [] ++ p 4 :: [] ∧ 4 ≤ (p 4).repeats) := by decide

/-- An overdue hire of this bike, settled without an end. -/
def overdueHire (bike : Bike) : SettledHire :=
  { hire := ⟨112, 1⟩, bike := bike, card := 7730411, start := 0, terms := bandOne, classTerms := ⟨80, 1500, false⟩, ending := none,
    outcome := .overdue }

/-- The station with this memory of hires that have ended. -/
def settledHires (l : List SettledHire) : State := { station with hu := { station.hu with settled := l } }

/-- The station that heard a hire of this bike this often. -/
def hearingHires (n : Nat) (bike : Bike) : State :=
  { station with hu := { station.hu with
      heard := List.replicate n { hire := ⟨140, 3⟩, card := 7730411, bike := bike, start := 0, heard := 0 } } }

theorem hearingHires_unrecorded (n : Nat) (bike : Bike) (d : Nat) : ((hearingHires n bike).dock d).bike = none := by
  have inside : ∀ m < 25, (station.dock m).bike = none := by decide +kernel
  by_cases hd : d < 25
  · exact inside d hd
  · have : ¬ (1 ≤ d ∧ d ≤ 24) := by omega
    simp [State.dock, Du.dock, this, Dock.initial]

theorem witness_HireNoticesAreTaken :
    let opens := told (.hireOpen ⟨140, 3⟩ 7730411 .member 40117 700000000 2)
    let closes (hire : Option Ident) := told (.hireClose 40117 700000000 2 hire)
    let ended : SettledHire := { overdueHire 40117 with ending := some (140, 700000000), outcome := .charged }
    let back := atDock station (heardDock .holding (some 40117))
    (van.isVan = true ∧ station.isVan = false ∧ opens.body = .hireOpen ⟨140, 3⟩ 7730411 .member 40117 700000000 2) ∧
    (closing 3).hu.pendingClose.map (·.bike) = [] ++ 40117 :: [] ∧
    (back.hu.pendingClose = [] ∧ (back.dock 1).bike = some ⟨40117, 699999000⟩ ∧ 699998999 < 699999000) ∧
    ((hearingHires 1 40117).hu.pendingClose = [] ∧
      (hearingHires 1 40117).hu.heard = [] ++ { hire := ⟨140, 3⟩, card := 7730411, bike := 40117, start := 0, heard := 0 } :: []) ∧
    ((hearingHires 64 5).hu.heard.length = 64 ∧ ∀ e ∈ (hearingHires 64 5).hu.heard, e.hire ≠ ⟨140, 4⟩ ∧ e.bike ≠ 40117) ∧
    (closes (some ⟨140, 3⟩)).body = .hireClose 40117 700000000 2 (some ⟨140, 3⟩) ∧ (140 : Node) ≠ station.node ∧
    ((settledHires [ended]).hu.settled = [] ++ ended :: [] ∧ ended.bike = 40117 ∧
      ended.ending = some ((closes none).origin, 700000000)) ∧
    (atMidnight.hu.settled = [] ∧ atMidnight.hu.owned.map (fun o => (o.fields.bike, o.fields.serial)) = [] ++ (40117, 1) :: [] ∧
      atMidnight.sq.queue.length < 64) ∧
    ((settledHires [overdueHire 40117]).hu.owned = [] ∧ (settledHires [overdueHire 40117]).hu.settled = [] ++ overdueHire 40117 :: [] ∧
      ((settledHires [overdueHire 40117]).du.bikes.map (·.bike)).Nodup ∧
      (settledHires [overdueHire 40117]).sq.queue.length < (settledHires [overdueHire 40117]).noteLimit) ∧
    (overdueHire 5 ∈ (settledHires [overdueHire 5, overdueHire 40117]).hu.settled ∧ (overdueHire 5).card = (overdueHire 40117).card) ∧
    (station.hu.settled = [] ∧ station.hu.owned = []) ∧
    ((told (.hireSettled ⟨140, 3⟩ 40117 112 700000000 .late)).body = .hireSettled ⟨140, 3⟩ 40117 112 700000000 .late ∧
      (station.du.bikes.map (·.bike)).Nodup ∧ HireOutcome.charged ≠ .late) := by decide +kernel

/-- R131: the bike a van takes joins the collected list, and the allowance is charged; the last take of a session in CLOSING ends it. -/
theorem test_bikeOut_van : let t := after (.bikeOut 1) (collecting false)
    t.bu.session.map (fun ss => (ss.collected, ss.allowance, ss.inFlight.length)) = some ([4, 5], 0, 0) ∧ t.hu = station.hu ∧
    t.slc.queue.map (·.notice.body) = [.takeDone 9 1 (some 5) false] ∧
    (after (.bikeOut 1) (collecting true)).bu.session = none := by decide +kernel

theorem witness_MembersTakeBikes :
    let idle := atDock station (heardDock .holding (some 5))
    let releasing := atDock station { heardDock .releasing (some 5) with
      release := some { purpose := .member, card := some member, start := 0 } }
    let empty := atDock station (heardDock .empty none)
    (idle.busRuns = true ∧ 1 ≤ idle.sup.image.dockCount ∧ idle.sup.image.dockCount ≤ 24 ∧ idle.du.polled = some (1, .event)) ∧
    cardRecordOf ⟨0, 1, ⟨2090, 1, 1⟩⟩ = none ∧
    (cardRecordOf memberAnswer = some member ∧ idle.checkout 1 member = none) ∧
    empty.checkout 1 member = some .dockBusy ∧
    ((releasing.dock 1).state = .releasing ∧ (releasing.dock 1).bike = some ⟨5, 699999000⟩ ∧
      (releasing.dock 1).release = some { purpose := .member, card := some member, start := 0 }) ∧
    (∀ closing, ((collecting closing).busRuns = true ∧ (collecting closing).du.polled = some (1, .event) ∧
      ((collecting closing).dock 1).state = .releasing ∧ ((collecting closing).dock 1).bike = some ⟨5, 699999000⟩ ∧
      ((collecting closing).dock 1).release = some { purpose := .van, card := none, start := 0 } ∧
      (collecting closing).bu.session.map (fun ss => (ss.closing, ss.inFlight)) = some (closing, [] ++ ⟨1, 9, true⟩ :: []))) ∧
    ((idle.dock 1).state = .holding ∧ (idle.dock 1).bike = some ⟨5, 699999000⟩) ∧ (empty.dock 1).state = .empty := by decide +kernel

/-- The station at midnight with an EMPTY dock polled. -/
def arriving : State := atDock atMidnight (heardDock .empty none)

theorem arriving_unrecorded (n : Nat) (h : n ≠ 1) : (arriving.dock n).bike.map (·.bike) ≠ some 40117 := by
  have inside : ∀ m < 25, m ≠ 1 → (arriving.dock m).bike.map (·.bike) ≠ some 40117 := by decide +kernel
  by_cases hn : n < 25
  · exact inside n hn h
  · have : ¬ (1 ≤ n ∧ n ≤ 24) := by omega
    simp [State.dock, Du.dock, this, Dock.initial]

theorem witness_ArrivalsEndHires :
    let expecting : State := { arriving with
      hu := station.hu,
      bu := { arriving.bu with session := some { van := 301, closing := false, allowanceAtOpen := 0, allowance := 0, collected := [],
                                                 expected := [40117], delivered := [], inFlight := [], recent := [], idleStart := 0 } } }
    let e : SettledHire :=
      { hire := ⟨112, 1⟩, bike := 40117, card := 7730411, start := 0, terms := bandOne, classTerms := ⟨80, 1500, false⟩, ending := none,
        outcome := .overdue }
    let overdue : State := { arriving with hu := { station.hu with settled := [e] } }
    let returned : State := { arriving with hu := station.hu }
    let full := atDock station (heardDock .disabled (some 40117))
    (arriving.busRuns = true ∧ 1 ≤ arriving.sup.image.dockCount ∧ arriving.du.polled = some (1, .event) ∧ (arriving.dock 1).state = .empty ∧
      (arriving.du.bikes.map (·.bike)).Nodup ∧ arriving.hu.owned.map (·.fields.bike) = [40117]) ∧
    ((∀ o ∈ expecting.hu.owned, o.fields.bike ≠ 40117) ∧ expecting.bu.session.map (·.expected) = some [40117]) ∧
    ((∀ o ∈ overdue.hu.owned, o.fields.bike ≠ 40117) ∧ overdue.hu.settled = [] ++ e :: [] ∧ e.bike = 40117 ∧ e.outcome = .overdue ∧
      e.ending = none ∧ overdue.bu.session = none ∧ overdue.sq.queue.length < overdue.noteLimit) ∧
    (let barred : State := { overdue with hu := { station.hu with settled := [e, { e with bike := 5 }] } }
     barred.hu.settled = [] ++ e :: [{ e with bike := 5 }] ∧ barred.bu.session = none) ∧
    ((∀ o ∈ returned.hu.owned, o.fields.bike ≠ 40117) ∧ returned.hu.settled = [] ∧ returned.bu.session = none) ∧
    ((full.dock 1).state ≠ .empty ∧ (full.dock 1).state ≠ .offline ∧ (full.dock 1).bike.map (·.bike) = some 40117) ∧
    (let held := atDock station (heardDock .holding (some 5))
     held.busRuns = true ∧ 1 ≤ held.sup.image.dockCount ∧ held.du.polled = some (1, .event) ∧ (held.dock 1).state = .holding ∧
      (held.dock 1).bike = some ⟨5, 699999000⟩ ∧ (5 : Bike) ≠ 40117) ∧
    (let other (k : Dock) := State.putDock arriving 2 k
     let released := { heardDock .releasing (some 40117) with release := some { purpose := .member, card := some member, start := 0 } }
     ((other (heardDock .holding (some 40117))).dock 1).state = .empty ∧
      ((other (heardDock .holding (some 40117))).dock 2).bike.map (·.bike) = some 40117 ∧
      ((other (heardDock .holding (some 40117))).dock 2).state ≠ .releasing ∧
      ((other released).dock 1).state = .empty ∧ ((other released).dock 2).bike.map (·.bike) = some 40117 ∧
      ((other released).dock 2).state = .releasing ∧ (other released).busRuns = true ∧ 2 ≤ (other released).sup.image.dockCount) ∧
    (let withdrawn := atDock station (heardDock .disabled (some 5))
     (withdrawn.dock 1).state = .disabled ∧ (withdrawn.dock 1).bike.map (·.bike) ≠ some 40117) ∧
    ((atDock station (heardDock .offline none)).dock 1).state = .offline := by
  decide +kernel

/-! #### Rebalancing, and the bounds -/

theorem witness_NeedScoreIsFormedAsTabled : van.isVan = true ∧ emptying.isVan = false := by decide

/-- The station with a need of 15, these claims of van 301 and this session. -/
def needing (claims : Nat) (session : Bool) : State :=
  { emptying with bu := { emptying.recomputeNeed.bu with
      claims := (List.range claims).map fun i =>
        { id := ⟨301, i⟩, action := .deliver, granted := 1, outcome := .granted, lifetime := 40, start := 0 },
      session := if session then some { van := 301, closing := false, allowanceAtOpen := 0, allowance := 0, collected := [], expected := [],
                                        delivered := [], inFlight := [], recent := [], idleStart := 0 } else none } }

theorem witness_ClaimsAndSessionsRunTheirCourse :
    (van.isVan = true ∧ emptying.isVan = false ∧ emptying.sup.start = .run) ∧
    ((needing 4 false).bu.claims.any (fun c => decide (c.id = ⟨301, 0⟩)) = true) ∧
    ((∀ c ∈ (needing 4 false).bu.claims, c.id ≠ ⟨302, 0⟩) ∧ 4 ≤ (needing 4 false).bu.claims.length) ∧
    ((needing 3 false).bu.claims.length < 4 ∧ (needing 3 false).bu.wantCollect = 0) ∧
    (let claimed (amount : Nat) : Notice := { told (.claim 3 .deliver amount 40) with origin := 301 }
     (needing 3 false).bu.wantDeliver = 15 ∧ ((needing 3 false).bu.claims.map (·.granted)).sum = 3 ∧
      (claimed 12).body = .claim 3 .deliver 12 40 ∧ min (15 - 3) 12 = 12 ∧ min (15 - 3) 13 < 13 ∧ (∀ c ∈ (needing 3 false).bu.claims, c.id ≠ ⟨301, 3⟩) ∧
      (needing 3 true).bu.session.map (·.van) = some (claimed 12).origin) ∧
    ((needing 1 false).running = true ∧ (∀ x ∈ (needing 1 false).bu.claims, x.id = ⟨301, 0⟩) ∧ (needing 1 false).bu.session = none) ∧
    ((needing 1 true).running = true ∧ (needing 1 true).bu.session.map (fun ss => (ss.van, ss.closing, ss.inFlight.length)) = some (301, false, 0) ∧
      (needing 1 true).sq.queue.length < (needing 1 true).noteLimit) := by decide +kernel

/-- A service session of van 301, and the station that serves it with a bike in dock 1. -/
def service (allowance : Nat) (collected : List Bike) (closing : Bool) : Session :=
  { van := 301, closing := closing, allowanceAtOpen := 1, allowance := allowance, collected := collected, expected := [], delivered := [],
    inFlight := [], recent := [{ request := 8, dock := 2, answer := .refusedEmpty }], idleStart := 0 }

def serving (ss : Session) : State :=
  let s := atDock station (heardDock .holding (some 5))
  { s with bu := { s.bu with session := some ss } }

theorem witness_StationsAnswerVans :
    let asks (body : NoticeBody) : Notice := { told body with origin := 301, sender := 301 }
    let s := serving (service 1 [] false)
    let marked : State := { s with du := { s.du with
      bikes := [{ bike := 5, quarantine := some { id := ⟨112, 830⟩, severity := 2 }, missing := none }] } }
    (van.isVan = true ∧ (inStart station .listen).sup.start ≠ .run ∧ station.isVan = false ∧ station.sup.start = .run ∧
      station.bu.session = none ∧ station.bu.summary = none ∧ (asks .sessionOpen).body = .sessionOpen) ∧
    (s.bu.session = some (service 1 [] false) ∧ (service 1 [] false).van = (asks .sessionOpen).origin ∧
      (service 1 [] false).van ≠ (told .sessionOpen).origin) ∧
    ((asks (.takeRequest 9 1)).body = .takeRequest 9 1 ∧ s.sup.image.dockCount ≤ 24 ∧
      (service 1 [] false).recent = [] ++ { request := 8, dock := 2, answer := .refusedEmpty } :: [] ∧
      ∀ r ∈ (service 1 [] false).recent, r.request ≠ 9) ∧
    (((collecting false).dock 1).state = .releasing ∧ (collecting false).bu.session.map (·.recent) = some []) ∧
    ((s.dock 2).state ≠ .releasing ∧ (s.dock 2).state ≠ .holding ∧ ¬ 7 ≤ s.sup.image.dockCount) ∧
    ((s.dock 1).state = .holding ∧ 24 ≤ (service 1 (List.range 24) false).collected.length ∧
      (service 0 [] false).allowance ≤ ((service 0 [] false).inFlight.filter (·.counted)).length ∧
      ¬ (service 1 [] false).allowance ≤ ((service 1 [] false).inFlight.filter (·.counted)).length ∧
      ((marked.dock 1).bike.any fun b => marked.du.bikes.any fun e => decide (e.bike = b.bike) && e.quarantine.isSome) = true) ∧
    ((asks (.deliveryNote [6, 7])).body = .deliveryNote [6, 7] ∧ (asks .sessionClose).body = .sessionClose) ∧
    ((collecting false).bu.session.map (·.inFlight.length) = some 1 ∧ (service 1 [] false).inFlight = [] ∧
      s.sq.queue.length < s.noteLimit) ∧
    (let summed : State := { station with bu := { station.bu with
       summary := some { van := 301, body := { allowanceAtOpen := 1, allowanceUsed := 0, collected := [], delivered := [],
                                               undelivered := [] } } } }
     summed.bu.session = none ∧ summed.bu.summary.map (·.van) = some (asks .sessionClose).origin) := by decide +kernel

/-- The van with this session and these claims of its own. -/
def visiting (st : VanSessionState) (inFlight : List VanTake) (claims : List VanClaim) : State :=
  { van with bu := { van.bu with
      ownClaims := claims, load := [{ bike := 5, station := 112, quarantined := false, time := 0 }],
      vanSession := some { state := st, station := 112, tries := 3, answerStart := 0, allowance := 1, inFlight := inFlight, nextRequest := 255,
                           idleStart := 0 } } }

def ownClaim (st : VanClaimState) (tries : Nat) : VanClaim :=
  { serial := 255, station := 112, action := .collect, amount := 24, lifetime := 90, granted := 0, state := st, refusal := none, tries := tries,
    lifeStart := 0, answerStart := 0 }

theorem witness_VanRequestsSendTheirNotices :
    (asking van (.claim 4095 1 24 90)).Takes (.claim 4095 1 24 90) ∧ (asking van (.claim 1 0 1 5)).Takes (.claim 1 0 1 5) ∧
    (asking van (.claim 301 0 1 5)).Takes (.claim 301 0 1 5) ∧
    (asking (visiting .opened [] (List.replicate 4 (ownClaim .waiting 1))) (.claim 112 0 1 5)).Takes (.claim 112 0 1 5) ∧
    (asking (visiting .opened [] (List.replicate 4 (ownClaim .used 1))) (.claim 112 0 1 5)).Takes (.claim 112 0 1 5) ∧
    (asking van (.openSession 0)).Takes (.openSession 0) ∧ (asking van (.openSession 112)).Takes (.openSession 112) ∧
    (asking (visiting .closing [] []) (.openSession 112)).Takes (.openSession 112) ∧
    (asking van .closeSession).Takes .closeSession ∧ (asking (visiting .opened [] []) .closeSession).Takes .closeSession ∧
    (asking van (.announceDelivery (List.replicate 9 1))).Takes (.announceDelivery (List.replicate 9 1)) ∧
    (asking van (.announceDelivery [16777215])).Takes (.announceDelivery [16777215]) ∧
    (asking (visiting .opened [] []) (.announceDelivery [1])).Takes (.announceDelivery [1]) ∧
    (asking van (.take 25)).Takes (.take 25) ∧ (asking van (.take 24)).Takes (.take 24) ∧
    (asking (visiting .opened (List.replicate 29 ⟨0, 1, .asked, 1, 0⟩) []) (.take 1)).Takes (.take 1) ∧
    (asking (visiting .opened (List.replicate 28 ⟨0, 1, .asked, 1, 0⟩) []) (.take 1)).Takes (.take 1) ∧
    (asking van (.unload 0)).Takes (.unload 0) ∧ (asking van (.unload 5)).Takes (.unload 5) ∧
    (asking (visiting .opened [] []) (.unload 5)).Takes (.unload 5) := by
  refine ⟨?_, ?_, ?_, ?_, ?_, ?_, ?_, ?_, ?_, ?_, ?_, ?_, ?_, ?_, ?_, ?_, ?_, ?_, ?_, ?_⟩ <;> exact takes_asking _ _ (by decide)

theorem witness_VanTimersRetryThenGiveUp :
    ((visiting .opened [] [ownClaim .waiting 2]).running = true ∧
      (visiting .opened [] [ownClaim .waiting 2]).bu.ownClaims = [] ++ ownClaim .waiting 2 :: [] ∧ (ownClaim .waiting 2).tries < 3) ∧
    (3 ≤ (ownClaim .waiting 3).tries ∧ (ownClaim .waiting 3).state = .waiting) ∧
    (visiting .closing [] [ownClaim .granted 1]).bu.ownClaims = [] ++ ownClaim .granted 1 :: [] ∧
    ((visiting .opening [] []).bu.vanSession.map (·.state) = some .opening ∧ (visiting .closing [] []).bu.vanSession.map (·.tries) = some 3) ∧
    (visiting .opened [] []).bu.vanSession.map (·.state) = some .opened ∧
    (visiting .opened [⟨254, 1, .asked, 3, 0⟩, ⟨255, 1, .granted, 1, 0⟩] []).bu.vanSession.map (·.inFlight) =
      some ([] ++ ⟨254, 1, .asked, 3, 0⟩ :: [⟨255, 1, .granted, 1, 0⟩]) := by decide

theorem witness_VansTakeTheirStationsAnswers :
    let answers (body : NoticeBody) : Notice := { told body with origin := 112, sender := 112 }
    let take (st : VanTakeState) : VanTake := { request := 9, dock := 1, state := st, tries := 1, timerStart := 0 }
    let full : State := { visiting .opened [] [] with bu := { (visiting .opened [] []).bu with
      load := List.replicate 30 { bike := 5, station := 112, quarantined := false, time := 0 } } }
    van.isVan = true ∧
    ((answers (.claimAnswer 255 .granted 24)).body = .claimAnswer 255 .granted 24 ∧
      (visiting .opened [] [ownClaim .waiting 1]).bu.ownClaims = [] ++ ownClaim .waiting 1 :: [] ∧ (ownClaim .waiting 1).serial = 255 ∧
      ∀ c ∈ (visiting .opened [] [ownClaim .granted 1]).bu.ownClaims, ¬ (c.serial = 255 ∧ c.state = .waiting)) ∧
    (∀ st ∈ [VanSessionState.opening, .opened, .closing],
      (visiting st [] []).bu.vanSession.map (fun v => (v.station, v.state)) = some ((answers .sessionOpen).origin, st)) ∧
    ((answers (.sessionAnswer .opened 1)).body = .sessionAnswer .opened 1 ∧ (told (.sessionAnswer .opened 1)).origin ≠ 112) ∧
    ((answers (.takeAnswer 9 .refusedEmpty)).body = .takeAnswer 9 .refusedEmpty ∧
      (visiting .opened [take .asked] []).bu.vanSession.map (·.inFlight) = some ([] ++ take .asked :: []) ∧
      ∀ k ∈ [take .granted], ¬ (k.request = 9 ∧ k.state = .asked)) ∧
    ((answers (.takeDone 9 1 (some 6) false)).body = .takeDone 9 1 (some 6) false ∧
      (∀ k ∈ [take .granted], k.request ≠ 8) ∧
      ((visiting .opened [] []).bu.load.any fun x => decide (x.bike = 5)) = true ∧
      ((visiting .opened [] []).bu.load.any fun x => decide (x.bike = 6)) = false ∧ (visiting .opened [] []).bu.load.length < 30 ∧
      (full.bu.load.any fun x => decide (x.bike = 6)) = false ∧ 30 ≤ full.bu.load.length) ∧
    (let m : SummaryBody := { allowanceAtOpen := 1, allowanceUsed := 1, collected := [6], delivered := [5], undelivered := [] }
     (answers (.sessionSummary m)).body = .sessionSummary m ∧
      (visiting .opened [] []).bu.load.length + m.collected.length ≤ 30 ∧
      full.sq.queue.length + m.collected.length ≤ full.noteLimit) := by decide +kernel

theorem witness_StepsKeepTheClockInRange :
    State.ClockBounded station ∧ step { station with pending := [.rawTick] } = .next (after .rawTick station) :=
  ⟨⟨by decide, by decide, by decide, by decide, by decide, by decide, by decide, by decide, by decide, by decide, by simp [station, State.reset, Clk.afterReset]⟩,
    rfl⟩

/-- The station where a session works, with a note posted. -/
def bounded : State := State.postNote (collecting false) (.clock 0 1 none)

theorem collecting_session_bounded (ss : Session) (h : bounded.bu.session = some ss) : ss.Bounded := by
  have : bounded.bu.session = (collecting false).bu.session := by decide +kernel
  rw [this] at h
  cases h
  exact ⟨by decide, by decide, by decide, by decide, by decide, by decide, by decide, by decide⟩

theorem bounded_tables : State.TablesBounded bounded where
  bikes := by decide +kernel
  bikesOnce := by decide +kernel
  holds := by decide +kernel
  heard := by decide +kernel
  heardOnce := by decide +kernel
  heardBikesOnce := by decide +kernel
  pendingClose := by decide +kernel
  pendingOnce := by decide +kernel
  settled := by decide +kernel
  spend := by decide +kernel
  spendOnce := by decide +kernel
  log := by decide +kernel
  ring := by decide +kernel
  claims := by decide +kernel
  claimsOnce := by decide +kernel
  grants := by decide +kernel
  session := collecting_session_bounded
  ownClaims := by decide +kernel
  load := by decide +kernel
  loadOnce := by decide +kernel

theorem replaying_money (i : Nat) (hi : i < 64) (f : RecordFields)
    (hf : replaying.jnl.store.read (320 + i) = some (.money (some f))) : f.body.isMoney = true := by
  have all : ∀ i < 64, ((replaying.jnl.store.read (320 + i)).bind SlotContent.asMoney).all (·.body.isMoney) = true := by decide +kernel
  simpa [hf, SlotContent.asMoney] using all i hi

theorem witness_StepsKeepTheCollectionsBounded :
    State.LinkBounded (queueing (List.replicate 11 closeEntry ++ [beaconEntry])) ∧ State.TablesBounded bounded ∧
    State.NeedBounded bounded ∧ State.HiresBounded bounded ∧
    (State.LinkBounded bounded ∧ step { bounded with pending := [.bikeOut 1] } = .next (after (.bikeOut 1) bounded)) ∧
    (replaying.inReset = false ∧ State.HiresBounded replaying ∧ State.StoreFits replaying) :=
  ⟨⟨by decide, by decide +kernel, by decide, by decide, by decide, by decide, by decide, by decide⟩, bounded_tables,
    ⟨by decide +kernel, by decide +kernel, by decide +kernel, by decide +kernel⟩, ⟨by decide +kernel, by decide +kernel, by decide +kernel, by decide +kernel,
      by decide +kernel, by decide +kernel⟩,
    ⟨⟨by decide +kernel, by decide +kernel, by decide +kernel, by decide +kernel, by decide +kernel, by decide +kernel,
      by decide +kernel, by decide +kernel⟩, rfl⟩,
    by decide, ⟨by decide +kernel, by decide, by decide, by decide, by decide, by decide⟩, replaying_money, by decide +kernel⟩

theorem witness_StepsKeepRequestsAdmitted :
    let s := asking (inStart station .replay) .readOptions
    s.RequestAdmitted ∧ s.kl.link = .working ∧ step { s with pending := [.readOptions] } = .next (after .readOptions s) := by
  refine ⟨⟨by decide, fun r h => ?_⟩, rfl, rfl⟩
  obtain rfl : Request.readOptions = r := Option.some.inj h
  decide

def toVan : Dock := { heardDock .releasing (some 5) with release := some { purpose := .van, card := none, start := 0 } }
def toMember : Dock := { heardDock .releasing (some 6) with release := some { purpose := .member, card := some member, start := 0 } }

/-- The station with dock 1 released to the van, a bike in dock 2, dock 3 released to a member, and one owned hire. -/
def busy : State :=
  { State.putDock (State.putDock (collecting false) 2 (heardDock .holding (some 7))) 3 toMember with hu := atMidnight.hu }

theorem busy_dock (d : Nat) : d = 1 ∧ busy.dock d = toVan ∨ d = 2 ∧ busy.dock d = heardDock .holding (some 7) ∨
    d = 3 ∧ busy.dock d = toMember ∨ d ≠ 1 ∧ d ≠ 2 ∧ d ≠ 3 ∧ busy.dock d = Dock.initial 0 := by
  by_cases h : d < 25
  · revert d; decide +kernel
  · have : ¬ (1 ≤ d ∧ d ≤ 24) := by omega
    exact .inr (.inr (.inr ⟨by omega, by omega, by omega, by simp [State.dock, Du.dock, this]⟩))

/-- The bikes at the docks of `busy`. -/
theorem busy_bike (d : Nat) (x : DockedBike) (h : (busy.dock d).bike = some x) :
    x.bike ∈ [5, 7, 6] ∧ d = [5, 7, 6].idxOf x.bike + 1 := by
  obtain ⟨rfl, e⟩ | ⟨rfl, e⟩ | ⟨rfl, e⟩ | ⟨-, -, -, e⟩ := busy_dock d <;> rw [e] at h <;> cases h <;> decide

theorem busy_session : busy.bu.session.map (·.inFlight.map (·.dock)) = some [1] := by decide +kernel

theorem busy_formed : busy.DocksFormed where
  releasing d := by obtain ⟨-, e⟩ | ⟨-, e⟩ | ⟨-, e⟩ | ⟨-, -, -, e⟩ := busy_dock d <;> rw [e] <;> decide
  pending d r h := by
    obtain ⟨-, e⟩ | ⟨-, e⟩ | ⟨-, e⟩ | ⟨-, -, -, e⟩ := busy_dock d <;> rw [e] at h <;> cases h <;> decide
  recorded d h := by
    obtain ⟨-, e⟩ | ⟨-, e⟩ | ⟨-, e⟩ | ⟨-, -, -, e⟩ := busy_dock d <;> rw [e] at h ⊢ <;> revert h <;> decide
  empty d h := by
    obtain ⟨-, e⟩ | ⟨-, e⟩ | ⟨-, e⟩ | ⟨-, -, -, e⟩ := busy_dock d <;> rw [e] at h ⊢ <;> revert h <;> decide
  quarantined _ _ _ _ _ _ e he := by
    have none : busy.du.bikes = [] := by decide +kernel
    simp [none] at he
  heard d h := by
    obtain ⟨-, e⟩ | ⟨-, e⟩ | ⟨-, e⟩ | ⟨-, -, -, e⟩ := busy_dock d <;> rw [e] at h ⊢ <;> revert h <;> decide
  polled d h _ _ := by
    have polled : busy.du.polled = some (1, .event) := by decide +kernel
    obtain rfl : 1 = d := by simpa [polled] using h
    decide +kernel
  takes d := by
    obtain ⟨ss, hs, hf⟩ := Option.map_eq_some_iff.mp busy_session
    have right : (∃ x, busy.bu.session = some x ∧ d ∈ x.inFlight.map (·.dock)) ↔ d = 1 :=
      ⟨fun ⟨x, hx, hd⟩ => by cases hs.symm.trans hx; simpa [hf] using hd, fun h => ⟨ss, hs, by rw [hf]; simp [h]⟩⟩
    rw [right]
    obtain ⟨i, e⟩ | ⟨i, e⟩ | ⟨i, e⟩ | ⟨i, -, -, e⟩ := busy_dock d <;> rw [e] <;> simp [i, toVan, toMember, heardDock, Dock.initial]
  takesOnce ss h := by
    have once := busy_session
    rw [h] at once
    simp [Option.some.inj once]
  unstarted h := absurd h (by decide +kernel)

theorem witness_StepsKeepDocksAndHiresApart : busy.DocksFormed ∧ busy.DockedOnce ∧ busy.HiresApart ∧
    step { busy with pending := [.bikeOut 1] } = .next (after (.bikeOut 1) busy) := by
  refine ⟨busy_formed, fun d e x y hx hy hb => ?_, ⟨by decide +kernel, fun d x hx o ho => ?_⟩, rfl⟩
  · rw [(busy_bike d x hx).2, (busy_bike e y hy).2, hb]
  · have hired : ∀ o ∈ busy.hu.owned, o.fields.bike = 40117 := by decide +kernel
    have here := (busy_bike d x hx).1
    rw [hired o ho]
    intro h
    rw [← h] at here
    exact absurd here (by decide)

/-- A station whose store holds an owned hire, a hire that has ended since and a money record; the write of the ended hire's own money
record is in progress. -/
def keeping : State :=
  let hire (n : Nat) (bike : Bike) : OwnedFields :=
    { serial := n, card := 7730411, cls := .member, bike := bike, dock := 1, start := 699999000, band := 0, terms := bandOne,
      classTerms := ⟨80, 1500, false⟩, stepped := false }
  let record (n slot : Nat) : SettlementRecord := station.newRecord (.overdue ⟨112, n⟩ 7730411 40117 0 25000) (some slot) 1
  { station with
    hu := { station.hu with owned := [{ fields := hire 1 40117, durable := true, slot := 0 }], hireSerial := 4 },
    sq := { station.sq with queue := [{ record 3 0 with slotDone := true, ownedDone := true, ownedSlot := 2 }, record 2 1] },
    jnl := { station.jnl with
      store := [(272, .owned (some (hire 1 40117))), (273, .owned (some (hire 2 5))), (320, .money (some (record 3 0).fields))],
      writeList := [.owned 1],
      wip := some { slot := .money 1, content := .money (some (record 2 1).fields), again := false, touched := false } } }

/-- The hires the store of `keeping` holds, by slot. -/
theorem keeping_hires (j : Nat) (hj : j < 48) (f : OwnedFields) (h : keeping.mayHold (.owned j) (.owned (some f))) :
    j < 2 ∧ f.serial = j + 1 := by
  rcases h with h | ⟨w, hw, hs, _⟩
  · have all : ∀ j < 48, ((keeping.jnl.store.read (272 + j)).bind SlotContent.asOwned).all
        (fun f => decide (j < 2 ∧ f.serial = j + 1)) = true := by decide +kernel
    have := all j hj
    rw [show keeping.jnl.store.read (272 + j) = _ from h] at this
    simpa [SlotContent.asOwned] using this
  · cases hw; cases hs

/-- The money records the store of `keeping` holds or has being written, by slot. -/
theorem keeping_money (i : Nat) (hi : i < 64) (f : RecordFields) (h : keeping.mayHold (.money i) (.money (some f))) :
    f.body.isMoney = true ∧ ∃ r ∈ keeping.sq.queue, r.slot = some i ∧ r.fields = f := by
  rcases h with h | ⟨w, hw, hs, hc⟩
  · have all : ∀ i < 64, ((keeping.jnl.store.read (320 + i)).bind SlotContent.asMoney).all
        (fun f => f.body.isMoney && keeping.sq.queue.any fun r => decide (r.slot = some i) && decide (r.fields = f)) = true := by
      decide +kernel
    have := all i hi
    rw [show keeping.jnl.store.read (320 + i) = _ from h] at this
    simpa [SlotContent.asMoney] using this
  · cases hw; cases hs; cases hc
    decide +kernel

theorem keeping_bills (r : SettlementRecord) (n : Serial) (h : keeping.bills r n) : n ∈ [2, 3] ∧ r.ownedBegun = false := by
  obtain ⟨hr, hb⟩ := h
  have all : ∀ r ∈ keeping.sq.queue, r.ownedBegun = false ∧
      (r.fields.body.moneyHire = some ⟨112, 2⟩ ∨ r.fields.body.moneyHire = some ⟨112, 3⟩) := by decide +kernel
  obtain ⟨hd, e | e⟩ := all r hr <;> rw [hb] at e <;> cases e <;> exact ⟨by decide, hd⟩

theorem keeping_fits : keeping.StoreFits :=
  ⟨fun i hi f h => (keeping_money i hi f (.inl h)).1, by decide +kernel⟩

theorem keeping_told : keeping.StoreTold where
  money i hi f h := let ⟨a, b⟩ := keeping_money i hi f h; ⟨a, .inl b⟩
  hires j hj f h := by
    have owned : ∃ o ∈ keeping.hu.owned, o.slot = 0 ∧ o.fields.serial = 1 := by decide +kernel
    have billed : ∃ r ∈ keeping.sq.queue, r.fields.body.moneyHire = some ⟨112, 2⟩ ∧ r.ownedSlot = 1 ∧ r.ownedDone = false := by
      decide +kernel
    obtain ⟨two, hf⟩ := keeping_hires j hj f h
    obtain rfl | rfl : j = 0 ∨ j = 1 := by omega
    · exact .inl (hf ▸ owned)
    · obtain ⟨r, hr, hb, hs⟩ := billed
      exact .inr (.inl ⟨r, ⟨hr, hf ▸ hb⟩, hs⟩)
  ended r n h o ho := by
    have all : ∀ o ∈ keeping.hu.owned, o.fields.serial = 1 := by decide +kernel
    rw [all o ho]
    rintro rfl
    exact absurd (keeping_bills r 1 h).1 (by decide)
  begun r n h hb := absurd hb (by simp [(keeping_bills r n h).2])
  leaving l h := absurd h (by have : keeping.sq.leaving = [] := by decide +kernel
                              simp [this])
  slotsOnce := by decide +kernel
  serialsOnce := by decide +kernel

theorem keeping_follows : keeping.StoreFollows where
  hiresOnce i hi j hj f g hf hg e :=
    Nat.succ.inj ((keeping_hires i hi f hf).2.symm.trans (e.trans (keeping_hires j hj g hg).2))
  resting h := absurd h (by decide)
  told _ := keeping_told

theorem keeping_serials : keeping.NextSerialsFree := by
  intro (k : Nat) (hk : k < 2)
  have owned : ∀ o ∈ keeping.hu.owned, o.fields.serial = 1 := by decide +kernel
  have next : (keeping.hu.hireSerial + k) % 65536 = 4 ∨ (keeping.hu.hireSerial + k) % 65536 = 5 := by
    obtain rfl | rfl : k = 0 ∨ k = 1 := by omega
    · exact .inl rfl
    · exact .inr rfl
  refine ⟨fun o ho h => ?_, fun r h => ?_, fun j hj f h e => ?_⟩
  · rw [owned o ho] at h
    obtain n | n := next <;> rw [n] at h <;> cases h
  · have billed := (keeping_bills r _ h).1
    obtain n | n := next <;> rw [n] at billed <;> exact absurd billed (by decide)
  · obtain ⟨two, hf⟩ := keeping_hires j hj f h
    rw [hf] at e
    obtain rfl | rfl : j = 0 ∨ j = 1 := by omega
    all_goals obtain n | n := next <;> rw [n] at e <;> cases e

theorem replaying_follows : replaying.StoreFollows where
  hiresOnce i hi j hj f g hf hg _ := by
    have all : ∀ j < 48, ((replaying.jnl.store.read (272 + j)).bind SlotContent.asOwned).all (fun _ => decide (j = 0)) = true := by
      decide +kernel
    have only (j : Nat) (hj : j < 48) (f : OwnedFields) (h : replaying.mayHold (.owned j) (.owned (some f))) : j = 0 := by
      rcases h with h | ⟨w, hw, -⟩
      · have one := all j hj
        rw [show replaying.jnl.store.read (272 + j) = _ from h] at one
        simpa [SlotContent.asOwned] using one
      · cases hw
    exact (only i hi f hf).trans (only j hj g hg).symm
  resting _ := by decide
  told h := absurd h (by decide)

theorem replaying_formed : State.StoreFormed replaying :=
  ⟨by decide +kernel, by decide, by decide, (fun _ h => nomatch h), by decide, by decide, by decide, by decide⟩

theorem witness_StepsKeepTheStoreReplayable :
    (keeping.isVan = false ∧ keeping.StoreFormed ∧ keeping.HiresBounded ∧ keeping.StoreFits ∧ keeping.StoreFollows ∧
      keeping.awake = true ∧ keeping.NextSerialsFree ∧ (∀ w, keeping.jnl.wip = some w → w.again = false) ∧
      step { keeping with pending := [.journalWriteEnd true] } = .next (after (.journalWriteEnd true) keeping) ∧
      (after (.journalWriteEnd true) keeping).node = keeping.node) ∧
    (replaying.isVan = false ∧ replaying.StoreFormed ∧ replaying.HiresBounded ∧ replaying.StoreFits ∧ replaying.StoreFollows ∧
      replaying.awake = false ∧ (replaying.unbilled.map (·.bike)).Nodup ∧
      step { replaying with pending := [.replayComplete] } = .next (after .replayComplete replaying) ∧
      (after .replayComplete replaying).node = replaying.node) := by
  refine ⟨⟨rfl, ⟨by decide +kernel, by decide, by decide, ?_, by decide, by decide, by decide +kernel, by decide⟩,
    ⟨by decide +kernel, by decide +kernel, by decide +kernel, by decide +kernel, by decide +kernel, by decide⟩, keeping_fits,
    keeping_follows, rfl, keeping_serials, ?_, rfl, by decide +kernel⟩,
    ⟨rfl, replaying_formed, ⟨by decide +kernel, by decide, by decide, by decide, by decide, by decide⟩,
      ⟨replaying_money, by decide +kernel⟩, replaying_follows, rfl, by decide +kernel, rfl, by decide +kernel⟩⟩
  · intro w hw; cases hw; decide
  · intro w hw; cases hw; rfl

theorem witness_StepsKeepTheStoreFormed : State.StoreFormed replaying ∧ State.StoreFormed keeping :=
  ⟨replaying_formed, witness_StepsKeepTheStoreReplayable.1.2.1⟩

end Sys2Proof.Machine.Tests
end

section
/-!
PROOFS. The calendar view of station time (R1): days counted off through years and months, and the two directions between a station time
and its calendar time.
-/
namespace Sys2Proof.Machine
open Sys2Proof

/-! ### Counting off through units of known lengths -/

/-- Days counted off through units, year by year or month by month: the unit reached and the days left in it. -/
def countOff (len : Nat → Nat) : Nat → Nat → Nat → Nat × Nat
  | 0, k, days => (k, days)
  | fuel + 1, k, days => if days < len k then (k, days) else countOff len fuel (k + 1) (days - len k)

theorem countYears_eq (fuel year days : Nat) : countYears fuel year days = countOff yearLength fuel year days := by
  induction fuel generalizing year days with
  | zero => rfl
  | succ fuel ih => simp only [countYears, countOff, ih]

theorem countMonths_eq (year fuel month days : Nat) :
    countMonths fuel year month days = countOff (monthLength year) fuel month days := by
  induction fuel generalizing month days with
  | zero => rfl
  | succ fuel ih => simp only [countMonths, countOff, ih]

section
variable {len before : Nat → Nat} {low : Nat}

theorem before_mono (sums : ∀ k, low ≤ k → before (k + 1) = before k + len k) {k n : Nat} (hk : low ≤ k) (h : k ≤ n) :
    before k ≤ before n := by
  induction n, h using Nat.le_induction with
  | base => exact Nat.le_refl _
  | succ n hn ih =>
    have := sums n (hk.trans hn)
    omega

/-- A number of days that the units hold together is counted off to a unit that holds the rest. -/
theorem countOff_spec (sums : ∀ k, low ≤ k → before (k + 1) = before k + len k) (fuel k days : Nat) (hk : low ≤ k)
    (held : before k + days < before (k + fuel)) :
    k ≤ (countOff len fuel k days).1 ∧ (countOff len fuel k days).1 < k + fuel ∧
    (countOff len fuel k days).2 < len (countOff len fuel k days).1 ∧
    before (countOff len fuel k days).1 + (countOff len fuel k days).2 = before k + days := by
  induction fuel generalizing k days with
  | zero => simp only [Nat.add_zero] at held; omega
  | succ fuel ih =>
    simp only [countOff]
    split
    · exact ⟨Nat.le_refl _, by omega, by assumption, rfl⟩
    · have next := sums k hk
      have := ih (k + 1) (days - len k) (by omega) (by rw [show k + 1 + fuel = k + (fuel + 1) by omega]; omega)
      omega

/-- The unit and the rest are found again from their number of days. -/
theorem countOff_eq (sums : ∀ k, low ≤ k → before (k + 1) = before k + len k) (fuel k days n rest : Nat) (hk : low ≤ k)
    (hn : k ≤ n) (hf : n < k + fuel) (hr : rest < len n) (total : before k + days = before n + rest) :
    countOff len fuel k days = (n, rest) := by
  induction fuel generalizing k days with
  | zero => omega
  | succ fuel ih =>
    have next := sums k hk
    simp only [countOff]
    obtain rfl | later := Nat.eq_or_lt_of_le hn
    · obtain rfl : days = rest := by omega
      rw [if_pos hr]
    · have := before_mono sums (k := k + 1) (by omega) later
      rw [if_neg (by omega)]
      exact ih (k + 1) (days - len k) (by omega) later (by omega) (by omega)

end

/-! ### Dates and day numbers -/

/-- The days from 2000-01-01 to the first of a year. -/
def daysBeforeYear (year : Nat) : Nat := (year - 2000) * 365 + (year - 2000 + 3) / 4

theorem daysBeforeYear_succ (year : Nat) (h : 2000 ≤ year) : daysBeforeYear (year + 1) = daysBeforeYear year + yearLength year := by
  unfold daysBeforeYear yearLength isLeapYear
  split
  · simp only [beq_iff_eq] at *
    omega
  · simp only [beq_iff_eq] at *
    omega

theorem daysBeforeMonth_year (year : Nat) : daysBeforeMonth year 13 = yearLength year := by
  simp only [daysBeforeMonth, monthLength, yearLength]
  split <;> rfl

theorem month_of_day {year month day : Nat} (h : 1 ≤ day) (h' : day ≤ monthLength year month) : 1 ≤ month ∧ month ≤ 12 := by
  unfold monthLength at h'
  split at h' <;> omega

theorem dayOfDate_eq (d : Date) : dayOfDate d = daysBeforeYear d.year + daysBeforeMonth d.year d.month + (d.day - 1) := rfl

theorem dateExists_iff (d : Date) : dateExists d = true ↔
    2000 ≤ d.year ∧ d.year ≤ 2099 ∧ 1 ≤ d.day ∧ d.day ≤ monthLength d.year d.month := by
  simp [dateExists, and_assoc]

/-- The days of a date that exists before it in its year are fewer than the year has. -/
theorem dayOfYear_lt {d : Date} (h : dateExists d = true) : daysBeforeMonth d.year d.month + (d.day - 1) < yearLength d.year := by
  obtain ⟨-, -, day, len⟩ := (dateExists_iff d).mp h
  obtain ⟨-, month⟩ := month_of_day day len
  have := before_mono (low := 0) (before := daysBeforeMonth d.year) (fun _ _ => rfl) (Nat.zero_le _)
    (show d.month + 1 ≤ 13 by omega)
  rw [daysBeforeMonth_year] at this
  simp only [daysBeforeMonth] at this
  omega

theorem daysBeforeYear_first : daysBeforeYear 2000 = 0 := rfl

/-- The days from 2000 to 2099. -/
theorem daysBeforeYear_past : daysBeforeYear 2100 = 36525 := rfl

theorem daysBeforeMonth_first (year : Nat) : daysBeforeMonth year 1 = 0 := rfl

/-- The date of a day number up to 2099 exists, and has that day number. -/
theorem dateOfDay_spec {n : Nat} (h : n < 36525) : dateExists (dateOfDay n) = true ∧ dayOfDate (dateOfDay n) = n := by
  have ⟨yearLow, yearHigh, left, days⟩ := countOff_spec daysBeforeYear_succ 100 2000 n (Nat.le_refl _)
    (by rw [daysBeforeYear_first, daysBeforeYear_past]; omega)
  rw [← countYears_eq] at yearLow yearHigh left days
  have ⟨_, _, day, rest⟩ := countOff_spec (low := 1) (before := daysBeforeMonth (countYears 100 2000 n).1) (fun _ _ => rfl)
    12 1 (countYears 100 2000 n).2 (Nat.le_refl _) (by rw [daysBeforeMonth_year, daysBeforeMonth_first]; omega)
  rw [← countMonths_eq] at day rest
  rw [daysBeforeYear_first] at days
  rw [daysBeforeMonth_first] at rest
  constructor
  · exact (dateExists_iff _).mpr ⟨yearLow, Nat.le_of_lt_succ yearHigh, Nat.le_add_left 1 _, day⟩
  · rw [dayOfDate_eq]
    simp only [dateOfDay, Nat.add_sub_cancel]
    omega

theorem dayOfDate_lt {d : Date} (h : dateExists d = true) : dayOfDate d < 36525 := by
  have inYear := dayOfYear_lt h
  obtain ⟨yearLow, yearHigh, -, -⟩ := (dateExists_iff d).mp h
  have := before_mono daysBeforeYear_succ (show 2000 ≤ d.year + 1 by omega) (show d.year + 1 ≤ 2100 by omega)
  rw [daysBeforeYear_past, daysBeforeYear_succ _ yearLow] at this
  rw [dayOfDate_eq]
  omega

/-- A date that exists is found again from its day number. -/
theorem dateOfDay_dayOfDate {d : Date} (h : dateExists d = true) : dateOfDay (dayOfDate d) = d := by
  have inYear := dayOfYear_lt h
  obtain ⟨yearLow, yearHigh, day, month⟩ := (dateExists_iff d).mp h
  obtain ⟨monthLow, monthHigh⟩ := month_of_day day month
  have years : countYears 100 2000 (dayOfDate d) = (d.year, daysBeforeMonth d.year d.month + (d.day - 1)) := by
    rw [countYears_eq]
    exact countOff_eq daysBeforeYear_succ 100 2000 _ _ _ (Nat.le_refl _) yearLow (by omega) inYear
      (by rw [dayOfDate_eq, daysBeforeYear_first]; omega)
  have months : countMonths 12 d.year 1 (daysBeforeMonth d.year d.month + (d.day - 1)) = (d.month, d.day - 1) := by
    rw [countMonths_eq]
    exact countOff_eq (low := 1) (before := daysBeforeMonth d.year) (fun _ _ => rfl) 12 1 _ _ _ (Nat.le_refl _) monthLow
      (by omega) (by omega) (by rw [daysBeforeMonth_first]; omega)
  simp only [dateOfDay, years, months, Nat.sub_add_cancel day]

/-! ### Calendar times and station seconds -/

theorem calendarExists_iff (c : CalendarTime) : calendarExists c = true ↔
    dateExists { year := c.year, month := c.month, day := c.day } = true ∧ c.hour ≤ 23 ∧ c.minute ≤ 59 ∧ c.second ≤ 59 := by
  simp [calendarExists, and_assoc]

theorem secondsOf_eq (c : CalendarTime) : secondsOf c =
    dayOfDate { year := c.year, month := c.month, day := c.day } * 86400 + c.hour * 3600 + c.minute * 60 + c.second := rfl

/-- A calendar time that exists is a station time (R1, R7). -/
theorem secondsOf_le (c : CalendarTime) (h : calendarExists c = true) : secondsOf c ≤ lastTime := by
  obtain ⟨date, hour, minute, second⟩ := (calendarExists_iff c).mp h
  have := dayOfDate_lt date
  obtain ⟨n, hn⟩ : ∃ n : Nat, n = secondsOf c := ⟨_, rfl⟩
  have total := hn.trans (secondsOf_eq c)
  rw [← hn]
  exact (by omega : n ≤ 3155759999)

/-- The calendar view of a station time exists and tells that time (R1). -/
theorem calendarOf_spec {t : Time} (h : t ≤ lastTime) : calendarExists (calendarOf t) = true ∧ secondsOf (calendarOf t) = t := by
  obtain ⟨n, rfl⟩ : ∃ n : Nat, n = t := ⟨t, rfl⟩
  have inRange : n ≤ 3155759999 := h
  obtain ⟨date, number⟩ := dateOfDay_spec (n := n / 86400) (by omega)
  constructor
  · exact (calendarExists_iff _).mpr ⟨date, by simp only [calendarOf]; omega, by simp only [calendarOf]; omega,
      by simp only [calendarOf]; omega⟩
  · calc secondsOf (calendarOf n)
        = dayOfDate (dateOfDay (n / 86400)) * 86400 + n % 86400 / 3600 * 3600 + n % 3600 / 60 * 60 + n % 60 := rfl
      _ = n := by rw [number]; omega

/-- A calendar time that exists is found again from its station seconds. -/
theorem calendarOf_secondsOf {c : CalendarTime} (h : calendarExists c = true) : calendarOf (secondsOf c) = c := by
  obtain ⟨date, hour, minute, second⟩ := (calendarExists_iff c).mp h
  obtain ⟨n, hn⟩ : ∃ n : Nat, n = secondsOf c := ⟨_, rfl⟩
  have total := hn.trans (secondsOf_eq c)
  have day : dateOfDay (n / 86400) = { year := c.year, month := c.month, day := c.day } := by
    rw [show n / 86400 = dayOfDate { year := c.year, month := c.month, day := c.day } by omega]
    exact dateOfDay_dayOfDate date
  calc calendarOf (secondsOf c)
      = { year := (dateOfDay (n / 86400)).year, month := (dateOfDay (n / 86400)).month, day := (dateOfDay (n / 86400)).day,
          hour := n % 86400 / 3600, minute := n % 3600 / 60, second := n % 60 } := by rw [← hn]; rfl
    _ = c := by
      rw [day, show n % 86400 / 3600 = c.hour by omega, show n % 3600 / 60 = c.minute by omega,
        show n % 60 = c.second by omega]

/-- Settles O8: days are counted off through years and months to the one date that has their number, and the seconds of the day
split into hour, minute and second. -/
theorem calendarAndSecondsAreInverse : Obligations.CalendarAndSecondsAreInverse :=
  ⟨fun _ h => calendarOf_spec h, fun c h => ⟨secondsOf_le c h, calendarOf_secondsOf h⟩⟩

end Sys2Proof.Machine
end

section
/-!
PROOFS. What leaves the station clock as it was: one lemma for each operation of the other blocks that the shared frame lemmas do not
speak of.
-/
namespace Sys2Proof.Machine
open Sys2Proof

/-! ### What leaves the clock as it was -/

/-! #### Hires -/

@[simp] theorem State.delivery_clk {s t : State} {b : Bike} (h : s.delivery b = some t) : t.clk = s.clk := by
  unfold State.delivery at h
  split at h
  · cases h
  · split at h
    · cases h; simp
    · cases h

@[simp] theorem State.placeHold_clk (s : State) (c : Card) (r : HoldReason) : (s.placeHold c r).1.clk = s.clk := by
  unfold State.placeHold
  split <;> simp

@[simp] theorem State.takeCardHold_clk (s : State) (i : Ident) (c : Card) (r : HoldReason) :
    (s.takeCardHold i c r).clk = s.clk := by
  unfold State.takeCardHold
  split <;> simp

@[simp] theorem State.convertOverdue_clk (s : State) (o : OwnedHire) : (s.convertOverdue o).clk = s.clk := by
  simp [State.convertOverdue]

@[simp] theorem State.hireBoundary_clk (s : State) : s.hireBoundary.clk = s.clk := by
  unfold State.hireBoundary
  split
  · simp [foldl_kept State.clk State.convertOverdue State.convertOverdue_clk]
  · rfl

@[simp] theorem State.shiftHires_clk (s : State) (a : Int) : (s.shiftHires a).clk = s.clk := by
  unfold State.shiftHires
  simp [foldl_kept State.clk (fun (s : State) (o : OwnedHire) => s.mark (.owned o.slot)) (fun _ _ => rfl)]

@[simp] theorem State.returnHere_clk (s : State) (d : Nat) (b : Bike) : (s.returnHere d b).1.clk = s.clk := by
  simp [State.returnHere]

@[simp] theorem State.arrival_clk (s : State) (d : Nat) (b : Bike) (u : Bool) : (s.arrival d b u).1.clk = s.clk := by
  unfold State.arrival
  split
  · dsimp only
    split <;> simp
  · split
    · simp
    · split
      · simp [State.delivery_clk ‹_›]
      · split <;> simp

@[simp] theorem State.repeatClose_clk (s : State) (b : Bike) (e : Time) : (s.repeatClose b e).clk = s.clk := by
  unfold State.repeatClose
  split
  · rfl
  · dsimp only
    split <;> simp

@[simp] theorem State.takeHireOpen_clk (s : State) (i : Ident) (c : Card) (b : Bike) (t : Time) :
    (s.takeHireOpen i c b t).clk = s.clk := by
  unfold State.takeHireOpen
  dsimp only
  repeat' split
  all_goals simp

@[simp] theorem State.remoteClose_clk (s : State) (n : Node) (b : Bike) (e : Time) (g : Nat) (i : Option Serial) :
    (s.remoteClose n b e g i).clk = s.clk := by
  unfold State.remoteClose
  dsimp only
  repeat' split
  all_goals simp

@[simp] theorem State.takeHireClose_clk (s : State) (n : Node) (b : Bike) (e : Time) (g : Nat) (h : Option Ident) :
    (s.takeHireClose n b e g h).clk = s.clk := by
  unfold State.takeHireClose
  dsimp only
  repeat' split
  all_goals simp

@[simp] theorem State.takeHireSettled_clk (s : State) (i : Ident) (b : Bike) (n : Node) (e : Time) (o : HireOutcome) :
    (s.takeHireSettled i b n e o).clk = s.clk := by
  unfold State.takeHireSettled
  dsimp only
  repeat' split
  all_goals simp

/-! #### Faults -/

@[simp] theorem State.takeFault_clk (s : State) (i : Ident) (b : Bike) (k : FaultKind) (v : Nat) :
    (s.takeFault i b k v).clk = s.clk := by
  unfold State.takeFault
  dsimp only
  repeat' split
  all_goals simp

@[simp] theorem State.takeFaultClear_clk (s : State) (b : Bike) (t : Time) : (s.takeFaultClear b t).clk = s.clk := by
  unfold State.takeFaultClear
  dsimp only
  split <;> simp

@[simp] theorem State.clearFaultsOf_clk (s : State) (x : Subject) : (s.clearFaultsOf x).clk = s.clk := by
  unfold State.clearFaultsOf
  cases x <;> simp

@[simp] theorem State.clearPostSilent_clk (s : State) (d : Nat) : (s.clearPostSilent d).clk = s.clk := by
  simp [State.clearPostSilent]

/-! #### Docks -/

@[simp] theorem State.noAnswer_clk (s : State) : s.noAnswer.clk = s.clk := rfl

@[simp] theorem State.postHeard_clk (s : State) (d : Nat) : (s.postHeard d).clk = s.clk := by
  simp [State.postHeard]

/-- A post's answer leaves the clock as it was where its event does. -/
theorem State.takeAnswer_clk (s : State) (d : Nat) (heartbeat : Bool) (event : State → State)
    (h : ∀ t, (event t).clk = t.clk) : (s.takeAnswer d heartbeat event).clk = s.clk := by
  unfold State.takeAnswer
  split
  · simp [h]
  · split <;> simp

@[simp] theorem State.completeRelease_clk (s : State) (d : Nat) : (s.completeRelease d).clk = s.clk := by
  unfold State.completeRelease
  dsimp only
  split <;> simp

@[simp] theorem State.forcedRemoval_clk (s : State) (d : Nat) (b : Bike) : (s.forcedRemoval d b).clk = s.clk := by
  simp [State.forcedRemoval]

@[simp] theorem State.bikeLeaves_clk (s : State) (d : Nat) : (s.bikeLeaves d).clk = s.clk := by
  unfold State.bikeLeaves
  repeat' split
  all_goals simp

@[simp] theorem State.leaveOther_clk (s : State) (d : Nat) (b : Bike) : (s.leaveOther d b).clk = s.clk := by
  unfold State.leaveOther
  repeat' split
  all_goals simp

@[simp] theorem State.arrive_clk (s : State) (d : Nat) (b : Bike) : (s.arrive d b).clk = s.clk := by
  simp [State.arrive]

@[simp] theorem State.arriveUnavailable_clk (s : State) (d : Nat) (b : Bike) : (s.arriveUnavailable d b).clk = s.clk := by
  simp [State.arriveUnavailable]

@[simp] theorem State.bikeArrives_clk (s : State) (d : Nat) (b : Bike) : (s.bikeArrives d b).clk = s.clk := by
  unfold State.bikeArrives
  repeat' split
  all_goals simp

@[simp] theorem State.compareHeartbeat_clk (s : State) (d : Nat) (b : Bike) : (s.compareHeartbeat d b).clk = s.clk := by
  unfold State.compareHeartbeat
  repeat' split
  all_goals simp

@[simp] theorem State.firstHeartbeat_clk (s : State) (d : Nat) (b : Bike) : (s.firstHeartbeat d b).clk = s.clk := by
  unfold State.firstHeartbeat
  dsimp only
  split <;> simp

@[simp] theorem State.recoverPost_clk (s : State) (d : Nat) (b : Bike) : (s.recoverPost d b).clk = s.clk := by
  unfold State.recoverPost
  dsimp only
  split <;> simp

@[simp] theorem State.tapCard_clk (s : State) (d : Nat) (c : CardRecord) : (s.tapCard d c).clk = s.clk := by
  unfold State.tapCard
  split <;> simp

@[simp] theorem State.pressButton_clk (s : State) (d : Nat) : (s.pressButton d).clk = s.clk := by
  unfold State.pressButton
  repeat' split
  all_goals simp

@[simp] theorem State.releaseTimesOut_clk (s : State) (d : Nat) : (s.releaseTimesOut d).clk = s.clk := by
  unfold State.releaseTimesOut
  dsimp only
  repeat' split
  all_goals simp

@[simp] theorem State.postFallsSilent_clk (s : State) (d : Nat) : (s.postFallsSilent d).clk = s.clk := by
  unfold State.postFallsSilent
  dsimp only
  split <;> simp

@[simp] theorem State.sendPoll_clk (s : State) : s.sendPoll.clk = s.clk := rfl

@[simp] theorem State.disableDock_clk (s : State) (d : Nat) : (s.disableDock d).clk = s.clk := by
  unfold State.disableDock
  dsimp only
  split <;> simp

@[simp] theorem State.enableDock_clk (s : State) (d : Nat) : (s.enableDock d).clk = s.clk := by
  unfold State.enableDock
  split <;> simp

/-! #### Claims, sessions and the van -/

@[simp] theorem State.takeClaim_clk (s : State) (v : Node) (n : Serial) (a : ClaimAction) (m l : Nat) :
    (s.takeClaim v n a m l).clk = s.clk := by
  unfold State.takeClaim
  dsimp only
  repeat' split
  all_goals simp

@[simp] theorem State.takeSessionOpen_clk (s : State) (v : Node) : (s.takeSessionOpen v).clk = s.clk := by
  unfold State.takeSessionOpen
  dsimp only
  repeat' split
  all_goals simp

@[simp] theorem State.takeDeliveryNote_clk (s : State) (v : Node) (l : List Bike) : (s.takeDeliveryNote v l).clk = s.clk := by
  unfold State.takeDeliveryNote
  repeat' split
  all_goals simp

@[simp] theorem State.closeUnheld_clk (s : State) (v : Node) : (s.closeUnheld v).clk = s.clk := by
  unfold State.closeUnheld
  repeat' split
  all_goals simp

@[simp] theorem State.takeSessionClose_clk (s : State) (v : Node) : (s.takeSessionClose v).clk = s.clk := by
  unfold State.takeSessionClose
  repeat' split
  all_goals simp

@[simp] theorem State.takeTakeRequest_clk (s : State) (v : Node) (r : Serial) (d : Nat) :
    (s.takeTakeRequest v r d).clk = s.clk := by
  unfold State.takeTakeRequest
  dsimp only
  repeat' split
  all_goals simp

@[simp] theorem State.claimExpiry_clk (s : State) (i : Ident) : (s.claimExpiry i).clk = s.clk := by
  unfold State.claimExpiry
  dsimp only
  repeat' split
  all_goals simp

@[simp] theorem State.sessionIdle_clk (s : State) : s.sessionIdle.clk = s.clk := by
  unfold State.sessionIdle
  repeat' split
  all_goals simp

@[simp] theorem State.setVanSession_clk (s : State) (v : Option VanSession) : (s.setVanSession v).clk = s.clk := rfl
@[simp] theorem State.setOwnClaims_clk (s : State) (l : List VanClaim) : (s.setOwnClaims l).clk = s.clk := rfl
@[simp] theorem State.setLastTake_clk (s : State) (o : LastTake) : (s.setLastTake o).clk = s.clk := rfl
@[simp] theorem State.useClaimSerial_clk (s : State) : s.useClaimSerial.clk = s.clk := rfl
@[simp] theorem State.setTakes_clk (s : State) (v : VanSession) (l : List VanTake) : (s.setTakes v l).clk = s.clk := rfl

@[simp] theorem State.endTake_clk (s : State) (v : VanSession) (p : VanTake → Bool) (o : LastTake) :
    (s.endTake v p o).clk = s.clk := by
  simp [State.endTake]

@[simp] theorem State.endVanSession_clk (s : State) (n : Node) : (s.endVanSession n).clk = s.clk := by
  simp [State.endVanSession]

@[simp] theorem State.retrySession_clk (s : State) (v : VanSession) (b : NoticeBody) : (s.retrySession v b).clk = s.clk := by
  simp [State.retrySession]

@[simp] theorem State.addLoad_clk (s : State) (b : Bike) (n : Node) (q : Bool) : (s.addLoad b n q).clk = s.clk := by
  unfold State.addLoad
  repeat' split
  all_goals simp

@[simp] theorem State.takeClaimAnswer_clk (s : State) (n : Serial) (o : ClaimOutcome) (g : Nat) :
    (s.takeClaimAnswer n o g).clk = s.clk := by
  unfold State.takeClaimAnswer
  split <;> simp

@[simp] theorem State.takeSessionAnswer_clk (s : State) (n : Node) (o : SessionOutcome) (a : Nat) :
    (s.takeSessionAnswer n o a).clk = s.clk := by
  unfold State.takeSessionAnswer
  repeat' split
  all_goals simp

@[simp] theorem State.takeSessionSummary_clk (s : State) (n : Node) (m : SummaryBody) :
    (s.takeSessionSummary n m).clk = s.clk := by
  unfold State.takeSessionSummary
  dsimp only
  split
  · simp [foldl_kept State.clk (fun (t : State) b => t.addLoad b n (t.du.quarantined b)) (fun t b => t.addLoad_clk b n _)]
  · rfl

@[simp] theorem State.takeVanTakeAnswer_clk (s : State) (n : Node) (r : Serial) (o : TakeOutcome) :
    (s.takeVanTakeAnswer n r o).clk = s.clk := by
  unfold State.takeVanTakeAnswer
  repeat' split
  all_goals simp

@[simp] theorem State.takeDone_clk (s : State) (n : Node) (r : Serial) (b : Option Bike) (q : Bool) :
    (s.takeDone n r b q).clk = s.clk := by
  unfold State.takeDone
  dsimp only
  repeat' split
  all_goals simp

/-! #### The street link -/

@[simp] theorem State.setBeaconTimer_clk (s : State) (n : Nat) : (s.setBeaconTimer n).clk = s.clk := rfl
@[simp] theorem State.setAccess_clk (s : State) (a : Access) : (s.setAccess a).clk = s.clk := rfl
@[simp] theorem State.setAssembly_clk (s : State) (a : Assembly) : (s.setAssembly a).clk = s.clk := rfl
@[simp] theorem State.setNeighbours_clk (s : State) (l : List Neighbour) : (s.setNeighbours l).clk = s.clk := rfl
@[simp] theorem State.transmit_clk (s : State) (e : QueueEntry) : (s.transmit e).clk = s.clk := rfl
@[simp] theorem State.updateNeighbour_clk (s : State) (n : Node) (f : Neighbour → Neighbour) :
    (s.updateNeighbour n f).clk = s.clk := rfl

@[simp] theorem State.abandonAccess_clk (s : State) (e : QueueEntry) : (s.abandonAccess e).clk = s.clk := by
  unfold State.abandonAccess
  dsimp only
  split <;> simp

@[simp] theorem State.findBusy_clk (s : State) : s.findBusy.clk = s.clk := by
  unfold State.findBusy
  dsimp only
  repeat' split
  all_goals simp

@[simp] theorem State.countDown_clk (s : State) (e : QueueEntry) (a : Access) (n : Nat) : (s.countDown e a n).clk = s.clk := by
  unfold State.countDown
  split <;> simp

@[simp] theorem State.slotEnds_clk (s : State) (e : QueueEntry) (a : Access) : (s.slotEnds e a).clk = s.clk := by
  unfold State.slotEnds
  repeat' split
  all_goals simp

@[simp] theorem State.countError_clk (s : State) : s.countError.clk = s.clk := by
  unfold State.countError
  dsimp only
  split <;> simp

@[simp] theorem State.checkError_clk (s : State) : s.checkError.clk = s.clk := by simp [State.checkError]
@[simp] theorem State.lengthError_clk (s : State) : s.lengthError.clk = s.clk := by simp [State.lengthError]
@[simp] theorem State.overrunError_clk (s : State) : s.overrunError.clk = s.clk := by simp [State.overrunError]
@[simp] theorem State.truncatedError_clk (s : State) : s.truncatedError.clk = s.clk := by simp [State.truncatedError]

@[simp] theorem State.hearSender_clk (s : State) (n : Node) : (s.hearSender n).clk = s.clk := by
  unfold State.hearSender
  repeat' split
  all_goals simp

@[simp] theorem State.suppress_clk (s : State) (i : Ident) : (s.suppress i).clk = s.clk := by
  unfold State.suppress
  repeat' split
  all_goals simp

@[simp] theorem State.relay_clk (s : State) (n : Notice) : (s.relay n).clk = s.clk := by
  unfold State.relay
  repeat' split
  all_goals simp

/-! #### Supply, store and kiosk link -/

@[simp] theorem State.supplyChanged_clk (s : State) : s.supplyChanged.clk = s.clk := by
  unfold State.supplyChanged
  dsimp only
  split <;> simp

@[simp] theorem State.supplyFault_clk (s : State) : s.supplyFault.clk = s.clk := by simp [State.supplyFault]

@[simp] theorem State.announceSupply_clk (s : State) : s.announceSupply.clk = s.clk := by
  unfold State.announceSupply
  dsimp only
  split <;> simp

@[simp] theorem State.cutOff_clk (s : State) : s.cutOff.clk = s.clk := rfl
@[simp] theorem State.degrade_clk (s : State) : s.degrade.clk = s.clk := by simp [State.degrade]
@[simp] theorem State.storeSlot_clk (s : State) (x : Slot) (c : SlotContent) : (s.storeSlot x c).clk = s.clk := rfl
@[simp] theorem State.setOptionWork_clk (s : State) (w : OptionWork) : (s.setOptionWork w).clk = s.clk := rfl
@[simp] theorem State.setOptionArea_clk (s : State) (l : List Byte) : (s.setOptionArea l).clk = s.clk := rfl
@[simp] theorem State.failedArea_clk (s : State) : s.failedArea.clk = s.clk := rfl

@[simp] theorem State.failedWrite_clk (s : State) (w : WriteInProgress) : (s.failedWrite w).clk = s.clk := by
  unfold State.failedWrite
  split <;> simp

@[simp] theorem State.writeCompleted_clk (s : State) (w : WriteInProgress) : (s.writeCompleted w).clk = s.clk := by
  simp [State.writeCompleted]

@[simp] theorem State.removeRecords_clk (s : State) (l : List SettlementRecord) : (s.removeRecords l).clk = s.clk := by
  unfold State.removeRecords
  simp [foldl_kept State.clk (fun (s : State) i => s.mark (.money i)) (fun _ _ => rfl)]

@[simp] theorem State.takeRecords_clk (s : State) (n : Nat) : (s.takeRecords n).clk = s.clk := by
  simp [State.takeRecords]

@[simp] theorem State.shiftOut_clk (s : State) (l : List Byte) : (s.shiftOut l).clk = s.clk := rfl
@[simp] theorem State.takeRequest_clk (s : State) : s.takeRequest.clk = s.clk := rfl
@[simp] theorem State.statusTaken_clk (s : State) : s.statusTaken.clk = s.clk := by simp [State.statusTaken]

@[simp] theorem State.takeFrame_clk (s : State) (c : Byte) (l : List Byte) (k : Byte) : (s.takeFrame c l k).clk = s.clk := by
  unfold State.takeFrame
  split <;> simp

@[simp] theorem State.sendEnds_clk (s : State) (c : Byte) (l : List Byte) (k : Byte) : (s.sendEnds c l k).clk = s.clk := by
  unfold State.sendEnds
  split <;> simp

@[simp] theorem State.sendCut_clk (s : State) : s.sendCut.clk = s.clk := by
  unfold State.sendCut
  split <;> simp

end Sys2Proof.Machine
end

section
/-!
PROOFS. The commands that leave the station clock as it was, one lemma for each.
-/
namespace Sys2Proof.Machine
open Sys2Proof

/-- A request that is served leaves the clock as it was where its effect does. -/
theorem State.serve_clk (s : State) (r : Request) (effect : State → State) (h : ∀ t, (effect t).clk = t.clk) :
    (s.serve r effect).clk = s.clk := by
  unfold State.serve
  split
  · split <;> simp [h]
  · rfl

/-- The command leaves the clock as it was, in every state. -/
def KeepsClk (i : Instr) : Prop := ∀ s t, exec i s = .next t → t.clk = s.clk

theorem KeepsClk.of_next {i : Instr} (f : State → State) (hf : ∀ s, exec i s = .next (f s)) (h : ∀ s, (f s).clk = s.clk) :
    KeepsClk i := by
  intro s t e
  rw [hf] at e
  cases e
  exact h s

/-- A request whose effect leaves the clock as it was leaves it as it was. -/
theorem KeepsClk.of_serve {i : Instr} (r : Request) (effect : State → State) (hf : ∀ s, exec i s = .next (s.serve r effect))
    (h : ∀ t, (effect t).clk = t.clk) : KeepsClk i :=
  .of_next _ hf fun s => s.serve_clk r effect h

namespace KeepsClk

theorem sendTransfer first frame clocked : KeepsClk (.sendTransfer first frame clocked) :=
  .of_next _ (fun _ => rfl) fun s => by
  repeat' split
  all_goals simp

theorem sendTransferCut shiftedIn : KeepsClk (.sendTransferCut shiftedIn) := .of_next _ (fun _ => rfl) fun s => by
  repeat' split
  all_goals simp

theorem getStatus : KeepsClk .getStatus := .of_serve _ _ (fun _ => rfl) (by simp)

theorem getCause : KeepsClk .getCause := .of_serve _ _ (fun _ => rfl) (by simp)

theorem setAttentionMask enables : KeepsClk (.setAttentionMask enables) :=
  .of_serve _ _ (fun _ => rfl) fun t => by split <;> simp

theorem takeRecords n : KeepsClk (.takeRecords n) := .of_serve _ _ (fun _ => rfl) fun t => by split <;> simp

theorem setSettlement trigger timeout : KeepsClk (.setSettlement trigger timeout) :=
  .of_serve _ _ (fun _ => rfl) fun t => by split <;> simp

theorem getTime : KeepsClk .getTime := .of_serve _ _ (fun _ => rfl) (by simp)

theorem loadBand band terms : KeepsClk (.loadBand band terms) := .of_serve _ _ (fun _ => rfl) fun t => by
  repeat' split
  all_goals simp

theorem loadClass cls fields : KeepsClk (.loadClass cls fields) := .of_serve _ _ (fun _ => rfl) fun t => by
  repeat' split
  all_goals simp

theorem readTariff : KeepsClk .readTariff := .of_serve _ _ (fun _ => rfl) (by simp)

theorem holdCard card reason : KeepsClk (.holdCard card reason) := .of_serve _ _ (fun _ => rfl) fun t => by
  repeat' split
  all_goals simp

theorem liftHold card reason : KeepsClk (.liftHold card reason) := .of_serve _ _ (fun _ => rfl) fun t => by
  repeat' split
  all_goals simp

theorem queryCard card validUntil : KeepsClk (.queryCard card validUntil) :=
  .of_serve _ _ (fun _ => rfl) fun t => by split <;> simp

theorem queryBike bike : KeepsClk (.queryBike bike) := .of_serve _ _ (fun _ => rfl) fun t => by split <;> simp

theorem reportFault subject number kind severity : KeepsClk (.reportFault subject number kind severity) :=
  .of_serve _ _ (fun _ => rfl) fun t => by
  repeat' split
  all_goals simp

theorem clearFault subject number : KeepsClk (.clearFault subject number) := .of_serve _ _ (fun _ => rfl) fun t => by
  repeat' split
  all_goals simp

theorem readFaults : KeepsClk .readFaults := .of_serve _ _ (fun _ => rfl) (by simp)

theorem dockDisable dock : KeepsClk (.dockDisable dock) := .of_serve _ _ (fun _ => rfl) fun t => by split <;> simp

theorem dockEnable dock : KeepsClk (.dockEnable dock) := .of_serve _ _ (fun _ => rfl) fun t => by split <;> simp

theorem readDocks : KeepsClk .readDocks := .of_serve _ _ (fun _ => rfl) (by simp)

theorem readNeighbours : KeepsClk .readNeighbours := .of_serve _ _ (fun _ => rfl) (by simp)

theorem claim station action amount lifetime : KeepsClk (.claim station action amount lifetime) :=
  .of_serve _ _ (fun _ => rfl) fun t => by
  repeat' split
  all_goals simp

theorem openSession station : KeepsClk (.openSession station) := .of_serve _ _ (fun _ => rfl) fun t => by
  repeat' split
  all_goals simp

theorem take dock : KeepsClk (.take dock) := .of_serve _ _ (fun _ => rfl) fun t => by
  repeat' split
  all_goals simp

theorem announceDelivery bikes : KeepsClk (.announceDelivery bikes) := .of_serve _ _ (fun _ => rfl) fun t => by
  repeat' split
  all_goals simp

theorem closeSession : KeepsClk .closeSession := .of_serve _ _ (fun _ => rfl) fun t => by
  repeat' split
  all_goals simp

theorem unload bike : KeepsClk (.unload bike) := .of_serve _ _ (fun _ => rfl) fun t => by
  repeat' split
  all_goals simp

theorem readLoad : KeepsClk .readLoad := .of_serve _ _ (fun _ => rfl) (by simp)

theorem readClaims : KeepsClk .readClaims := .of_serve _ _ (fun _ => rfl) (by simp)

theorem readOptions : KeepsClk .readOptions := .of_serve _ _ (fun _ => rfl) fun t => by split <;> simp

theorem writeOptions block : KeepsClk (.writeOptions block) := .of_serve _ _ (fun _ => rfl) fun t => by split <;> simp

theorem restart : KeepsClk .restart := .of_serve _ _ (fun _ => rfl) (by simp)

theorem optionAreaRead : KeepsClk .optionAreaRead := .of_next _ (fun _ => rfl) fun s => by split <;> simp

theorem optionWriteStart : KeepsClk .optionWriteStart := .of_next _ (fun _ => rfl) fun s => by
  repeat' split
  all_goals simp

theorem optionWriteEnd agrees : KeepsClk (.optionWriteEnd agrees) := .of_next _ (fun _ => rfl) fun s => by
  repeat' split
  all_goals simp

theorem brownOut : KeepsClk .brownOut := .of_next _ (fun _ => rfl) (by simp)

theorem resetAssert : KeepsClk .resetAssert := .of_next _ (fun _ => rfl) (by simp)

theorem listenTimerExpiry : KeepsClk .listenTimerExpiry := .of_next _ (fun _ => rfl) fun s => by split <;> simp

theorem batteryReading input : KeepsClk (.batteryReading input) := .of_next _ (fun _ => rfl) fun s => by
  dsimp only
  repeat' split
  all_goals simp

theorem carrierRise : KeepsClk .carrierRise := .of_next _ (fun _ => rfl) fun s => by
  repeat' split
  all_goals simp

theorem carrierFall gotByte : KeepsClk (.carrierFall gotByte) := .of_next _ (fun _ => rfl) fun s => by
  repeat' split
  all_goals simp

theorem frameCompleted frame : KeepsClk (.frameCompleted frame) := .of_next _ (fun _ => rfl) fun s => by
  repeat' split
  all_goals simp

theorem slotEnd : KeepsClk .slotEnd := .of_next _ (fun _ => rfl) fun s => by
  repeat' split
  all_goals simp

theorem transmissionEnd : KeepsClk .transmissionEnd := .of_next _ (fun _ => rfl) fun s => by split <;> simp

theorem relayDelayExpiry origin serial : KeepsClk (.relayDelayExpiry origin serial) := .of_next _ (fun _ => rfl) fun s => by
  dsimp only
  repeat' split
  all_goals simp

theorem ownQuietExpiry : KeepsClk .ownQuietExpiry := .of_next _ (fun _ => rfl) fun s => by
  repeat' split
  all_goals simp

theorem neighbourQuietExpiry node : KeepsClk (.neighbourQuietExpiry node) := .of_next _ (fun _ => rfl) fun s => by
  repeat' split
  all_goals simp

theorem neighbourAgeExpiry node : KeepsClk (.neighbourAgeExpiry node) := .of_next _ (fun _ => rfl) fun s => by
  repeat' split
  all_goals simp

theorem beaconTimerExpiry : KeepsClk .beaconTimerExpiry := .of_next _ (fun _ => rfl) fun s => by
  split
  · rfl
  · split
    · dsimp only
      split <;> simp
    · rfl

theorem poll : KeepsClk .poll := .of_next _ (fun _ => rfl) fun s => by split <;> simp

theorem pollAnswerTimeout : KeepsClk .pollAnswerTimeout := .of_next _ (fun _ => rfl) fun s => by split <;> simp

theorem heartbeat dock bike : KeepsClk (.heartbeat dock bike) := .of_next _ (fun _ => rfl) fun s =>
  s.takeAnswer_clk dock true _ fun t => by
    repeat' split
    all_goals simp

theorem card dock answer : KeepsClk (.card dock answer) := .of_next _ (fun _ => rfl) fun s => by
  split
  · exact s.takeAnswer_clk dock false _ fun t => t.tapCard_clk dock _
  · split <;> simp

theorem bikeOut dock : KeepsClk (.bikeOut dock) := .of_next _ (fun _ => rfl) fun s =>
  s.takeAnswer_clk dock false _ fun t => t.bikeLeaves_clk dock

theorem bikeIn dock bike : KeepsClk (.bikeIn dock bike) := .of_next _ (fun _ => rfl) fun s => by
  split
  · exact s.takeAnswer_clk dock false _ fun t => t.bikeArrives_clk dock bike
  · split <;> simp

theorem button dock : KeepsClk (.button dock) := .of_next _ (fun _ => rfl) fun s =>
  s.takeAnswer_clk dock false _ fun t => t.pressButton_clk dock

theorem lockFail dock : KeepsClk (.lockFail dock) := .of_next _ (fun _ => rfl) fun s =>
  s.takeAnswer_clk dock false _ fun t => by simp

theorem releaseTimeout dock : KeepsClk (.releaseTimeout dock) := .of_next _ (fun _ => rfl) fun s => by
  repeat' split
  all_goals simp

theorem returnWindowExpiry dock : KeepsClk (.returnWindowExpiry dock) := .of_next _ (fun _ => rfl) fun s => by
  repeat' split
  all_goals simp

theorem lampTransientEnd dock : KeepsClk (.lampTransientEnd dock) := .of_next _ (fun _ => rfl) fun s => by
  repeat' split
  all_goals simp

theorem postSilence dock : KeepsClk (.postSilence dock) := .of_next _ (fun _ => rfl) fun s => by split <;> simp

theorem pendingCloseRepeat bike endTime : KeepsClk (.pendingCloseRepeat bike endTime) :=
  .of_next _ (fun _ => rfl) fun s => by split <;> simp

theorem claimExpiry van serial : KeepsClk (.claimExpiry van serial) := .of_next _ (fun _ => rfl) fun s => by split <;> simp

theorem sessionIdleTimeout : KeepsClk .sessionIdleTimeout := .of_next _ (fun _ => rfl) fun s => by split <;> simp

theorem claimAnswerTimeout serial : KeepsClk (.claimAnswerTimeout serial) := .of_next _ (fun _ => rfl) fun s => by
  repeat' split
  all_goals simp

theorem vanClaimExpiry serial : KeepsClk (.vanClaimExpiry serial) := .of_next _ (fun _ => rfl) fun s => by
  dsimp only
  repeat' split
  all_goals simp

theorem sessionAnswerTimeout : KeepsClk .sessionAnswerTimeout := .of_next _ (fun _ => rfl) fun s => by
  repeat' split
  all_goals simp

theorem vanSessionIdleTimeout : KeepsClk .vanSessionIdleTimeout := .of_next _ (fun _ => rfl) fun s => by
  repeat' split
  all_goals simp

theorem takeAnswerTimeout request : KeepsClk (.takeAnswerTimeout request) := .of_next _ (fun _ => rfl) fun s => by
  repeat' split
  all_goals simp

theorem takeCompletionTimeout request : KeepsClk (.takeCompletionTimeout request) := .of_next _ (fun _ => rfl) fun s => by
  repeat' split
  all_goals simp

theorem settlementIdleTimeout : KeepsClk .settlementIdleTimeout := .of_next _ (fun _ => rfl) fun s => by
  repeat' split
  all_goals simp

theorem journalWriteStart : KeepsClk .journalWriteStart := .of_next _ (fun _ => rfl) fun s => by
  repeat' split
  all_goals simp

theorem journalWriteEnd agrees : KeepsClk (.journalWriteEnd agrees) := .of_next _ (fun _ => rfl) fun s => by
  repeat' split
  all_goals simp

theorem bodyLengthArrived length : KeepsClk (.bodyLengthArrived length) := .of_next _ (fun _ => rfl) fun s => by
  repeat' split
  all_goals simp
end KeepsClk
end Sys2Proof.Machine
end

section
/-!
PROOFS. The ranges of the clock's values (R1, R4, R5, R6, R10), and that every step keeps them.
-/
namespace Sys2Proof.Machine
open Sys2Proof

/-! ### The clock's ranges -/

/-- The values of the backup domain that have a range lie in it (R1, R4, R5, R6). -/
structure BackupDomain.InRange (d : BackupDomain) : Prop where
  time : d.time ≤ lastTime
  grade : d.grade ≤ 7
  sampleLow : -40 ≤ d.temperature
  sampleHigh : d.temperature ≤ 85
  trimLow : -200 ≤ d.trimA
  trimHigh : d.trimA ≤ 200
  trimK : d.trimK ≤ 63
  trimT0 : d.trimT0 ≤ 50
  driftLow : -10000000 < d.drift
  driftHigh : d.drift < 10000000

/-- The clock's values lie in their ranges: those of the backup domain and a slew's count (R10). -/
structure Clk.InRange (c : Clk) : Prop where
  dom : c.dom.InRange
  slew : ∀ w, c.slew = some w → 1 ≤ w.count ∧ w.count ≤ 29

theorem State.clockBounded_iff (s : State) : s.ClockBounded ↔ s.clk.InRange := by
  constructor
  · rintro ⟨h1, h2, h3, h4, h5, h6, h7, h8, h9, h10, h11⟩
    exact ⟨⟨h1, h2, h3, h4, h5, h6, h7, h8, h9, h10⟩, h11⟩
  · rintro ⟨⟨h1, h2, h3, h4, h5, h6, h7, h8, h9, h10⟩, h11⟩
    exact ⟨h1, h2, h3, h4, h5, h6, h7, h8, h9, h10, h11⟩

/-- The ranges speak of the backup domain and the slew alone. -/
theorem Clk.InRange.congr {c d : Clk} (h : c.InRange) (hdom : d.dom = c.dom) (hslew : d.slew = c.slew) : d.InRange :=
  ⟨hdom ▸ h.dom, hslew ▸ h.slew⟩

/-! #### Raw ticks -/

/-- With the trim and the sample in range, one raw tick's error is far below the threshold of the accumulator. -/
theorem BackupDomain.InRange.error_small {d : BackupDomain} (h : d.InRange) : -10000 < d.error ∧ d.error < 10000 := by
  have hT0 : (d.trimT0 : Int) ≤ 50 := by exact_mod_cast h.trimT0
  have hK : (d.trimK : Int) ≤ 63 := by exact_mod_cast h.trimK
  have low := h.sampleLow
  have high := h.sampleHigh
  obtain ⟨x, hx⟩ : ∃ x : Int, x = d.temperature - d.trimT0 := ⟨_, rfl⟩
  have hsq : 0 ≤ x * x ∧ x * x ≤ 8100 := ⟨mul_self_nonneg x, by nlinarith⟩
  have hprod : 0 ≤ x * x * d.trimK ∧ x * x * d.trimK ≤ 510300 := ⟨mul_nonneg hsq.1 (Int.natCast_nonneg _), by nlinarith⟩
  have := h.trimLow
  have := h.trimHigh
  unfold BackupDomain.error
  rw [← hx]
  omega

/-- The test of the accumulator brings it back below its threshold (R5). -/
theorem BackupDomain.InRange.drifted_small {d : BackupDomain} (h : d.InRange) :
    -10000000 < d.drifted.accumulator ∧ d.drifted.accumulator < 10000000 := by
  have := h.error_small
  have := h.driftLow
  have := h.driftHigh
  unfold BackupDomain.drifted
  dsimp only
  split
  · dsimp only; omega
  · split <;> dsimp only <;> omega

theorem Clk.slewAfter_count {c : Clk} (h : ∀ w, c.slew = some w → 1 ≤ w.count ∧ w.count ≤ 29) (w : Slew)
    (hw : c.slewAfter = some w) : 1 ≤ w.count ∧ w.count ≤ 29 := by
  unfold Clk.slewAfter at hw
  split at hw
  · obtain ⟨v, hv, hw⟩ := Option.bind_eq_some_iff.mp hw
    have := h v hv
    split at hw
    · cases hw
    · cases hw
      dsimp only
      omega
  · exact h w hw

theorem Clk.InRange.ticked {c : Clk} (h : c.InRange) (held mainPower : Bool) : (c.ticked held mainPower).InRange where
  dom := { h.dom with
    time := Nat.min_le_left _ _
    driftLow := h.dom.drifted_small.1
    driftHigh := h.dom.drifted_small.2 }
  slew := Clk.slewAfter_count h.slew

/-! #### Steps, adoption and requests on time -/

@[simp] theorem Clk.evaluated_dom (c : Clk) : c.evaluated.dom = c.dom := rfl
@[simp] theorem Clk.evaluated_slew (c : Clk) : c.evaluated.slew = c.slew := rfl
@[simp] theorem State.evaluateWindows_clk (s : State) : s.evaluateWindows.clk = s.clk.evaluated := rfl
@[simp] theorem State.emptySpend_clk (s : State) : s.emptySpend.clk = s.clk := rfl
@[simp] theorem State.zeroRing_clk (s : State) : s.zeroRing.clk = s.clk := by simp [State.zeroRing]

@[simp] theorem State.rotateRing_clk (s : State) : s.rotateRing.clk = s.clk := by
  unfold State.rotateRing
  split <;> simp

/-- A minute boundary taken evaluates the windows, and does nothing else to the clock (R12). -/
theorem State.takeBoundary_clk (s : State) (b : Time) : (s.takeBoundary b).clk = s.clk.evaluated := by
  unfold State.takeBoundary
  dsimp only
  repeat' split
  all_goals simp

theorem Clk.InRange.evaluated {c : Clk} (h : c.InRange) : c.evaluated.InRange := h.congr rfl rfl

/-- An accumulator set to 0 is within its range (R5). -/
theorem BackupDomain.InRange.driftless {d : BackupDomain} (h : d.InRange) : { d with drift := 0, withhold := false }.InRange where
  __ := h
  driftLow := by norm_num
  driftHigh := by norm_num

theorem Clk.InRange.anchored {c : Clk} (h : c.InRange) (grade : Nat) (hg : grade ≤ 7) : (c.anchored grade).InRange :=
  ⟨{ h.dom.driftless with grade := hg }, nofun⟩

/-- The clock after a step (R11): the drift and slew are cleared, the time set, the step recorded and the windows evaluated. -/
theorem State.stepTo_clk (s : State) (v : Time) (source : Option Node) : (s.stepTo v source).clk = Clk.evaluated { s.clk with
    dom := { s.clk.dom with time := v, drift := 0, withhold := false },
    slew := none, slewDue := false,
    lastStep := some { source := source, amount := (v : Int) - (s.now : Int) } } := by
  unfold State.stepTo
  dsimp only
  split <;> simp [State.clearTrim]

theorem State.stepTo_inRange {s : State} (h : s.clk.InRange) {v : Time} (hv : v ≤ lastTime) (source : Option Node) :
    (s.stepTo v source).clk.InRange := by
  rw [State.stepTo_clk]
  exact Clk.InRange.evaluated ⟨{ h.dom.driftless with time := hv }, nofun⟩

theorem State.anchor_inRange {s : State} (h : s.clk.InRange) {g : Nat} (hg : g ≤ 7) : (s.anchor g).clk.InRange :=
  ⟨{ h.dom with grade := hg }, h.slew⟩

theorem State.setTime_inRange {s : State} (h : s.clk.InRange) {v : Time} (hv : v ≤ lastTime) : (s.setTime v).clk.InRange := by
  have anchored : ((s.anchor 0).clearTrim).clk.InRange := h.anchored 0 (by decide)
  unfold State.setTime
  dsimp only
  split
  · exact anchored
  · exact State.stepTo_inRange anchored hv none

theorem slewOf_count {d : Int} {w : Slew} (h : slewOf d = some w) : w.count = d.natAbs ∧ 1 ≤ w.count := by
  unfold slewOf at h
  split at h
  · cases h
    dsimp only
    omega
  · split at h
    · cases h
      dsimp only
      omega
    · cases h

theorem State.takeBeaconTime_inRange {s : State} (h : s.clk.InRange) (sender : Node) {time : Time} (ht : time ≤ lastTime)
    (grade : Nat) : (s.takeBeaconTime sender time grade).clk.InRange := by
  unfold State.takeBeaconTime
  dsimp only
  split
  · rename_i better
    have anchored : (s.anchor (grade + 1)).clk.InRange := State.anchor_inRange h (by have := h.dom.grade; omega)
    split
    · simpa using State.stepTo_inRange anchored ht (some sender)
    · split
      · exact anchored
      · refine ⟨anchored.dom, fun w hw => ?_⟩
        have := slewOf_count hw
        omega
  · exact h

/-! #### Starts -/

theorem imageOf_trim (b : List Byte) :
    -200 ≤ (imageOf b).trimA ∧ (imageOf b).trimA ≤ 200 ∧ (imageOf b).trimK ≤ 63 ∧ (imageOf b).trimT0 ≤ 50 := by
  simp only [imageOf, clampInt, clampNat]
  omega

/-- The trim constants of the image lie in their ranges, whatever the option area holds (R175, R176). -/
theorem formImage_trim (area : List Byte) : -200 ≤ (formImage area).1.trimA ∧ (formImage area).1.trimA ≤ 200 ∧
    (formImage area).1.trimK ≤ 63 ∧ (formImage area).1.trimT0 ≤ 50 := by
  unfold formImage
  split
  · exact imageOf_trim _
  · decide
  · decide

theorem clampTemperature_range (t : Int) : -40 ≤ clampTemperature t ∧ clampTemperature t ≤ 85 := by
  simp only [clampTemperature, clampInt]
  omega

theorem BackupDomain.afresh_inRange : BackupDomain.afresh.InRange := by
  constructor <;> decide

theorem BackupDomain.InRange.atStart {d : BackupDomain} (h : d.InRange) (cause : ResetCause) : (d.atStart cause).InRange := by
  unfold BackupDomain.atStart
  split
  · exact BackupDomain.afresh_inRange
  · exact h

theorem State.beginStart_inRange {s : State} (h : s.clk.InRange) (kind : ResetCause) (sense : Sense) :
    (s.beginStart kind sense).clk.InRange := by
  obtain ⟨aLow, aHigh, k, t0⟩ := formImage_trim s.jnl.optionArea
  obtain ⟨low, high⟩ := clampTemperature_range sense.temperature
  exact ⟨{ h.dom.atStart _ with
    sampleLow := low, sampleHigh := high, trimLow := aLow, trimHigh := aHigh, trimK := k, trimT0 := t0 }, nofun⟩

/-! #### Replay -/

@[simp] theorem State.replayCounters_clk (s : State) : s.replayCounters.clk = s.clk := rfl

@[simp] theorem State.replayHolds_clk (s : State) : s.replayHolds.clk = s.clk := by
  obtain ⟨j, h, -⟩ := s.replayHolds_spec
  rw [h]

@[simp] theorem State.replayLists_clk (s : State) : s.replayLists.clk = s.clk := by simp [State.replayLists]

@[simp] theorem State.replayOwned_clk (s : State) : s.replayOwned.clk = s.clk := by
  have marks (l : List OwnedHire) (t : State) : (l.foldl (fun s o => s.mark (.owned o.slot)) t).clk = t.clk :=
    foldl_kept State.clk (fun s o => s.mark (.owned o.slot)) (fun _ _ => rfl) l t
  unfold State.replayOwned
  dsimp only
  split <;> simp [marks]

/-- REPLAY takes the windows of the clock from the store, and leaves the backup domain and the slew (R158). -/
theorem State.replayTariff_clk (s : State) : s.replayTariff.clk.dom = s.clk.dom ∧ s.replayTariff.clk.slew = s.clk.slew := by
  unfold State.replayTariff
  dsimp only
  split <;> simp

theorem State.replayStore_clk (s : State) : s.replayStore.clk.dom = s.clk.dom ∧ s.replayStore.clk.slew = s.clk.slew := by
  have tariff := s.replayCounters.replayTariff_clk
  unfold State.replayStore
  dsimp only
  repeat' split
  all_goals simpa using tariff

@[simp] theorem State.enterListen_clk (s : State) : s.enterListen.clk = s.clk.evaluated := by
  unfold State.enterListen
  dsimp only
  split <;> simp

/-! #### Notices -/

/-- A notice that passes the tests of a frame has every field in range (R27). -/
theorem testFrame_inRange {node : Node} {frame : List Byte} {n : Notice} (h : testFrame node frame = .valid n) :
    n.inRange = true := by
  unfold testFrame at h
  dsimp only at h
  split at h
  · cases h
  · split at h
    · cases h
    · split at h
      · cases h
      · split at h
        · rename_i ok
          cases h
          exact (Bool.and_eq_true _ _ ▸ ok).1
        · cases h

/-- A beacon within its ranges tells a station time. -/
theorem Notice.beacon_time {n : Notice} (h : n.inRange = true) {b : BeaconBody} (hb : n.body = .beacon b) : b.time ≤ lastTime := by
  simp only [Notice.inRange, hb, NoticeBody.inRange, timeInRange, Bool.and_eq_true, decide_eq_true_eq] at h
  obtain ⟨-, ⟨⟨⟨⟨⟨time, -⟩, -⟩, -⟩, -⟩, -⟩, -⟩ := h
  exact time

/-- Of all the notices a block is handed, the beacon alone reaches the clock (R8). -/
theorem State.deliver_clk (s : State) (n : Notice) (h : ∀ b, n.body ≠ .beacon b) : (s.deliver n).clk = s.clk := by
  unfold State.deliver
  cases hb : n.body with
  | beacon b => exact absurd hb (h b)
  | claimAnswer | sessionAnswer | takeAnswer | takeDone | sessionSummary => dsimp only; split <;> simp
  | _ => simp

theorem State.deliver_inRange {s : State} (h : s.clk.InRange) {n : Notice} (hn : n.inRange = true) :
    (s.deliver n).clk.InRange := by
  by_cases hb : ∃ b, n.body = .beacon b
  · obtain ⟨b, hb⟩ := hb
    have delivered : s.deliver n = s.hearBeacon n.sender b := by
      unfold State.deliver
      rw [hb]
    rw [delivered]
    exact State.takeBeaconTime_inRange (by simpa using h) _ (Notice.beacon_time hn hb) _
  · rw [s.deliver_clk n fun b e => hb ⟨b, e⟩]
    exact h

theorem State.hearFlooded_inRange {s : State} (h : s.clk.InRange) {n : Notice} (hn : n.inRange = true) :
    (s.hearFlooded n).clk.InRange := by
  have delivered (seen : List Ident) : ((s.setSlc { s.slc with seen := seen }).deliver n).clk.InRange :=
    State.deliver_inRange (by simpa using h) hn
  unfold State.hearFlooded
  dsimp only
  split
  · simpa using h
  · split
    · exact h
    · split
      · simpa using delivered _
      · simpa using delivered _

theorem State.hear_inRange {s : State} (h : s.clk.InRange) {n : Notice} (hn : n.inRange = true) : (s.hear n).clk.InRange := by
  have heard : (s.hearSender n.sender).clk.InRange := by simpa using h
  unfold State.hear
  dsimp only
  split
  · exact State.hearFlooded_inRange heard hn
  · exact State.deliver_inRange heard hn
  · split
    · exact State.deliver_inRange heard hn
    · exact heard

/-! #### Commands -/

/-- The command keeps the clock's values in their ranges, in every state. -/
def KeepsInRange (i : Instr) : Prop := ∀ s t : State, s.clk.InRange → exec i s = .next t → t.clk.InRange

theorem KeepsClk.inRange {i : Instr} (h : KeepsClk i) : KeepsInRange i := fun s t hs e => by
  rw [h s t e]
  exact hs

theorem KeepsInRange.of_next {i : Instr} (f : State → State) (hf : ∀ s, exec i s = .next (f s))
    (h : ∀ s, s.clk.InRange → (f s).clk.InRange) : KeepsInRange i := by
  intro s t hs e
  rw [hf] at e
  cases e
  exact h s hs

/-- A request whose effect keeps the ranges keeps them. -/
theorem KeepsInRange.of_serve {i : Instr} (r : Request) (effect : State → State) (hf : ∀ s, exec i s = .next (s.serve r effect))
    (h : ∀ s, s.clk.InRange → (effect s).clk.InRange) : KeepsInRange i :=
  .of_next _ hf fun s hs => by
    unfold State.serve
    split
    · split
      · simpa using hs
      · exact h s hs
    · exact hs

namespace KeepsInRange

theorem fetchTransfer shiftedIn sense : KeepsInRange (.fetchTransfer shiftedIn sense) := .of_next _ (fun _ => rfl) fun s hs => by
  split
  · exact hs
  · split
    · simp only [State.shiftOut_clk]
      unfold State.fetchEnds
      split
      · exact State.beginStart_inRange hs _ _
      · exact hs
    · exact hs
    · exact hs
    · exact hs

theorem restartAnswerTimeout sense : KeepsInRange (.restartAnswerTimeout sense) := .of_next _ (fun _ => rfl) fun s hs => by
  split
  · exact State.beginStart_inRange (by simpa using hs) _ _
  · exact hs

theorem setTime t : KeepsInRange (.setTime t) := .of_serve _ _ (fun _ => rfl) fun s hs => by
  split
  · simpa using State.setTime_inRange hs (secondsOf_le t ‹_›)
  · simpa using hs

theorem loadWindow index fields : KeepsInRange (.loadWindow index fields) := .of_serve _ _ (fun _ => rfl) fun s hs => by
  split
  · split
    · rename_i w _ h
      have put : Clk.InRange { s.clk with windows := s.clk.windows.set index w h } := hs.congr rfl rfl
      simpa using put.evaluated
    · simpa using hs
  · simpa using hs

theorem powerHoldEnd hold : KeepsInRange (.powerHoldEnd hold) := .of_next _ (fun _ => rfl) fun s hs => by
  split
  · exact hs
  · have powered (t : State) (ht : t.clk = { s.clk with dom := { s.clk.dom with powered := true } }) : t.clk.InRange :=
      ht ▸ ⟨{ hs.dom with }, hs.slew⟩
    dsimp only
    split
    · exact powered _ rfl
    · exact State.beginStart_inRange (powered _ rfl) _ _

theorem resetRelease sense : KeepsInRange (.resetRelease sense) := .of_next _ (fun _ => rfl) fun s hs => by
  split
  · dsimp only
    split
    · exact hs
    · exact State.beginStart_inRange (by simpa using hs) _ _
  · exact hs

theorem replayComplete : KeepsInRange .replayComplete := .of_next _ (fun _ => rfl) fun s hs => by
  split
  · obtain ⟨dom, slew⟩ := s.replayStore_clk
    rw [State.enterListen_clk]
    exact (hs.congr dom slew).evaluated
  · exact hs

theorem rawTick : KeepsInRange .rawTick := .of_next _ (fun _ => rfl) fun s hs => by
  split
  · exact hs.ticked _ _
  · exact hs

theorem gradeRise : KeepsInRange .gradeRise := .of_next _ (fun _ => rfl) fun s hs => by
  split
  · rename_i due
    exact ⟨{ hs.dom with grade := due.2.1 }, hs.slew⟩
  · exact hs

theorem temperatureSample reading : KeepsInRange (.temperatureSample reading) := .of_next _ (fun _ => rfl) fun s hs => by
  split
  · obtain ⟨low, high⟩ := clampTemperature_range reading
    exact ⟨{ hs.dom with sampleLow := low, sampleHigh := high }, hs.slew⟩
  · exact hs

theorem minuteBoundary : KeepsInRange .minuteBoundary := .of_next _ (fun _ => rfl) fun s hs => by
  split
  · exact hs
  · split
    · exact hs
    · rw [State.takeBoundary_clk]
      exact Clk.InRange.evaluated (hs.congr rfl rfl)

theorem frameProcessed : KeepsInRange .frameProcessed := .of_next _ (fun _ => rfl) fun s hs => by
  split
  · exact hs
  · split
    · dsimp only
      split
      · simpa using hs
      · simpa using hs
      · exact State.hear_inRange (by simpa using hs) (testFrame_inRange ‹_›)
    · exact hs

theorem backupDomainPowerLost : KeepsInRange .backupDomainPowerLost := .of_next _ (fun _ => rfl) fun s hs => by
  split
  · exact ⟨{ hs.dom with }, hs.slew⟩
  · exact hs

end KeepsInRange

/-- Every command keeps the clock's values in their ranges. -/
theorem exec_keepsInRange : ∀ i : Instr, KeepsInRange i
  | .sendTransfer .. => (KeepsClk.sendTransfer _ _ _).inRange
  | .sendTransferCut .. => (KeepsClk.sendTransferCut _).inRange
  | .fetchTransfer .. => KeepsInRange.fetchTransfer _ _
  | .restartAnswerTimeout .. => KeepsInRange.restartAnswerTimeout _
  | .getStatus => KeepsClk.getStatus.inRange
  | .getCause => KeepsClk.getCause.inRange
  | .setAttentionMask .. => (KeepsClk.setAttentionMask _).inRange
  | .takeRecords .. => (KeepsClk.takeRecords _).inRange
  | .setSettlement .. => (KeepsClk.setSettlement _ _).inRange
  | .setTime .. => KeepsInRange.setTime _
  | .getTime => KeepsClk.getTime.inRange
  | .loadBand .. => (KeepsClk.loadBand _ _).inRange
  | .loadClass .. => (KeepsClk.loadClass _ _).inRange
  | .loadWindow .. => KeepsInRange.loadWindow _ _
  | .readTariff => KeepsClk.readTariff.inRange
  | .holdCard .. => (KeepsClk.holdCard _ _).inRange
  | .liftHold .. => (KeepsClk.liftHold _ _).inRange
  | .queryCard .. => (KeepsClk.queryCard _ _).inRange
  | .queryBike .. => (KeepsClk.queryBike _).inRange
  | .reportFault .. => (KeepsClk.reportFault _ _ _ _).inRange
  | .clearFault .. => (KeepsClk.clearFault _ _).inRange
  | .readFaults => KeepsClk.readFaults.inRange
  | .dockDisable .. => (KeepsClk.dockDisable _).inRange
  | .dockEnable .. => (KeepsClk.dockEnable _).inRange
  | .readDocks => KeepsClk.readDocks.inRange
  | .readNeighbours => KeepsClk.readNeighbours.inRange
  | .claim .. => (KeepsClk.claim _ _ _ _).inRange
  | .openSession .. => (KeepsClk.openSession _).inRange
  | .take .. => (KeepsClk.take _).inRange
  | .announceDelivery .. => (KeepsClk.announceDelivery _).inRange
  | .closeSession => KeepsClk.closeSession.inRange
  | .unload .. => (KeepsClk.unload _).inRange
  | .readLoad => KeepsClk.readLoad.inRange
  | .readClaims => KeepsClk.readClaims.inRange
  | .readOptions => KeepsClk.readOptions.inRange
  | .writeOptions .. => (KeepsClk.writeOptions _).inRange
  | .restart => KeepsClk.restart.inRange
  | .optionAreaRead => KeepsClk.optionAreaRead.inRange
  | .optionWriteStart => KeepsClk.optionWriteStart.inRange
  | .optionWriteEnd .. => (KeepsClk.optionWriteEnd _).inRange
  | .brownOut => KeepsClk.brownOut.inRange
  | .powerHoldEnd .. => KeepsInRange.powerHoldEnd _
  | .resetAssert => KeepsClk.resetAssert.inRange
  | .resetRelease .. => KeepsInRange.resetRelease _
  | .replayComplete => KeepsInRange.replayComplete
  | .listenTimerExpiry => KeepsClk.listenTimerExpiry.inRange
  | .batteryReading .. => (KeepsClk.batteryReading _).inRange
  | .rawTick => KeepsInRange.rawTick
  | .gradeRise => KeepsInRange.gradeRise
  | .temperatureSample .. => KeepsInRange.temperatureSample _
  | .minuteBoundary => KeepsInRange.minuteBoundary
  | .carrierRise => KeepsClk.carrierRise.inRange
  | .carrierFall .. => (KeepsClk.carrierFall _).inRange
  | .frameCompleted .. => (KeepsClk.frameCompleted _).inRange
  | .frameProcessed => KeepsInRange.frameProcessed
  | .slotEnd => KeepsClk.slotEnd.inRange
  | .transmissionEnd => KeepsClk.transmissionEnd.inRange
  | .relayDelayExpiry .. => (KeepsClk.relayDelayExpiry _ _).inRange
  | .ownQuietExpiry => KeepsClk.ownQuietExpiry.inRange
  | .neighbourQuietExpiry .. => (KeepsClk.neighbourQuietExpiry _).inRange
  | .neighbourAgeExpiry .. => (KeepsClk.neighbourAgeExpiry _).inRange
  | .beaconTimerExpiry => KeepsClk.beaconTimerExpiry.inRange
  | .poll => KeepsClk.poll.inRange
  | .pollAnswerTimeout => KeepsClk.pollAnswerTimeout.inRange
  | .heartbeat .. => (KeepsClk.heartbeat _ _).inRange
  | .card .. => (KeepsClk.card _ _).inRange
  | .bikeOut .. => (KeepsClk.bikeOut _).inRange
  | .bikeIn .. => (KeepsClk.bikeIn _ _).inRange
  | .button .. => (KeepsClk.button _).inRange
  | .lockFail .. => (KeepsClk.lockFail _).inRange
  | .releaseTimeout .. => (KeepsClk.releaseTimeout _).inRange
  | .returnWindowExpiry .. => (KeepsClk.returnWindowExpiry _).inRange
  | .lampTransientEnd .. => (KeepsClk.lampTransientEnd _).inRange
  | .postSilence .. => (KeepsClk.postSilence _).inRange
  | .pendingCloseRepeat .. => (KeepsClk.pendingCloseRepeat _ _).inRange
  | .claimExpiry .. => (KeepsClk.claimExpiry _ _).inRange
  | .sessionIdleTimeout => KeepsClk.sessionIdleTimeout.inRange
  | .claimAnswerTimeout .. => (KeepsClk.claimAnswerTimeout _).inRange
  | .vanClaimExpiry .. => (KeepsClk.vanClaimExpiry _).inRange
  | .sessionAnswerTimeout => KeepsClk.sessionAnswerTimeout.inRange
  | .vanSessionIdleTimeout => KeepsClk.vanSessionIdleTimeout.inRange
  | .takeAnswerTimeout .. => (KeepsClk.takeAnswerTimeout _).inRange
  | .takeCompletionTimeout .. => (KeepsClk.takeCompletionTimeout _).inRange
  | .settlementIdleTimeout => KeepsClk.settlementIdleTimeout.inRange
  | .journalWriteStart => KeepsClk.journalWriteStart.inRange
  | .journalWriteEnd .. => (KeepsClk.journalWriteEnd _).inRange
  | .bodyLengthArrived .. => (KeepsClk.bodyLengthArrived _).inRange
  | .backupDomainPowerLost => KeepsInRange.backupDomainPowerLost

/-! #### Steps of the part -/

/-- What a step is: an idle millisecond on an empty queue, or the command at its front taken on the state whose queue is the rest. -/
theorem step_cases {s t : State} (h : step s = .next t) :
    (s.pending = [] ∧ t = s.setTimebase (s.timebase + 1)) ∨
    ∃ c rest, s.pending = c :: rest ∧ exec c (s.setPending rest) = .next t := by
  unfold step at h
  split at h
  · rename_i empty
    cases h
    exact .inl ⟨empty, rfl⟩
  · rename_i c rest front
    exact .inr ⟨c, rest, front, h⟩

/-- Settles O54, command by command: most leave the clock as it was, and the thirteen that set it keep every value in its range. -/
theorem stepsKeepTheClockInRange : Obligations.StepsKeepTheClockInRange := by
  intro s t hs h
  rw [State.clockBounded_iff] at *
  obtain ⟨-, rfl⟩ | ⟨c, rest, -, taken⟩ := step_cases h
  · exact hs
  · exact exec_keepsInRange c (s.setPending rest) t hs taken

end Sys2Proof.Machine
end

section
/-!
PROOFS. The raw tick (R2, R4, R5, R6, R10, R12): what one tick does to the clock and to the boundaries passed.
-/
namespace Sys2Proof.Machine
open Sys2Proof

/-! ### Boundaries passed -/

theorem passes_iff {n : Nat} (hn : 0 < n) (t u : Nat) : passes n t u = true ↔ ∃ v, t < v ∧ v ≤ u ∧ v % n = 0 := by
  simp only [passes, decide_eq_true_eq]
  constructor
  · intro h
    refine ⟨u / n * n, ?_, Nat.div_mul_le_self u n, Nat.mul_mod_left _ _⟩
    have := Nat.lt_div_mul_add hn (a := t)
    have : (t / n + 1) * n ≤ u / n * n := Nat.mul_le_mul_right n h
    rw [Nat.add_mul, Nat.one_mul] at this
    exact Nat.lt_of_lt_of_le ‹t < t / n * n + n› this
  · rintro ⟨v, low, high, whole⟩
    have : v / n * n = v := Nat.div_mul_cancel (Nat.dvd_of_mod_eq_zero whole)
    have : t / n < v / n := Nat.div_lt_of_lt_mul (by rw [Nat.mul_comm, this]; exact low)
    exact Nat.lt_of_lt_of_le this (Nat.div_le_div_right high)

theorem passes_eq_false {n : Nat} (hn : 0 < n) {t u : Nat} (h : ∀ v, t < v → v ≤ u → v % n ≠ 0) : passes n t u = false := by
  rw [← Bool.not_eq_true, passes_iff hn]
  rintro ⟨v, low, high, whole⟩
  exact h v low high whole

/-- Of less than a minute only the last whole minute can be the boundary passed. -/
theorem minute_passed {t u v : Nat} (near : u < t + 60) (low : t < v) (high : v ≤ u) (whole : v % 60 = 0) : u / 60 * 60 = v := by
  omega

/-! ### The error and the accumulator (R5) -/

/-- The error divides a number that is never negative, so rounding towards 0 and rounding down agree. -/
theorem BackupDomain.error_eq (d : BackupDomain) : d.error =
    d.trimA - ((d.temperature - d.trimT0) * (d.temperature - d.trimT0) * d.trimK).tdiv 100 := by
  have nonneg : 0 ≤ (d.temperature - d.trimT0) * (d.temperature - d.trimT0) * (d.trimK : Int) :=
    mul_nonneg (mul_self_nonneg _) (Int.natCast_nonneg _)
  rw [Int.tdiv_eq_ediv_of_nonneg nonneg]
  rfl

theorem BackupDomain.drifted_withhold {d : BackupDomain} (h : 10000000 ≤ d.drift + d.error) :
    d.drifted = { accumulator := d.drift + d.error - 10000000, withhold := true, extra := false } := by
  simp only [BackupDomain.drifted, if_pos h]

theorem BackupDomain.drifted_extra {d : BackupDomain} (h : d.drift + d.error ≤ -10000000) :
    d.drifted = { accumulator := d.drift + d.error + 10000000, withhold := false, extra := true } := by
  simp only [BackupDomain.drifted]
  rw [if_neg (by omega), if_pos h]

theorem BackupDomain.drifted_plain {d : BackupDomain} (low : -10000000 < d.drift + d.error) (high : d.drift + d.error < 10000000) :
    d.drifted = { accumulator := d.drift + d.error, withhold := false, extra := false } := by
  simp only [BackupDomain.drifted]
  rw [if_neg (by omega), if_neg (by omega)]

theorem BackupDomain.drifted_extra_iff (d : BackupDomain) : d.drifted.extra = decide (d.drift + d.error ≤ -10000000) := by
  by_cases low : d.drift + d.error ≤ -10000000
  · simp [drifted_extra low, low]
  · by_cases high : 10000000 ≤ d.drift + d.error
    · simp [drifted_withhold high, low]
    · simp [drifted_plain (not_le.mp low) (not_le.mp high), low]

/-! ### The advance (R2) -/

theorem Clk.advance_carried {c : Clk} (h : c.carries = true) : c.advance = 0 := by simp [Clk.advance, h]

/-- Of the four things that change the base second, two withholds at once are set apart. -/
theorem counted_advance : ∀ extra insert drift slew : Bool, (drift && slew) = false →
    ((1 + extra.toNat + insert.toNat - (drift.toNat + slew.toNat) : Nat) : Int) =
      1 + (if extra then 1 else 0) - (if drift then 1 else 0) + (if insert then 1 else 0) - (if slew then 1 else 0) := by
  decide

/-- Where two withholds do not fall together, the advance is the base second with what is counted and less what is withheld. -/
theorem Clk.advance_eq {c : Clk} (h : c.carries = false) : (c.advance : Int) =
    1 + (if c.dom.drifted.extra then 1 else 0) - (if c.dom.withhold then 1 else 0) +
      (if c.correctionDue .insert then 1 else 0) - (if c.correctionDue .withhold then 1 else 0) := by
  unfold Clk.advance
  rw [h]
  exact counted_advance _ _ _ _ h

theorem Clk.advance_le (c : Clk) : c.advance ≤ 3 := by
  unfold Clk.advance
  have := Bool.toNat_le c.dom.drifted.extra
  have := Bool.toNat_le (c.correctionDue .insert)
  split <;> omega

/-! ### What a raw tick does to the clock -/

theorem Clk.ticked_time_carried {c : Clk} (h : c.carries = true) (ht : c.dom.time ≤ lastTime) (held mainPower : Bool) :
    (c.ticked held mainPower).dom.time = c.dom.time := by
  show min lastTime (c.dom.time + c.advance) = c.dom.time
  rw [Clk.advance_carried h]
  exact Nat.min_eq_right ht

theorem Clk.ticked_time {c : Clk} (h : c.carries = false) (held mainPower : Bool) :
    ((c.ticked held mainPower).dom.time : Int) = min (lastTime : Int) (c.dom.time + 1 +
      (if c.dom.drift + c.dom.error ≤ -10000000 then 1 else 0) - (if c.dom.withhold then 1 else 0) +
      (if c.correctionDue .insert then 1 else 0) - (if c.correctionDue .withhold then 1 else 0)) := by
  have advance := Clk.advance_eq h
  simp only [BackupDomain.drifted_extra_iff, decide_eq_true_eq] at advance
  show ((min lastTime (c.dom.time + c.advance) : Nat) : Int) = _
  push_cast
  rw [advance]
  congr 1
  ring

theorem Clk.ticked_near (c : Clk) (held mainPower : Bool) : (c.ticked held mainPower).dom.time < c.dom.time + 60 := by
  have small := c.advance_le
  have : (c.ticked held mainPower).dom.time ≤ c.dom.time + c.advance := Nat.min_le_right _ _
  exact Nat.lt_of_le_of_lt this (Nat.add_lt_add_left (by omega) _)

theorem Clk.slewAfter_kept {c : Clk} (h : c.slewDue = false ∨ c.carries = true) : c.slewAfter = c.slew := by
  unfold Clk.slewAfter
  rcases h with h | h <;> simp [h]

theorem Clk.slewAfter_applied {c : Clk} (due : c.slewDue = true) (h : c.carries = false) {w : Slew} (hw : c.slew = some w) :
    c.slewAfter = if w.count ≤ 1 then none else some { w with count := w.count - 1 } := by
  simp [Clk.slewAfter, due, h, hw]

theorem Clk.ticked_slewDue (c : Clk) (held mainPower : Bool) : (c.ticked held mainPower).slewDue = true ↔
    (c.ticked held mainPower).slew ≠ none ∧
      (c.carries = true ∨ ∃ u, c.dom.time < u ∧ u ≤ (c.ticked held mainPower).dom.time ∧ u % 10 = 0) := by
  rw [← passes_iff (by decide), ← Bool.or_eq_true, ← Option.isSome_iff_ne_none, ← Bool.and_eq_true]
  rfl

theorem Clk.ticked_boundary (c : Clk) (mainPower : Bool) {u : Nat} (low : c.dom.time < u)
    (high : u ≤ (c.ticked false mainPower).dom.time) (whole : u % 60 = 0) :
    (c.ticked false mainPower).boundaries = c.boundaries ++ [u] := by
  have passed : passes 60 c.dom.time (c.ticked false mainPower).dom.time = true :=
    (passes_iff (by decide) _ _).mpr ⟨u, low, high, whole⟩
  have minute := minute_passed (c.ticked_near false mainPower) low high whole
  rw [← minute]
  show (if (passes 60 c.dom.time (c.ticked false mainPower).dom.time && !false) = true then _ else _) = _
  rw [passed]
  rfl

theorem Clk.ticked_no_boundary (c : Clk) (held mainPower : Bool)
    (h : (∀ u, c.dom.time < u → u ≤ (c.ticked held mainPower).dom.time → u % 60 ≠ 0) ∨ held = true) :
    (c.ticked held mainPower).boundaries = c.boundaries := by
  have stays : (passes 60 c.dom.time (c.ticked held mainPower).dom.time && !held) = false := by
    rcases h with h | h
    · rw [passes_eq_false (by decide) h, Bool.false_and]
    · rw [h, Bool.not_true, Bool.and_false]
  show (if (passes 60 c.dom.time (c.ticked held mainPower).dom.time && !held) = true then _ else _) = _
  rw [stays]
  rfl

/-- A raw tick with power is the clock ticked, and without it nothing (R2, R3). -/
theorem exec_rawTick (s : State) : exec .rawTick s =
    .next (if s.clk.dom.powered then { s with clk := s.clk.ticked s.inReset s.sup.powerHold.isNone } else s) := rfl

/-- Settles O9: the clock after the tick is `Clk.ticked`, and the lemmas above say each of its fields. -/
theorem rawTickAdvancesTheClock : Obligations.RawTickAdvancesTheClock := by
  intro s inRange
  rw [exec_rawTick]
  refine ⟨fun off => by rw [off]; rfl, fun powered => ?_⟩
  rw [if_pos powered]
  dsimp only
  rw [← BackupDomain.error_eq]
  refine ⟨s.clk.ticked s.inReset s.sup.powerHold.isNone, rfl, rfl, fun h => Clk.ticked_time_carried h inRange _ _,
    fun h => Clk.ticked_time h _ _, fun h => ?_, fun h => ?_, fun low high => ?_, rfl, ?_, fun h => Clk.slewAfter_kept h,
    fun due h w hw => Clk.slewAfter_applied due h hw, Clk.ticked_slewDue _ _ _, fun u low high whole awake => ?_,
    fun h => Clk.ticked_no_boundary _ _ _ h⟩
  · simp [Clk.ticked, BackupDomain.drifted_withhold h]
  · simp [Clk.ticked, BackupDomain.drifted_extra h]
  · simp [Clk.ticked, BackupDomain.drifted_plain low high]
  · cases h : s.sup.powerHold <;> rfl
  · rw [awake] at high ⊢
    exact Clk.ticked_boundary _ _ low high whole

end Sys2Proof.Machine
end

section
/-!
PROOFS. The clock's events when due (R3, R4, R6), and what a step of station time does (R11).
-/
namespace Sys2Proof.Machine
open Sys2Proof

/-! ### Events taken when they are due (R3, R4, R6) -/

theorem exec_gradeRise_due {s : State} (powered : s.clk.dom.powered = true) (below : s.clk.dom.grade < 7)
    (counted : 21600 ≤ s.clk.dom.gradeTimer) : exec .gradeRise s = .next { s with clk := { s.clk with
      dom := { s.clk.dom with grade := s.clk.dom.grade + 1, gradeTimer := 0 } } } :=
  congrArg Host.Outcome.next (if_pos ⟨powered, below, counted⟩)

theorem exec_gradeRise_early {s : State} (h : s.clk.dom.gradeTimer < 21600 ∨ 7 ≤ s.clk.dom.grade) :
    exec .gradeRise s = .next s := by
  refine congrArg Host.Outcome.next (if_neg ?_)
  rintro ⟨-, below, counted⟩
  omega

theorem exec_temperatureSample_due {s : State} (power : s.sup.powerHold = none) (counted : 60 ≤ s.clk.sampleTicks)
    (reading : Int) : exec (.temperatureSample reading) s = .next { s with clk := { s.clk with
      dom := { s.clk.dom with temperature := max (-40) (min 85 reading) }, sampleTicks := 0 } } :=
  congrArg Host.Outcome.next (if_pos ⟨power, counted⟩)

theorem exec_temperatureSample_early {s : State} (h : s.sup.powerHold ≠ none ∨ s.clk.sampleTicks < 60) (reading : Int) :
    exec (.temperatureSample reading) s = .next s := by
  refine congrArg Host.Outcome.next (if_neg ?_)
  rintro ⟨power, counted⟩
  rcases h with h | h
  · exact h power
  · omega

theorem exec_backupDomainPowerLost_held {s : State} (h : s.sup.powerHold ≠ none) :
    exec .backupDomainPowerLost s = .next { s with clk := { s.clk with
      dom := { s.clk.dom with valid := false, powered := false } } } :=
  congrArg Host.Outcome.next (if_pos (Option.isSome_iff_ne_none.mpr h))

theorem exec_backupDomainPowerLost_powered {s : State} (h : s.sup.powerHold = none) :
    exec .backupDomainPowerLost s = .next s :=
  congrArg Host.Outcome.next (if_neg (by simp [h]))

/-- Settles O10: each of the three events on either side of its condition. -/
theorem clockEventsAreTakenWhenDue : Obligations.ClockEventsAreTakenWhenDue := fun _ reading =>
  ⟨exec_gradeRise_due, exec_gradeRise_early, fun power counted => exec_temperatureSample_due power counted reading,
    fun h => exec_temperatureSample_early h reading, exec_backupDomainPowerLost_held, exec_backupDomainPowerLost_powered⟩

/-! ### Requests that are taken -/

/-- A request that is the one in progress and admitted has its effect (R165, R166). -/
theorem State.Takes.serve {s : State} {r : Request} (h : s.Takes r) (effect : State → State) : s.serve r effect = effect s := by
  obtain ⟨awake, working, asked, admitted⟩ := h
  simp [State.serve, awake, working, asked, admitted]

theorem State.reply_eq (s : State) (status : Status) : s.reply status = { s with kl := s.kl.answered status [] } := rfl

/-! ### Steps of station time (R11) -/

/-- An owned hire shifted by a step of station time: its start moves within the range, it is STEPPED and no longer durable (R72, R88). -/
def OwnedHire.shifted (o : OwnedHire) (amount : Int) : OwnedHire :=
  { o with durable := false, fields := { o.fields with start := shiftTime o.fields.start amount, stepped := true } }

theorem State.shiftHires_eq (s : State) (a : Int) : s.shiftHires a =
    s.hu.owned.foldl (fun s o => s.mark (.owned o.slot)) (s.setOwned (s.hu.owned.map fun o => o.shifted a)) := rfl

theorem State.shiftHires_hu (s : State) (a : Int) :
    (s.shiftHires a).hu = { s.hu with owned := s.hu.owned.map fun o => o.shifted a } := by
  rw [State.shiftHires_eq, foldl_kept State.hu (fun (s : State) (o : OwnedHire) => s.mark (.owned o.slot)) (fun _ _ => rfl)]
  rfl

/-- Shifting the owned hires marks their slots. -/
theorem State.shiftHires_marked (s : State) (a : Int) :
    s.jnl.Marked (s.shiftHires a).jnl (s.hu.owned.map fun o => .owned o.slot) := by
  have marked := State.marked_foldl (fun o : OwnedHire => Slot.owned o.slot) s.hu.owned
    (s.setOwned (s.hu.owned.map fun o => o.shifted a))
  exact marked

@[simp] theorem State.shiftHires_frame (s : State) (a : Int) :
    (s.shiftHires a).slc = s.slc ∧ (s.shiftHires a).du = s.du ∧ (s.shiftHires a).fu = s.fu ∧ (s.shiftHires a).flt = s.flt ∧
    (s.shiftHires a).bu = s.bu ∧ (s.shiftHires a).sq = s.sq ∧ (s.shiftHires a).kl = s.kl ∧ (s.shiftHires a).sup = s.sup ∧
    (s.shiftHires a).timebase = s.timebase ∧ (s.shiftHires a).draws = s.draws ∧ (s.shiftHires a).pending = s.pending := by
  obtain ⟨j, h⟩ := State.foldl_mark_rest (fun o : OwnedHire => Slot.owned o.slot) s.hu.owned
    (s.setOwned (s.hu.owned.map fun o => o.shifted a))
  rw [State.shiftHires_eq, h]
  simp

@[simp] theorem State.evaluateWindows_frame (s : State) :
    s.evaluateWindows.slc = s.slc ∧ s.evaluateWindows.du = s.du ∧ s.evaluateWindows.hu = s.hu ∧ s.evaluateWindows.fu = s.fu ∧
    s.evaluateWindows.flt = s.flt ∧ s.evaluateWindows.bu = s.bu ∧ s.evaluateWindows.sq = s.sq ∧ s.evaluateWindows.jnl = s.jnl ∧
    s.evaluateWindows.kl = s.kl ∧ s.evaluateWindows.sup = s.sup ∧ s.evaluateWindows.timebase = s.timebase ∧
    s.evaluateWindows.draws = s.draws ∧ s.evaluateWindows.pending = s.pending := by
  simp [State.evaluateWindows]

@[simp] theorem State.emptySpend_frame (s : State) :
    s.emptySpend.slc = s.slc ∧ s.emptySpend.du = s.du ∧ s.emptySpend.hu = s.hu ∧ s.emptySpend.flt = s.flt ∧
    s.emptySpend.bu = s.bu ∧ s.emptySpend.sq = s.sq ∧ s.emptySpend.jnl = s.jnl ∧ s.emptySpend.kl = s.kl ∧
    s.emptySpend.sup = s.sup ∧ s.emptySpend.timebase = s.timebase ∧ s.emptySpend.draws = s.draws ∧
    s.emptySpend.pending = s.pending := by
  simp [State.emptySpend]

@[simp] theorem State.emptySpend_fu (s : State) : s.emptySpend.fu = { s.fu with spend := [] } := rfl

@[simp] theorem State.zeroRing_frame (s : State) :
    s.zeroRing.slc = s.slc ∧ s.zeroRing.du = s.du ∧ s.zeroRing.hu = s.hu ∧ s.zeroRing.fu = s.fu ∧ s.zeroRing.flt = s.flt ∧
    s.zeroRing.sq = s.sq ∧ s.zeroRing.jnl = s.jnl ∧ s.zeroRing.kl = s.kl ∧ s.zeroRing.sup = s.sup ∧
    s.zeroRing.timebase = s.timebase ∧ s.zeroRing.draws = s.draws ∧ s.zeroRing.pending = s.pending := by
  simp [State.zeroRing]

/-- The need depends on the balance unit, the dock unit, and the image alone (R126). -/
theorem State.recomputeNeed_bu_congr {s t : State} (hbu : s.bu = t.bu) (hdu : s.du = t.du) (hsup : s.sup = t.sup) :
    s.recomputeNeed.bu = t.recomputeNeed.bu := by
  unfold State.recomputeNeed State.isVan State.countA State.countQd State.countW State.configured
  rw [hbu, hdu, hsup]
  split
  · exact hbu
  · rfl

/-! #### Notes posted (R150) -/

theorem State.evaluateSettlement_kl (s : State) : s.evaluateSettlement.kl = { s.kl with
    raised := { s.kl.raised with settlement := s.evaluateSettlement.kl.raised.settlement } } := by
  unfold State.evaluateSettlement
  split <;> rfl

/-- A note may change the SETTLEMENT cause, and nothing else of the kiosk link. -/
theorem State.postNote_kl (s : State) (b : RecordBody) : (s.postNote b).kl = { s.kl with
    raised := { s.kl.raised with settlement := (s.postNote b).kl.raised.settlement } } := by
  unfold State.postNote
  split
  · rw [State.evaluateSettlement_kl]
    simp
  · rfl

theorem State.postNote_room {s : State} (b : RecordBody) (h : s.sq.queue.length < s.noteLimit) :
    (s.postNote b).sq = { s.sq with queue := s.sq.queue ++ [s.newRecord b none 0], seq := nextSerial s.sq.seq } ∧
    (s.postNote b).jnl = s.jnl.mark .counters := by
  unfold State.postNote
  rw [if_pos h]
  simp

theorem State.postNote_full {s : State} (b : RecordBody) (h : s.noteLimit ≤ s.sq.queue.length) :
    (s.postNote b).sq = { s.sq with drops := saturate 65535 s.sq.drops } ∧ (s.postNote b).jnl = s.jnl := by
  unfold State.postNote
  rw [if_neg (Nat.not_lt.mpr h)]
  simp

/-! #### The whole step -/

/-- The clock with its trim cleared, as a step of station time finds it (R5, R10). -/
def Clk.untrimmed (c : Clk) : Clk :=
  { c with dom := { c.dom with drift := 0, withhold := false }, slew := none, slewDue := false }

/-- What the note of a step of station time finds: the time is set, the hires are shifted, the day spend table is emptied on a change
of date, and the ring is zeroed (R11). -/
def State.shifted (s : State) (v : Time) (source : Option Node) : State :=
  let s1 := (s.setClk { s.clk.untrimmed with
    dom := { s.clk.untrimmed.dom with time := v },
    lastStep := some { source := source, amount := (v : Int) - (s.now : Int) } }).shiftHires ((v : Int) - (s.now : Int))
  (if dateChanged s.now v then s1.emptySpend else s1).zeroRing

theorem State.stepTo_eq (s : State) (v : Time) (source : Option Node) :
    s.stepTo v source = ((s.shifted v source).postNote (.clock s.now v source)).evaluateWindows := rfl

@[simp] theorem State.shifted_frame (s : State) (v : Time) (source : Option Node) :
    (s.shifted v source).slc = s.slc ∧ (s.shifted v source).du = s.du ∧ (s.shifted v source).flt = s.flt ∧
    (s.shifted v source).sq = s.sq ∧ (s.shifted v source).kl = s.kl ∧ (s.shifted v source).sup = s.sup ∧
    (s.shifted v source).timebase = s.timebase ∧ (s.shifted v source).draws = s.draws ∧
    (s.shifted v source).pending = s.pending := by
  unfold State.shifted
  dsimp only
  split <;> simp

theorem State.shifted_now (s : State) (v : Time) (source : Option Node) : (s.shifted v source).now = v := by
  unfold State.shifted State.now
  dsimp only
  split <;> simp

theorem State.shifted_hu (s : State) (v : Time) (source : Option Node) : (s.shifted v source).hu =
    { s.hu with owned := s.hu.owned.map fun o => o.shifted ((v : Int) - (s.now : Int)) } := by
  unfold State.shifted
  dsimp only
  split <;> simp [State.shiftHires_hu]

theorem State.shifted_fu (s : State) (v : Time) (source : Option Node) : (s.shifted v source).fu =
    if dayNumber s.now = dayNumber v then s.fu else { s.fu with spend := [] } := by
  unfold State.shifted dateChanged
  by_cases h : dayNumber s.now = dayNumber v <;> simp [h]

theorem State.shifted_bu (s : State) (v : Time) (source : Option Node) : (s.shifted v source).bu =
    (State.recomputeNeed { s with bu := { s.bu with ring := s.bu.ring.map fun _ => { outs := 0, ins := 0 } } }).bu := by
  unfold State.shifted State.zeroRing
  dsimp only
  split <;> exact State.recomputeNeed_bu_congr (by simp) (by simp) (by simp)

theorem State.shifted_marked (s : State) (v : Time) (source : Option Node) :
    s.jnl.Marked (s.shifted v source).jnl (s.hu.owned.map fun o => .owned o.slot) := by
  have marked := (s.setClk { s.clk.untrimmed with
    dom := { s.clk.untrimmed.dom with time := v },
    lastStep := some { source := source, amount := (v : Int) - (s.now : Int) } }).shiftHires_marked ((v : Int) - (s.now : Int))
  unfold State.shifted
  dsimp only
  split <;> simpa using marked

/-- A shift keeps the number of owned hires, so it leaves the note limit as it was. -/
theorem State.shifted_noteLimit (s : State) (v : Time) (source : Option Node) :
    (s.shifted v source).noteLimit = s.noteLimit := by
  simp [State.noteLimit, State.shifted_hu]

/-- A step of station time leaves what R11 says. -/
theorem State.stepTo_spec (s : State) (v : Time) (source : Option Node) :
    s.SteppedTo (s.stepTo v source) s.clk.untrimmed v source := by
  obtain ⟨slc, du, flt, sq, kl, sup, timebase, draws, pending⟩ := s.shifted_frame v source
  have limit := s.shifted_noteLimit v source
  rw [State.stepTo_eq]
  constructor
  case clock => exact s.stepTo_clk v source
  case owned =>
    simp only [State.evaluateWindows_frame, State.postNote_frame, State.shifted_hu]
    rfl
  case spend => simp only [State.evaluateWindows_frame, State.postNote_frame, State.shifted_fu]
  case activity => simp only [State.evaluateWindows_frame, State.postNote_frame, State.shifted_bu]
  case noted =>
    intro room
    have noted := (State.postNote_room (.clock s.now v source) (by rw [limit, sq]; exact room)).1
    simp only [State.evaluateWindows_frame, noted, sq]
    exact ⟨_, rfl, by simp [State.newRecord, State.shifted_now], by simp [State.newRecord]⟩
  case dropped =>
    intro full
    have dropped := (State.postNote_full (.clock s.now v source) (by rw [limit, sq]; exact full)).1
    simp only [State.evaluateWindows_frame, dropped, sq]
    rfl
  case marked =>
    refine ⟨_, ?_, rfl⟩
    simp only [State.evaluateWindows_frame]
    split
    · rename_i room
      rw [(State.postNote_room (.clock s.now v source) (by rw [limit, sq]; exact room)).2]
      exact (s.shifted_marked v source).trans (Jnl.marked_mark _ _)
    · rename_i full
      rw [(State.postNote_full (.clock s.now v source) (by rw [limit, sq]; exact Nat.not_lt.mp full)).2, List.append_nil]
      exact s.shifted_marked v source
  case others => simp

/-- What a step leaves does not depend on the clock of the state before it, but for its time. -/
theorem State.SteppedTo.of_clk {s t : State} {c d : Clk} {v : Time} {source : Option Node}
    (h : State.SteppedTo { s with clk := d } t c v source) (same : d.dom.time = s.now) : s.SteppedTo t c v source := by
  have now : State.now { s with clk := d } = s.now := same
  obtain ⟨clock, owned, spend, activity, noted, dropped, marked, others⟩ := h
  rw [now] at clock owned spend noted
  exact ⟨clock, owned, spend, activity.trans (State.recomputeNeed_bu_congr rfl rfl rfl), noted, dropped, marked, others⟩

end Sys2Proof.Machine
end

section
/-!
PROOFS. SET TIME and the beacons of a better grade (R7, R8, R9, R10, R11).
-/
namespace Sys2Proof.Machine
open Sys2Proof

/-! ### SET TIME (R7) -/

/-- What a step leaves does not speak of the kiosk link. -/
theorem State.SteppedTo.of_kl {s t : State} {c : Clk} {v : Time} {source : Option Node} (h : s.SteppedTo t c v source) (k : Kl) :
    s.SteppedTo { t with kl := k } c v source := by
  obtain ⟨clock, owned, spend, activity, noted, dropped, marked, others⟩ := h
  exact ⟨clock, owned, spend, activity, noted, dropped, marked, others⟩

/-- A step of station time may change the SETTLEMENT cause, for its note, and nothing else of the kiosk link. -/
theorem State.stepTo_kl (s : State) (v : Time) (source : Option Node) : (s.stepTo v source).kl = { s.kl with
    raised := { s.kl.raised with settlement := (s.stepTo v source).kl.raised.settlement } } := by
  rw [State.stepTo_eq]
  simp only [State.evaluateWindows_frame]
  rw [State.postNote_kl]
  simp

/-- The clock anchored and its trim cleared: the clock SET TIME leaves where it finds the present time. -/
theorem State.anchor_clearTrim (s : State) (grade : Nat) :
    (s.anchor grade).clearTrim = { s with clk := s.clk.anchored grade } := rfl

theorem exec_setTime {s : State} {c : CalendarTime} (h : s.Takes (.setTime c)) : exec (.setTime c) s =
    .next (if calendarExists c then (s.setTime (secondsOf c)).reply .ok else s.reply .badValue) :=
  congrArg Host.Outcome.next (h.serve _)

/-- Settles O11: a refusal, the anchor alone, or the anchor and a step. -/
theorem setTimeAnchorsAndSteps : Obligations.SetTimeAnchorsAndSteps := by
  intro s c taken
  rw [exec_setTime taken]
  refine ⟨fun missing => ?_, fun found same => ?_, fun found other => ?_⟩
  · rw [missing]
    rfl
  · rw [if_pos found, State.setTime, if_pos same]
    rfl
  · rw [if_pos found, State.setTime, if_neg other, State.anchor_clearTrim]
    have stepped := State.stepTo_spec { s with clk := s.clk.anchored 0 } (secondsOf c) none
    refine ⟨_, rfl, (stepped.of_clk rfl).of_kl _, ?_⟩
    exact congrArg (fun k => Kl.answered k .ok []) (State.stepTo_kl { s with clk := s.clk.anchored 0 } (secondsOf c) none)

/-! ### Adoption (R8 to R10) -/

/-- The slew of a difference that is not 0 (R10). -/
theorem slewOf_ne_zero {d : Int} (h : d ≠ 0) :
    slewOf d = some { direction := if 0 < d then .insert else .withhold, count := d.natAbs } := by
  unfold slewOf
  by_cases ahead : 0 < d
  · simp only [if_pos ahead, Option.some.injEq, Slew.mk.injEq, true_and]
    omega
  · rw [if_neg ahead, if_pos (by omega), if_neg ahead]
    simp only [Option.some.injEq, Slew.mk.injEq, true_and]
    omega

theorem State.takeBeaconTime_worse {s : State} {grade : Nat} (h : s.clk.dom.grade ≤ grade + 1) (sender : Node) (time : Time) :
    s.takeBeaconTime sender time grade = s := by
  unfold State.takeBeaconTime
  rw [if_neg (Nat.not_lt.mpr h)]

/-- A beacon of a better grade whose time is far off is adopted by a step, and TIME is raised (R9). -/
theorem State.takeBeaconTime_far {s : State} {grade : Nat} (better : grade + 1 < s.clk.dom.grade) (sender : Node) {time : Time}
    (far : 30 ≤ ((time : Int) - (s.now : Int)).natAbs) : s.takeBeaconTime sender time grade =
      (({ s with clk := { s.clk with dom := { s.clk.dom with grade := grade + 1, gradeTimer := 0, clockLost := false } } } :
        State).stepTo time (some sender)).raise .time := by
  unfold State.takeBeaconTime
  rw [if_pos better]
  exact if_pos far

theorem State.takeBeaconTime_same {s : State} {grade : Nat} (better : grade + 1 < s.clk.dom.grade) (sender : Node) {time : Time}
    (same : (time : Int) - (s.now : Int) = 0) : s.takeBeaconTime sender time grade = { s with clk := { s.clk with
      dom := { s.clk.dom with grade := grade + 1, gradeTimer := 0, clockLost := false } } } := by
  unfold State.takeBeaconTime
  rw [if_pos better]
  dsimp only
  rw [same]
  rfl

theorem State.takeBeaconTime_near {s : State} {grade : Nat} (better : grade + 1 < s.clk.dom.grade) (sender : Node) {time : Time}
    (near : ((time : Int) - (s.now : Int)).natAbs < 30) (other : (time : Int) - (s.now : Int) ≠ 0) :
    s.takeBeaconTime sender time grade = { s with clk := { s.clk with
      dom := { s.clk.dom with grade := grade + 1, gradeTimer := 0, clockLost := false },
      slew := some { direction := if 0 < (time : Int) - (s.now : Int) then .insert else .withhold,
                     count := ((time : Int) - (s.now : Int)).natAbs },
      slewDue := false } } := by
  unfold State.takeBeaconTime
  rw [if_pos better]
  dsimp only
  rw [if_neg (Nat.not_le.mpr near), if_neg other, slewOf_ne_zero other]
  rfl

/-- Settles O12: a beacon of no better grade, and one far off, at the present time, or near. -/
theorem beaconsOfBetterGradeAreAdopted : Obligations.BeaconsOfBetterGradeAreAdopted := by
  intro s sender time grade
  refine ⟨fun worse => State.takeBeaconTime_worse worse sender time, fun better far => ?_,
    fun better same => State.takeBeaconTime_same better sender same,
    fun better near other => State.takeBeaconTime_near better sender near other⟩
  have stepped := State.stepTo_spec { s with clk := { s.clk with
    dom := { s.clk.dom with grade := grade + 1, gradeTimer := 0, clockLost := false } } } time (some sender)
  rw [State.takeBeaconTime_far better sender far]
  exact ⟨(stepped.of_clk rfl).of_kl _, rfl⟩

end Sys2Proof.Machine
end

section
/-!
PROOFS. The windows: when an entry matches a time (R14), and the three results of an evaluation (R15).
-/
namespace Sys2Proof.Machine
open Sys2Proof

/-! ### Matching (R14) -/

theorem inMinuteSpan_iff (start stop m : Nat) : inMinuteSpan start stop m = true ↔
    (start < stop → start ≤ m ∧ m < stop) ∧ (stop < start → start ≤ m ∨ m < stop) := by
  unfold inMinuteSpan
  split
  · simp only [Bool.and_eq_true, decide_eq_true_eq]
    omega
  · split
    · simp only [Bool.or_eq_true, decide_eq_true_eq]
      omega
    · simp only [true_iff]
      omega

theorem inMonthRange_iff (first last m : Nat) : inMonthRange first last m = true ↔
    (first ≤ last → first ≤ m ∧ m ≤ last) ∧ (last < first → first ≤ m ∨ m ≤ last) := by
  unfold inMonthRange
  split
  · simp only [Bool.and_eq_true, decide_eq_true_eq]
    omega
  · simp only [Bool.or_eq_true, decide_eq_true_eq]
    omega

/-- A window entry matches a time exactly when each of its four conditions holds (R14). -/
theorem Window.holds_iff (w : Window) (t : Time) : w.holds t = true ↔
    w.enabled = true ∧
    (∀ days, w.weekdays = some days → days.getLsbD (weekdayOf t - 1) = true) ∧
    (∀ first last, w.months = some (first, last) →
      (first ≤ last → first ≤ (dateOf t).month ∧ (dateOf t).month ≤ last) ∧
      (last < first → first ≤ (dateOf t).month ∨ (dateOf t).month ≤ last)) ∧
    (w.startMinute < w.endMinute → w.startMinute ≤ minuteOfDay t ∧ minuteOfDay t < w.endMinute) ∧
    (w.endMinute < w.startMinute → w.startMinute ≤ minuteOfDay t ∨ minuteOfDay t < w.endMinute) := by
  simp only [Window.holds, Bool.and_eq_true, and_assoc, inMinuteSpan_iff, Option.all_eq_true, Prod.forall, inMonthRange_iff]

/-! ### The three results of an evaluation (R15) -/

/-- The entries of the window table by index. -/
theorem indexed_getElem (l : List Window) (i : Nat) (h : i < (l.zipIdx.map fun p => (p.2, p.1)).length) :
    (l.zipIdx.map fun p => (p.2, p.1))[i] = (i, l[i]'(by simpa using h)) := by
  simp

theorem mem_windowMatches {l : List Window} {t : Time} {i : Nat} {w : Window} :
    (i, w) ∈ windowMatches l t ↔ l[i]? = some w ∧ w.holds t = true := by
  simp [windowMatches, List.mem_zipIdx_iff_getElem?]

theorem matchBits_getLsbD (hits : List (Nat × Window)) {i : Nat} (hi : i < 8) :
    (matchBits hits).getLsbD i = true ↔ ∃ p ∈ hits, p.1 = i := by
  induction hits with
  | nil => simp [matchBits]
  | cons p rest ih =>
    have bit : (BitVec.ofNat 8 (2 ^ p.1)).getLsbD i = decide (p.1 = i) := by
      rw [BitVec.getLsbD_ofNat, Nat.testBit_two_pow]
      simp [hi]
    rw [show matchBits (p :: rest) = BitVec.ofNat 8 (2 ^ p.1) ||| matchBits rest from rfl, BitVec.getLsbD_or, bit, Bool.or_eq_true,
      ih]
    simp

/-- The band of the first matching entry of kind BAND. -/
theorem matchBand_first {l : List Window} {t : Time} {i : Nat} {w : Window} (here : l[i]? = some w) (hit : w.holds t = true)
    (kind : w.closes = false) (first : ∀ j v, j < i → l[j]? = some v → v.holds t = true → v.closes = true) :
    matchBand (windowMatches l t) = w.band.getD 0 := by
  have found : (windowMatches l t).find? (fun p => !p.2.closes) = some (i, w) := by
    rw [windowMatches, List.find?_filter, List.find?_eq_some_iff_getElem]
    obtain ⟨hi, rfl⟩ := List.getElem?_eq_some_iff.mp here
    refine ⟨by simp [hit, kind], i, by simpa using hi, by simp, fun j hj => ?_⟩
    rw [indexed_getElem]
    by_cases hit' : (l[j]'(hj.trans hi)).holds t = true
    · simp [first j _ hj (List.getElem?_eq_getElem (hj.trans hi)) hit']
    · simp [hit']
  rw [matchBand, found]
  rfl

/-- With no matching entry of kind BAND the band is 0. -/
theorem matchBand_none {l : List Window} {t : Time} (h : ∀ (i : Nat) (w : Window), l[i]? = some w → w.holds t = true → w.closes = true) :
    matchBand (windowMatches l t) = 0 := by
  have missing : (windowMatches l t).find? (fun p => !p.2.closes) = none := by
    rw [List.find?_eq_none]
    rintro ⟨i, w⟩ hp
    obtain ⟨here, hit⟩ := mem_windowMatches.mp hp
    simp [h i w here hit]
  rw [matchBand, missing]
  rfl

/-- The entry at an index of the window table, as an entry of its list. -/
theorem window_getElem? (v : Vector Window 8) (i : Nat) (w : Window) : v.toList[i]? = some w ↔ ∃ h : i < 8, v[i] = w := by
  rw [List.getElem?_eq_some_iff]
  simp

/-- Settles O13: the conditions of a match, and the match set, the band and the closed flag read from the matching entries. -/
theorem windowsMatchAndGiveThreeResults : Obligations.WindowsMatchAndGiveThreeResults := by
  refine ⟨Window.holds_iff, fun s => ⟨rfl, fun i => ?_, ?_, fun i hit kind first => ?_, fun h => ?_⟩⟩
  · show (matchBits (windowMatches s.clk.windows.toList s.clk.dom.time)).getLsbD i = true ↔ _
    rw [matchBits_getLsbD _ i.isLt]
    constructor
    · rintro ⟨⟨_, w⟩, hp, rfl⟩
      obtain ⟨here, hit⟩ := mem_windowMatches.mp hp
      obtain ⟨_, rfl⟩ := (window_getElem? _ _ _).mp here
      exact hit
    · exact fun hit => ⟨(i, s.clk.windows[i]), mem_windowMatches.mpr ⟨(window_getElem? _ _ _).mpr ⟨i.isLt, rfl⟩, hit⟩, rfl⟩
  · show (windowMatches s.clk.windows.toList s.clk.dom.time).any (fun p => p.2.closes) = true ↔ _
    rw [List.any_eq_true]
    constructor
    · rintro ⟨⟨i, w⟩, hp, closes⟩
      obtain ⟨here, hit⟩ := mem_windowMatches.mp hp
      obtain ⟨hi, rfl⟩ := (window_getElem? _ _ _).mp here
      exact ⟨⟨i, hi⟩, hit, closes⟩
    · rintro ⟨i, hit, closes⟩
      exact ⟨(i, s.clk.windows[i]), mem_windowMatches.mpr ⟨(window_getElem? _ _ _).mpr ⟨i.isLt, rfl⟩, hit⟩, closes⟩
  · refine matchBand_first ((window_getElem? _ _ _).mpr ⟨i.isLt, rfl⟩) hit kind fun j v hj here hit' => ?_
    obtain ⟨h8, rfl⟩ := (window_getElem? _ _ _).mp here
    exact first ⟨j, h8⟩ hj hit'
  · refine matchBand_none fun i w here hit => ?_
    obtain ⟨h8, rfl⟩ := (window_getElem? _ _ _).mp here
    exact h ⟨i, h8⟩ hit

end Sys2Proof.Machine
end

section
/-!
PROOFS. LOAD BAND, LOAD CLASS and LOAD WINDOW (R13, R94, R95, R96, R186).
-/
namespace Sys2Proof.Machine
open Sys2Proof

/-! ### The fields a request carries (R13, R94, R96) -/

theorem flagOf_toNat (b : Bool) : flagOf b.toNat = some b := by cases b <;> rfl

theorem flagOf_eq_none {v : Nat} (h : 1 < v) : flagOf v = none := by
  obtain ⟨n, rfl⟩ := Nat.exists_eq_add_of_le' h
  rfl

theorem classTermsOf_inRange {f : ClassFields} {waived : Bool} (percent : f.percent ≤ 100) (dayCap : f.dayCap ≤ 50000)
    (low : 1 ≤ f.hireLimit) (high : f.hireLimit ≤ 4) (flag : f.waived = waived.toNat) : classTermsOf f =
      some { percent := f.percent, dayCap := f.dayCap, hireLimit := f.hireLimit, waived := waived } := by
  unfold classTermsOf
  rw [if_pos ⟨percent, dayCap, low, high⟩, flag, flagOf_toNat]
  rfl

theorem classTermsOf_outside {f : ClassFields}
    (h : 100 < f.percent ∨ 50000 < f.dayCap ∨ f.hireLimit = 0 ∨ 4 < f.hireLimit ∨ 1 < f.waived) : classTermsOf f = none := by
  unfold classTermsOf
  split
  · rename_i ok
    obtain ⟨percent, dayCap, low, high⟩ := ok
    rcases h with h | h | h | h | h
    · exact absurd percent (Nat.not_le.mpr h)
    · exact absurd dayCap (Nat.not_le.mpr h)
    · exact absurd low (by omega)
    · exact absurd high (Nat.not_le.mpr h)
    · rw [flagOf_eq_none h]
      rfl
  · rfl

/-- The fields of LOAD WINDOW lie in their ranges, kind BAND has a band, and a weekday set given is not empty (R13, R186). -/
def windowAccepted (f : WindowFields) : Prop :=
  f.presence < 32 ∧ (f.presence.testBit 1 = false → f.presence.testBit 2 = true ∧ f.band ≤ 3) ∧
    (f.presence.testBit 3 = true → 1 ≤ f.weekdays ∧ f.weekdays ≤ 127) ∧
    (f.presence.testBit 4 = true → 1 ≤ f.firstMonth ∧ f.firstMonth ≤ 12 ∧ 1 ≤ f.lastMonth ∧ f.lastMonth ≤ 12) ∧
    f.startMinute ≤ 1439 ∧ f.endMinute ≤ 1439

/-- The entry that accepted fields make: a band given with kind CLOSED and every field not present are absent (R13). -/
def windowEntry (f : WindowFields) : Window :=
  { enabled := f.presence.testBit 0, closes := f.presence.testBit 1,
    band := if f.presence.testBit 1 then none else some f.band,
    weekdays := if f.presence.testBit 3 then some (BitVec.ofNat 7 f.weekdays) else none,
    months := if f.presence.testBit 4 then some (f.firstMonth, f.lastMonth) else none,
    startMinute := f.startMinute, endMinute := f.endMinute }

theorem windowOf_eq_some (f : WindowFields) (w : Window) : windowOf f = some w ↔ windowAccepted f ∧ w = windowEntry f := by
  have conditions : windowAccepted f ↔
      (f.presence < 32 ∧ (f.presence.testBit 1 = true ∨ (f.presence.testBit 2 = true ∧ f.band ≤ 3)) ∧
      (f.presence.testBit 3 = true → 1 ≤ f.weekdays ∧ f.weekdays < 128) ∧
      (f.presence.testBit 4 = true → (decide (1 ≤ f.firstMonth) && decide (f.firstMonth ≤ 12)) = true ∧
        (decide (1 ≤ f.lastMonth) && decide (f.lastMonth ≤ 12)) = true) ∧ f.startMinute ≤ 1439 ∧ f.endMinute ≤ 1439) := by
    unfold windowAccepted
    cases f.presence.testBit 1 <;> simp [Nat.lt_succ_iff, and_assoc]
  rw [conditions]
  unfold windowOf
  dsimp only
  split
  · rename_i ok
    rw [Option.some.injEq, eq_comm]
    exact ⟨fun h => ⟨ok, h⟩, fun h => h.2⟩
  · rename_i bad
    exact ⟨nofun, fun h => absurd h.1 bad⟩

theorem windowEntry_weekdays (f : WindowFields) : ((windowEntry f).weekdays = none ↔ f.presence.testBit 3 = false) ∧
    ∀ n < 7, ∀ days, (windowEntry f).weekdays = some days → days.getLsbD n = f.weekdays.testBit n := by
  simp only [windowEntry]
  cases f.presence.testBit 3 with
  | false => exact ⟨by simp, nofun⟩
  | true =>
    refine ⟨by simp, fun n hn days h => ?_⟩
    cases h
    rw [BitVec.getLsbD_ofNat, decide_eq_true hn, Bool.true_and]

/-! ### The requests (R95, R96, R13) -/

/-- A tariff slot marked, and the request answered. -/
theorem State.mark_reply (s : State) (slot : Slot) (status : Status) :
    (s.mark slot).reply status = { s with jnl := s.jnl.mark slot, kl := s.kl.answered status [] } := rfl

theorem exec_loadBand_ok {s : State} {band : Nat} {terms : BandTerms} (h : s.Takes (.loadBand band terms)) (hb : band < 4)
    (ht : BandTerms.inRange terms = true) : exec (.loadBand band terms) s =
      .next { s with fu := { s.fu with bands := s.fu.bands.set band terms }, jnl := s.jnl.mark (.band band),
                     kl := s.kl.answered .ok [] } := by
  refine congrArg Host.Outcome.next ((h.serve _).trans ?_)
  rw [dif_pos hb, if_pos ht, State.mark_reply]
  rfl

theorem exec_loadBand_refused {s : State} {band : Nat} {terms : BandTerms} (h : s.Takes (.loadBand band terms))
    (bad : 4 ≤ band ∨ BandTerms.inRange terms = false) :
    exec (.loadBand band terms) s = .next { s with kl := s.kl.answered .badValue [] } := by
  refine congrArg Host.Outcome.next ((h.serve _).trans ?_)
  by_cases hb : band < 4
  · rw [dif_pos hb, if_neg (ne_true_of_eq_false (bad.resolve_left (Nat.not_le.mpr hb))), State.reply_eq]
  · rw [dif_neg hb, State.reply_eq]

theorem exec_loadClass_ok {s : State} {cls : Nat} {fields : ClassFields} {terms : ClassTerms}
    (h : s.Takes (.loadClass cls fields)) (hc : cls < 4) (ht : classTermsOf fields = some terms) :
    exec (.loadClass cls fields) s =
      .next { s with fu := { s.fu with classes := s.fu.classes.set cls terms }, jnl := s.jnl.mark (.cls cls),
                     kl := s.kl.answered .ok [] } := by
  refine congrArg Host.Outcome.next ((h.serve _).trans ?_)
  rw [ht]
  dsimp only
  rw [dif_pos hc, State.mark_reply]
  rfl

theorem exec_loadClass_refused {s : State} {cls : Nat} {fields : ClassFields} (h : s.Takes (.loadClass cls fields))
    (bad : 4 ≤ cls ∨ classTermsOf fields = none) :
    exec (.loadClass cls fields) s = .next { s with kl := s.kl.answered .badValue [] } := by
  refine congrArg Host.Outcome.next ((h.serve _).trans ?_)
  cases ht : classTermsOf fields with
  | none => rfl
  | some terms =>
    dsimp only
    rw [dif_neg (Nat.not_lt.mpr (bad.resolve_right (by simp [ht]))), State.reply_eq]

theorem exec_loadWindow_ok {s : State} {index : Nat} {fields : WindowFields} {w : Window}
    (h : s.Takes (.loadWindow index fields)) (hi : index < 8) (hw : windowOf fields = some w) :
    exec (.loadWindow index fields) s =
      .next { s with clk := Clk.evaluated { s.clk with windows := s.clk.windows.set index w },
                     jnl := s.jnl.mark (.window index), kl := s.kl.answered .ok [] } := by
  refine congrArg Host.Outcome.next ((h.serve _).trans ?_)
  rw [hw]
  dsimp only
  rw [dif_pos hi]
  rfl

theorem exec_loadWindow_refused {s : State} {index : Nat} {fields : WindowFields} (h : s.Takes (.loadWindow index fields))
    (bad : 8 ≤ index ∨ windowOf fields = none) :
    exec (.loadWindow index fields) s = .next { s with kl := s.kl.answered .badValue [] } := by
  refine congrArg Host.Outcome.next ((h.serve _).trans ?_)
  cases hw : windowOf fields with
  | none => rfl
  | some w =>
    dsimp only
    rw [dif_neg (Nat.not_lt.mpr (bad.resolve_right (by simp [hw]))), State.reply_eq]

/-- Settles O33: each request accepted and refused, and the form of a window entry. -/
theorem loadRequestsReplaceTheirEntry : Obligations.LoadRequestsReplaceTheirEntry := by
  intro s
  refine ⟨fun band terms taken => ⟨fun hb ht => ⟨_, Jnl.marked_mark _ _, exec_loadBand_ok taken hb ht⟩,
      exec_loadBand_refused taken⟩,
    fun cls fields taken => ⟨fun hc waived percent dayCap low high flag => ⟨_, Jnl.marked_mark _ _,
      exec_loadClass_ok taken hc (classTermsOf_inRange percent dayCap low high flag)⟩,
      fun bad => exec_loadClass_refused taken (bad.imp_right classTermsOf_outside)⟩,
    fun index fields taken => ⟨fun hi w hw => ⟨_, Jnl.marked_mark _ _, exec_loadWindow_ok taken hi hw⟩,
      exec_loadWindow_refused taken⟩,
    fun f => ⟨?_, fun w hw => ?_⟩⟩
  · rw [Option.ne_none_iff_exists']
    simp only [windowOf_eq_some]
    exact ⟨fun ⟨_, h, _⟩ => h, fun h => ⟨_, h, rfl⟩⟩
  · obtain ⟨-, rfl⟩ := (windowOf_eq_some f w).mp hw
    obtain ⟨absent, days⟩ := windowEntry_weekdays f
    exact ⟨rfl, rfl, rfl, days, absent, rfl, rfl, rfl⟩

end Sys2Proof.Machine
end

section
/-!
PROOFS. The minute boundary (R12, R15, R75, R87, R99, R125, R126): the evaluation, then the overdue hires one after another.
-/
namespace Sys2Proof.Machine
open Sys2Proof

/-! ### One overdue hire converted (R87) -/

@[simp] theorem State.makeHold_hu (s : State) (c : Card) (r : HoldReason) (i : Ident) :
    (s.makeHold c r i).hu.owned = s.hu.owned ∧ (s.makeHold c r i).hu.heard = s.hu.heard := by
  unfold State.makeHold State.roomForHold State.setHolds
  dsimp only
  split
  · split <;> simp
  · simp

/-- A hold placed leaves the owned and the heard hires as they were. -/
@[simp] theorem State.placeHold_hu (s : State) (c : Card) (r : HoldReason) :
    (s.placeHold c r).1.hu.owned = s.hu.owned ∧ (s.placeHold c r).1.hu.heard = s.hu.heard := by
  unfold State.placeHold
  split
  · simp [State.refreshHold, State.setHolds]
  · simp [State.useHoldSerial]

@[simp] theorem State.placeHold_frame (s : State) (c : Card) (r : HoldReason) :
    (s.placeHold c r).1.du = s.du ∧ (s.placeHold c r).1.fu = s.fu ∧ (s.placeHold c r).1.flt = s.flt ∧
    (s.placeHold c r).1.sq = s.sq ∧ (s.placeHold c r).1.kl = s.kl ∧ (s.placeHold c r).1.sup = s.sup ∧
    (s.placeHold c r).1.timebase = s.timebase ∧ (s.placeHold c r).1.draws = s.draws ∧
    (s.placeHold c r).1.pending = s.pending := by
  unfold State.placeHold
  split <;> simp

@[simp] theorem State.recomputeNeed_ring (s : State) : s.recomputeNeed.bu.ring = s.bu.ring := by
  unfold State.recomputeNeed
  split <;> rfl

@[simp] theorem State.flood_ring (s : State) (b : NoticeBody) : (s.flood b).bu.ring = s.bu.ring := by
  unfold State.flood
  rw [State.originate_frame_eq, State.touchVanSession_bu]

@[simp] theorem State.placeHold_ring (s : State) (c : Card) (r : HoldReason) : (s.placeHold c r).1.bu.ring = s.bu.ring := by
  unfold State.placeHold
  split <;> simp

@[simp] theorem State.announced_ring (s t : State) : (s.announced t).bu.ring = s.bu.ring := by
  unfold State.announced
  split <;> simp

@[simp] theorem State.setMissing_ring (s : State) (b : Bike) (n : Node) (t : Time) :
    (s.setMissing b n t).bu.ring = s.bu.ring := by
  unfold State.setMissing State.setBikePart
  split <;> simp [State.setBikes]

@[simp] theorem State.convertOverdue_frame (s : State) (h : OwnedHire) :
    (s.convertOverdue h).fu = s.fu ∧ (s.convertOverdue h).sup = s.sup ∧ (s.convertOverdue h).timebase = s.timebase ∧
    (s.convertOverdue h).draws = s.draws ∧ (s.convertOverdue h).pending = s.pending ∧
    (s.convertOverdue h).bu.ring = s.bu.ring ∧ (s.convertOverdue h).hu.heard = s.hu.heard := by
  simp [State.convertOverdue, State.pushSettled, State.setSettled, State.setOwned]

theorem State.convertOverdue_owned (s : State) (h : OwnedHire) : (s.convertOverdue h).hu.owned =
    s.hu.owned.filter fun x => !decide (x.fields.serial = h.fields.serial) := by
  simp [State.convertOverdue, State.pushSettled, State.setSettled, State.setOwned]

/-- A money record posted where the queue has room stands last. -/
theorem State.postMoney_queue {s : State} (b : RecordBody) (slot : Nat) (h : s.sq.queue.length < 64) :
    (s.postMoney b slot).sq.queue.map (·.fields.body) = s.sq.queue.map (·.fields.body) ++ [b] := by
  have room : ¬ 64 ≤ s.sq.queue.length := Nat.not_le.mpr h
  unfold State.postMoney
  dsimp only
  split <;> simp [room, State.newRecord]

/-- The body of the money record that the conversion of a hire posts (R87). -/
def overdueBody (node : Node) (o : OwnedHire) : RecordBody :=
  .overdue { node := node, serial := o.fields.serial } o.fields.card o.fields.bike o.fields.start
    (o.fields.terms.cap + o.fields.terms.lostFee)

theorem State.convertOverdue_queue {s : State} (h : OwnedHire) (room : s.sq.queue.length < 64) :
    (s.convertOverdue h).sq.queue.map (·.fields.body) = s.sq.queue.map (·.fields.body) ++ [overdueBody s.node h] := by
  simpa [State.convertOverdue, overdueBody] using State.postMoney_queue (overdueBody s.node h) h.slot room

/-! ### All of them, one after another -/

@[simp] theorem State.foldl_convertOverdue_frame (l : List OwnedHire) (s : State) :
    (l.foldl State.convertOverdue s).clk = s.clk ∧ (l.foldl State.convertOverdue s).fu = s.fu ∧
    (l.foldl State.convertOverdue s).sup = s.sup ∧ (l.foldl State.convertOverdue s).timebase = s.timebase ∧
    (l.foldl State.convertOverdue s).draws = s.draws ∧ (l.foldl State.convertOverdue s).pending = s.pending ∧
    (l.foldl State.convertOverdue s).bu.ring = s.bu.ring ∧ (l.foldl State.convertOverdue s).hu.heard = s.hu.heard := by
  induction l generalizing s with
  | nil => simp
  | cons h l ih => simpa using ih (s.convertOverdue h)

theorem State.foldl_convertOverdue_owned (l : List OwnedHire) (s : State) : (l.foldl State.convertOverdue s).hu.owned =
    s.hu.owned.filter fun o => !l.any fun x => decide (x.fields.serial = o.fields.serial) := by
  induction l generalizing s with
  | nil => simp
  | cons h l ih =>
    rw [List.foldl_cons, ih, State.convertOverdue_owned, List.filter_filter]
    refine List.filter_congr fun o _ => ?_
    simp [Bool.and_comm, eq_comm]

theorem State.foldl_convertOverdue_queue (l : List OwnedHire) (s : State) (room : s.sq.queue.length + l.length ≤ 64) :
    (l.foldl State.convertOverdue s).sq.queue.map (·.fields.body) =
      s.sq.queue.map (·.fields.body) ++ l.map (overdueBody s.node) := by
  induction l generalizing s with
  | nil => simp
  | cons h l ih =>
    rw [List.length_cons] at room
    have first := State.convertOverdue_queue (s := s) h (by omega)
    have length : (s.convertOverdue h).sq.queue.length = s.sq.queue.length + 1 := by
      simpa using congrArg List.length first
    have node : (s.convertOverdue h).node = s.node := by simp [State.node]
    rw [List.foldl_cons, ih _ (by omega), first, node]
    simp

/-! ### The boundary (R12) -/

theorem exec_minuteBoundary {s : State} {b : Time} {rest : List Time} (awake : s.inReset = false)
    (h : s.clk.boundaries = b :: rest) :
    exec .minuteBoundary s = .next ((s.setClk { s.clk with boundaries := rest }).takeBoundary b) := by
  show Host.Outcome.next _ = _
  rw [h]
  dsimp only
  rw [if_neg (by simp [awake])]

/-- The state the hires find at a boundary: the boundary is taken from the queue, the windows are evaluated, and midnight has emptied the
day spend table. -/
def State.boundaryBegun (s : State) (b : Time) (rest : List Time) : State :=
  { s with
    clk := Clk.evaluated { s.clk with boundaries := rest },
    fu := if b % 86400 = 0 then { s.fu with spend := [] } else s.fu }

/-- The state with the ring moved on by one bin at a 5-minute boundary of a station, and the need computed (R125, R126). -/
def State.boundaryEnded (s : State) (b : Time) : State := (if b / 60 % 5 = 0 then s.rotateRing else s).recomputeNeed

theorem State.takeBoundary_eq (s : State) (b : Time) (rest : List Time) :
    (s.setClk { s.clk with boundaries := rest }).takeBoundary b = (s.boundaryBegun b rest).hireBoundary.boundaryEnded b := by
  unfold State.takeBoundary State.boundaryBegun
  by_cases midnight : b % 86400 = 0
  · simp only [if_pos midnight]
    rfl
  · simp only [if_neg midnight]
    rfl

theorem State.boundaryEnded_eq (s : State) (b : Time) : s.boundaryEnded b = State.recomputeNeed { s with
    bu := { s.bu with ring := if b / 60 % 5 = 0 ∧ s.isVan = false then ⟨0, 0⟩ :: s.bu.ring.take 11 else s.bu.ring } } := by
  unfold State.boundaryEnded State.rotateRing
  by_cases five : b / 60 % 5 = 0
  · cases van : s.isVan
    · simp only [five, if_true, true_and, if_neg (Bool.false_ne_true)]
      rfl
    · simp [five]
  · simp [five]

/-- The owned hires that are Z minutes old or older at this moment (R87). -/
def State.dueHires (s : State) : List OwnedHire := s.hu.owned.filter fun o => s.isOverdue o.fields.start

/-- The state after the owned hires that are due at a boundary have been converted, in LISTEN or RUN (R87). -/
def State.boundaryConverted (s : State) (b : Time) (rest : List Time) (runs : Bool) : State :=
  if runs then s.dueHires.foldl State.convertOverdue (s.boundaryBegun b rest) else s.boundaryBegun b rest

@[simp] theorem State.boundaryConverted_frame (s : State) (b : Time) (rest : List Time) (runs : Bool) :
    (s.boundaryConverted b rest runs).clk = (s.boundaryBegun b rest).clk ∧
    (s.boundaryConverted b rest runs).fu = (s.boundaryBegun b rest).fu ∧ (s.boundaryConverted b rest runs).sup = s.sup ∧
    (s.boundaryConverted b rest runs).timebase = s.timebase ∧ (s.boundaryConverted b rest runs).draws = s.draws ∧
    (s.boundaryConverted b rest runs).pending = s.pending ∧ (s.boundaryConverted b rest runs).bu.ring = s.bu.ring ∧
    (s.boundaryConverted b rest runs).hu.heard = s.hu.heard := by
  cases runs <;> simp [State.boundaryConverted, State.boundaryBegun]

theorem State.boundaryConverted_owned (s : State) (b : Time) (rest : List Time) :
    (s.boundaryConverted b rest true).hu.owned = s.hu.owned.filter fun o =>
      !s.dueHires.any fun x => decide (x.fields.serial = o.fields.serial) :=
  State.foldl_convertOverdue_owned s.dueHires (s.boundaryBegun b rest)

theorem State.boundaryConverted_queue {s : State} (b : Time) (rest : List Time)
    (room : s.sq.queue.length + s.dueHires.length ≤ 64) :
    (s.boundaryConverted b rest true).sq.queue.map (·.fields.body) =
      s.sq.queue.map (·.fields.body) ++ s.dueHires.map (overdueBody s.node) :=
  State.foldl_convertOverdue_queue s.dueHires (s.boundaryBegun b rest) room

theorem State.boundaryConverted_none {s : State} (b : Time) (rest : List Time) (runs : Bool) (h : s.dueHires = []) :
    s.boundaryConverted b rest runs = s.boundaryBegun b rest := by
  cases runs
  · rfl
  · simp [State.boundaryConverted, h]

/-- What the taking of a boundary leaves. -/
def State.boundaryTaken (s : State) (b : Time) (rest : List Time) (runs : Bool) : State :=
  let converted := s.boundaryConverted b rest runs
  State.recomputeNeed { converted with
    hu := if runs then { converted.hu with heard := s.hu.heard.filter fun e => !s.isOverdue e.start } else s.hu,
    bu := { converted.bu with
      ring := if b / 60 % 5 = 0 ∧ s.isVan = false then ⟨0, 0⟩ :: s.bu.ring.take 11 else s.bu.ring } }

theorem State.hireBoundary_begun (s : State) (b : Time) (rest : List Time) (runs : Bool)
    (h : runs = decide (s.sup.start = .listen ∨ s.sup.start = .run)) : (s.boundaryBegun b rest).hireBoundary =
      let converted := s.boundaryConverted b rest runs
      { converted with
        hu := if runs then { converted.hu with heard := s.hu.heard.filter fun e => !s.isOverdue e.start } else s.hu } := by
  by_cases listens : s.sup.start = .listen ∨ s.sup.start = .run
  · obtain rfl : runs = true := h.trans (decide_eq_true listens)
    have heard : (s.boundaryConverted b rest true).hu.heard = s.hu.heard := by simp
    refine (if_pos listens).trans ?_
    show (s.boundaryConverted b rest true).setHeard ((s.boundaryConverted b rest true).hu.heard.filter _) = _
    rw [heard]
    rfl
  · obtain rfl : runs = false := h.trans (decide_eq_false listens)
    exact if_neg listens

theorem exec_minuteBoundary_eq {s : State} {b : Time} {rest : List Time} (awake : s.inReset = false)
    (h : s.clk.boundaries = b :: rest) : exec .minuteBoundary s =
      .next (s.boundaryTaken b rest (decide (s.sup.start = .listen ∨ s.sup.start = .run))) := by
  obtain ⟨runs, hr⟩ : ∃ runs, runs = decide (s.sup.start = .listen ∨ s.sup.start = .run) := ⟨_, rfl⟩
  have ring : (s.boundaryConverted b rest runs).bu.ring = s.bu.ring := by simp
  have van (hu : Hu) : State.isVan { s.boundaryConverted b rest runs with hu := hu } = s.isVan := by simp [State.isVan]
  rw [exec_minuteBoundary awake h, State.takeBoundary_eq, State.boundaryEnded_eq, State.hireBoundary_begun s b rest runs hr, ← hr]
  dsimp only
  rw [ring, van]
  rfl

@[simp] theorem State.boundaryTaken_frame (s : State) (b : Time) (rest : List Time) (runs : Bool) :
    (s.boundaryTaken b rest runs).clk = (s.boundaryBegun b rest).clk ∧
    (s.boundaryTaken b rest runs).fu = (s.boundaryBegun b rest).fu ∧ (s.boundaryTaken b rest runs).sup = s.sup ∧
    (s.boundaryTaken b rest runs).timebase = s.timebase ∧ (s.boundaryTaken b rest runs).draws = s.draws ∧
    (s.boundaryTaken b rest runs).pending = s.pending := by
  simp [State.boundaryTaken]

theorem State.boundaryTaken_owned (s : State) (b : Time) (rest : List Time) : (s.boundaryTaken b rest true).hu.owned =
    s.hu.owned.filter fun o => !s.hu.owned.any fun x =>
      decide (x.fields.serial = o.fields.serial) && s.isOverdue x.fields.start := by
  have owned := s.boundaryConverted_owned b rest
  simpa [State.boundaryTaken, State.dueHires, List.any_filter, Bool.and_comm] using owned

theorem State.boundaryTaken_queue {s : State} (b : Time) (rest : List Time)
    (room : s.sq.queue.length + s.dueHires.length ≤ 64) :
    (s.boundaryTaken b rest true).sq.queue.map (·.fields.body) =
      s.sq.queue.map (·.fields.body) ++ s.dueHires.map (overdueBody s.node) := by
  simpa [State.boundaryTaken] using State.boundaryConverted_queue b rest room

/-- Where no hire is due, the conversions change nothing. -/
theorem State.boundaryTaken_none {s : State} (b : Time) (rest : List Time) (runs : Bool) (h : s.dueHires = []) :
    let t := s.boundaryTaken b rest runs
    t = { s with clk := t.clk, fu := t.fu, hu := t.hu, bu := t.bu } := by
  dsimp only [State.boundaryTaken]
  rw [State.boundaryConverted_none b rest runs h]
  apply State.eq_of_blocks <;> simp [State.boundaryBegun]

/-- Settles O14: the boundary taken is `State.boundaryTaken`, and the lemmas above say what the conversions in it do. -/
theorem minuteBoundaryIsTaken : Obligations.MinuteBoundaryIsTaken := by
  intro s b rest awake waiting runs begun overdue due converted t
  obtain ⟨clk, fu, sup, timebase, draws, pending⟩ := s.boundaryTaken_frame b rest runs
  refine ⟨exec_minuteBoundary_eq awake waiting, clk, fu, sup, timebase, draws, pending, fun h => ?_, fun h room => ?_,
    s.boundaryTaken_none b rest runs⟩
  · show (s.boundaryTaken b rest runs).hu.owned = _
    rw [h]
    exact s.boundaryTaken_owned b rest
  · show (s.boundaryTaken b rest runs).sq.queue.map _ = _
    rw [h]
    exact State.boundaryTaken_queue b rest room

end Sys2Proof.Machine
end

section
/-!
PROOFS. The start of a blank part (R3, R176, R181), and the bounds and forms that the state after reset meets (R17, R65, R154, R183).
-/
namespace Sys2Proof.Machine
open Sys2Proof

/-! ### The start of a blank part (R3, R176, R181) -/

theorem formImage_blank : formImage (List.replicate 18 0xFF) = (Image.default, true, 0) := by
  unfold formImage judgeArea
  rw [if_pos rfl]

/-- A POWER start of a part whose domain has lost its mark begins the domain afresh (R3). -/
theorem BackupDomain.atStart_power {d : BackupDomain} (h : d.valid = false) : d.atStart .power = BackupDomain.afresh :=
  if_pos ⟨rfl, h⟩

theorem exec_powerHoldEnd {s : State} {fall : Millis} (power : s.sup.powerHold = some fall) (line : s.sup.lineHold = false)
    (hold : HoldEnd) : exec (.powerHoldEnd hold) s =
      .next ((((s.reached (fall + hold.below + 100)).setDom { s.clk.dom with powered := true }).setSup
        { s.sup with powerHold := none }).beginStart .power hold.sense) := by
  show Host.Outcome.next _ = _
  rw [power]
  dsimp only
  rw [line]
  rfl

/-- A POWER start of a blank part gives the state after reset, but for what a start keeps. -/
theorem State.beginStart_blank {m : State} (lost : m.clk.dom.valid = false) (store : m.jnl.store = [])
    (area : m.jnl.optionArea = List.replicate 18 0xFF) :
    m.beginStart .power { battery := 1200, temperature := 0 } = { State.reset with
      slc := { State.reset.slc with carrier := m.slc.carrier },
      sup := { State.reset.sup with readingAt := m.timebase },
      timebase := m.timebase, draws := m.draws, pending := m.pending } := by
  have cause : (if m.sup.brownOut = true then ResetCause.power else ResetCause.power) = .power := ite_self _
  unfold State.beginStart
  rw [cause]
  dsimp only
  rw [BackupDomain.atStart_power lost, area, formImage_blank, store, lost]
  rfl

/-- Settles O28: the start of a blank part, at the end of its hold. -/
theorem resetIsThePowerStartOfABlankPart : Obligations.ResetIsThePowerStartOfABlankPart := by
  intro s power line lost store area
  rw [exec_powerHoldEnd power line, State.beginStart_blank]
  · rfl
  · exact lost
  · exact store
  · exact area

/-! ### The state after reset meets every bound -/

/-- Every dock, also a number outside the table, reads as at the start of LISTEN: OFFLINE and empty. -/
@[simp] theorem reset_dock (d : Nat) : State.reset.dock d = Dock.initial 0 := by
  show Du.afterReset.dock d = _
  unfold Du.dock
  split
  · exact Vector.getElem_replicate _
  · rfl

theorem reset_wip : State.reset.jnl.wip = none := rfl

theorem reset_mayHold (slot : Slot) (c : SlotContent) : ¬ State.reset.mayHold slot c := by
  rintro (stored | ⟨w, writing, -⟩)
  · have blank : State.reset.jnl.store.read slot.index = none := rfl
    cases blank.symm.trans stored
  · cases reset_wip.symm.trans writing

theorem reset_clockBounded : State.reset.ClockBounded where
  time := Nat.zero_le _
  grade := le_refl 7
  sampleLow := by decide
  sampleHigh := by decide
  trimLow := by decide
  trimHigh := by decide
  trimK := by decide
  trimT0 := by decide
  driftLow := by decide
  driftHigh := by decide
  slew := nofun

theorem reset_linkBounded : State.reset.LinkBounded where
  queue := Nat.zero_le _
  beacons := Nat.zero_le _
  relays := Nat.zero_le _
  seen := Nat.zero_le _
  seenOnce := .nil
  buffer := Nat.zero_le _
  neighbours := Nat.zero_le _
  neighboursOnce := .nil

theorem reset_tablesBounded : State.reset.TablesBounded where
  bikes := Nat.zero_le _
  bikesOnce := .nil
  holds := Nat.zero_le _
  heard := Nat.zero_le _
  heardOnce := .nil
  heardBikesOnce := .nil
  pendingClose := Nat.zero_le _
  pendingOnce := .nil
  settled := Nat.zero_le _
  spend := Nat.zero_le _
  spendOnce := .nil
  log := Nat.zero_le _
  ring := rfl
  claims := Nat.zero_le _
  claimsOnce := .nil
  grants := nofun
  session := nofun
  ownClaims := Nat.zero_le _
  load := Nat.zero_le _
  loadOnce := .nil

theorem reset_needBounded : State.reset.NeedBounded := by
  unfold State.NeedBounded
  decide

theorem reset_memberReleases : State.reset.du.memberReleases = 0 := by decide

theorem reset_hiresBounded : State.reset.HiresBounded where
  capacity := by rw [reset_memberReleases]; decide
  owned := by rw [reset_memberReleases]; decide
  queue := Nat.zero_le _
  notes := List.forall_mem_nil _
  holdsOnce := .nil
  cleared := fun _ => ⟨rfl, rfl⟩

theorem reset_requestAdmitted : State.reset.RequestAdmitted where
  working := by decide
  admitted := nofun

theorem reset_docksFormed : State.reset.DocksFormed where
  releasing d := by simp [Dock.initial]
  pending d := by simp [Dock.initial]
  recorded d := by simp [Dock.initial]
  empty d := by simp [Dock.initial]
  quarantined d := by simp [Dock.initial]
  heard d := by simp [Dock.initial]
  polled := nofun
  takes d := by
    have noSession : State.reset.bu.session = none := rfl
    simp [Dock.initial, noSession]
  takesOnce := nofun
  unstarted := fun _ => ⟨rfl, rfl⟩

theorem reset_dockedOnce : State.reset.DockedOnce := by
  intro d e x y recorded
  simp [Dock.initial] at recorded

theorem reset_hiresApart : State.reset.HiresApart where
  bikesOnce := .nil
  away := fun _ _ _ => nofun

theorem reset_storeFits : State.reset.StoreFits where
  money := fun _ _ _ => nofun
  together := by decide

theorem reset_storeFollows : State.reset.StoreFollows where
  hiresOnce := fun _ _ _ _ _ _ held => absurd held (reset_mayHold _ _)
  resting := fun _ => ⟨rfl, rfl⟩
  told := nofun

theorem reset_storeFormed : State.reset.StoreFormed where
  store := reset_store_wf
  marked := List.forall_mem_nil _
  markedOnce := .nil
  writing := fun w writing => by cases reset_wip.symm.trans writing
  holds := List.forall_mem_nil _
  owned := List.forall_mem_nil _
  money := List.forall_mem_nil _
  leaving := List.forall_mem_nil _

/-- Settles O60: every list is empty, every dock OFFLINE, and the store blank. -/
theorem resetMeetsEveryBound : Obligations.ResetMeetsEveryBound :=
  ⟨reset_clockBounded, reset_linkBounded, reset_tablesBounded, reset_needBounded, reset_hiresBounded, reset_requestAdmitted,
    reset_docksFormed, reset_dockedOnce, reset_hiresApart, reset_storeFits, reset_storeFollows, reset_storeFormed⟩

end Sys2Proof.Machine
end

section
/-!
PROOFS. The bounds of the collections, block by block, and the law of R71 over the four readings it speaks of: so that an operation on
one block keeps them by what it does to that block.
-/
namespace Sys2Proof.Machine
open Sys2Proof

/-! ### The bounds of one block -/

/-- The bounds of the street link's collections (R20, R26, R29, R31, R37). -/
structure Slc.Bounded (b : Slc) : Prop where
  queue : b.queue.length ≤ 12
  beacons : b.queue.countP QueueEntry.isBeacon ≤ 1
  relays : b.relays.length ≤ 8
  seen : b.seen.length ≤ 64
  seenOnce : b.seen.Nodup
  buffer : b.rxBuffer.length ≤ 4
  neighbours : b.neighbours.length ≤ 16
  neighboursOnce : (b.neighbours.map (·.node)).Nodup

/-- The bounds of the bike status list (R60). -/
structure BikesBounded (l : List BikeStatus) : Prop where
  length : l.length ≤ 64
  once : (l.map (·.bike)).Nodup

/-- The bounds of the hire unit's lists (R66, R75, R81, R82). The owned hires stand under the law of R71. -/
structure Hu.Bounded (h : Hu) : Prop where
  holds : h.holds.length ≤ 256
  holdsOnce : (h.holds.map fun x => (x.card, x.reason)).Nodup
  heard : h.heard.length ≤ 64
  heardOnce : (h.heard.map (·.hire)).Nodup
  heardBikesOnce : (h.heard.map (·.bike)).Nodup
  pendingClose : h.pendingClose.length ≤ 16
  pendingOnce : (h.pendingClose.map fun p => (p.bike, p.endTime)).Nodup
  settled : h.settled.length ≤ 32

/-- The bounds of the day spend table (R98). -/
structure SpendBounded (l : List DaySpend) : Prop where
  length : l.length ≤ 32
  once : (l.map (·.card)).Nodup

/-- The bounds of the balance unit's lists and of the need score (R125, R126, R127, R129, R135, R144). -/
structure Bu.Bounded (b : Bu) : Prop where
  ring : b.ring.length = 12
  claims : b.claims.length ≤ 4
  claimsOnce : (b.claims.map (·.id)).Nodup
  grants : ∀ c ∈ b.claims, 1 ≤ c.granted ∧ c.granted ≤ 24
  session : ∀ ss, b.session = some ss → ss.Bounded
  ownClaims : b.ownClaims.length ≤ 4
  load : b.load.length ≤ 30
  loadOnce : (b.load.map (·.bike)).Nodup
  rawNeed : -32 ≤ b.rawNeed ∧ b.rawNeed ≤ 32
  published : -32 ≤ b.published ∧ b.published ≤ 32

/-- The law of R71 over the settlement queue, the number of owned hires, the number of member releases and the start state. Between the
posting of a money record and the removal of the hire it ends the two are counted side by side: `owing` tells how many are. -/
structure CapacityLaw (owing : Nat) (q : Sq) (hires releases : Nat) (start : StartState) : Prop where
  capacity : q.moneyInUse + hires + releases ≤ 64 + owing
  owned : hires + releases ≤ 48
  queue : q.queue.length ≤ 64
  notes : ∀ r ∈ q.queue, r.isMoney = false → r.slot = none
  cleared : start = .options ∨ start = .replay → hires = 0 ∧ q.leaving = []

/-- Every bound the steps keep, block by block, with so many hires counted beside their money records. -/
structure State.BoundedOwing (s : State) (owing : Nat) : Prop where
  slc : s.slc.Bounded
  bikes : BikesBounded s.du.bikes
  hu : s.hu.Bounded
  spend : SpendBounded s.fu.spend
  log : s.flt.log.length ≤ 32
  bu : s.bu.Bounded
  law : CapacityLaw owing s.sq s.hu.owned.length s.du.memberReleases s.sup.start

/-- Every bound the steps keep. -/
abbrev State.Bounded (s : State) : Prop := s.BoundedOwing 0

theorem State.bounded_iff (s : State) :
    s.Bounded ↔ s.LinkBounded ∧ s.TablesBounded ∧ s.NeedBounded ∧ s.HiresBounded := by
  constructor
  · intro h
    refine ⟨{ h.slc with }, ?_, ?_, ?_⟩
    · exact { h.hu, h.bu with
        bikes := h.bikes.length, bikesOnce := h.bikes.once, spend := h.spend.length, spendOnce := h.spend.once, log := h.log }
    · exact ⟨h.bu.rawNeed.1, h.bu.rawNeed.2, h.bu.published.1, h.bu.published.2⟩
    · exact { h.law with
        holdsOnce := h.hu.holdsOnce, cleared := fun e => (h.law.cleared e).imp List.eq_nil_of_length_eq_zero id }
  · rintro ⟨link, tables, ⟨n1, n2, n3, n4⟩, hires⟩
    exact {
      slc := { link with }
      bikes := ⟨tables.bikes, tables.bikesOnce⟩
      hu := { tables, hires with }
      spend := ⟨tables.spend, tables.spendOnce⟩
      log := tables.log
      bu := { tables with rawNeed := ⟨n1, n2⟩, published := ⟨n3, n4⟩ }
      law := { hires with
        cleared := fun e => (hires.cleared e).imp List.length_eq_zero_iff.mpr id } }

/-- Fewer owned hires or member releases keep the law, and so does a start that has gone on. -/
theorem CapacityLaw.mono {n : Nat} {q : Sq} {o o' r r' : Nat} {a b : StartState} (h : CapacityLaw n q o r a) (ho : o' ≤ o) (hr : r' ≤ r)
    (hs : b = .options ∨ b = .replay → a = .options ∨ a = .replay) : CapacityLaw n q o' r' b where
  capacity := by have := h.capacity; omega
  owned := by have := h.owned; omega
  queue := h.queue
  notes := h.notes
  cleared := fun e => ⟨by have := (h.cleared (hs e)).1; omega, (h.cleared (hs e)).2⟩

/-! ### Updates of one block each -/

namespace State.BoundedOwing
variable {s : State} {owing : Nat}

theorem setClk (h : s.BoundedOwing owing) (b : Clk) : (s.setClk b).BoundedOwing owing := { h with }
theorem setJnl (h : s.BoundedOwing owing) (b : Jnl) : (s.setJnl b).BoundedOwing owing := { h with }
theorem setKl (h : s.BoundedOwing owing) (b : Kl) : (s.setKl b).BoundedOwing owing := { h with }
theorem setTimebase (h : s.BoundedOwing owing) (b : Millis) : (s.setTimebase b).BoundedOwing owing := { h with }
theorem setDraws (h : s.BoundedOwing owing) (b : Nat) : (s.setDraws b).BoundedOwing owing := { h with }
theorem setPending (h : s.BoundedOwing owing) (b : List Instr) : (s.setPending b).BoundedOwing owing := { h with }
theorem setSlc (h : s.BoundedOwing owing) {b : Slc} (hb : b.Bounded) : (s.setSlc b).BoundedOwing owing := { h with slc := hb }
theorem setBu (h : s.BoundedOwing owing) {b : Bu} (hb : b.Bounded) : (s.setBu b).BoundedOwing owing := { h with bu := hb }
theorem setFu (h : s.BoundedOwing owing) {b : Fu} (hb : SpendBounded b.spend) : (s.setFu b).BoundedOwing owing := { h with spend := hb }
theorem setFlt (h : s.BoundedOwing owing) {b : Flt} (hb : b.log.length ≤ 32) : (s.setFlt b).BoundedOwing owing := { h with log := hb }

theorem setSq (h : s.BoundedOwing owing) {b : Sq} (hb : CapacityLaw owing b s.hu.owned.length s.du.memberReleases s.sup.start) :
    (s.setSq b).BoundedOwing owing := { h with law := hb }

/-- The hire unit may change where it owns no hire more. -/
theorem setHu (h : s.BoundedOwing owing) {b : Hu} (hb : b.Bounded) (ho : b.owned.length ≤ s.hu.owned.length) :
    (s.setHu b).BoundedOwing owing :=
  { h with hu := hb, law := h.law.mono ho le_rfl id }

/-- The dock unit may change where no dock is released to a member that was not. -/
theorem setDu (h : s.BoundedOwing owing) {b : Du} (hb : BikesBounded b.bikes) (hr : b.memberReleases ≤ s.du.memberReleases) :
    (s.setDu b).BoundedOwing owing :=
  { h with bikes := hb, law := h.law.mono le_rfl hr id }

/-- The start state may go on, and never back to REPLAY or OPTIONS. -/
theorem setSup (h : s.BoundedOwing owing) {b : Sup}
    (hs : b.start = .options ∨ b.start = .replay → s.sup.start = .options ∨ s.sup.start = .replay) :
    (s.setSup b).BoundedOwing owing :=
  { h with law := h.law.mono le_rfl le_rfl hs }

/-! ### What touches no bounded collection -/

theorem mark (h : s.BoundedOwing owing) (x : Slot) : (s.mark x).BoundedOwing owing := h.setJnl _
theorem putCause (h : s.BoundedOwing owing) (c : Cause) (v : Bool) : (s.putCause c v).BoundedOwing owing := h.setKl _
theorem raise (h : s.BoundedOwing owing) (c : Cause) : (s.raise c).BoundedOwing owing := h.setKl _
theorem answer (h : s.BoundedOwing owing) (c : Status) (l : List Byte) : (s.answer c l).BoundedOwing owing := h.setKl _
theorem reply (h : s.BoundedOwing owing) (c : Status) : (s.reply c).BoundedOwing owing := h.setKl _
theorem reached (h : s.BoundedOwing owing) (t : Millis) : (s.reached t).BoundedOwing owing := h.setTimebase _
theorem drawn (h : s.BoundedOwing owing) : s.drawn.BoundedOwing owing := h.setDraws _
theorem shiftOut (h : s.BoundedOwing owing) (l : List Byte) : (s.shiftOut l).BoundedOwing owing := h.setKl _
theorem evaluateWindows (h : s.BoundedOwing owing) : s.evaluateWindows.BoundedOwing owing := h.setClk _
theorem setDom (h : s.BoundedOwing owing) (d : BackupDomain) : (s.setDom d).BoundedOwing owing := h.setClk _
theorem setOptionWork (h : s.BoundedOwing owing) (w : OptionWork) : (s.setOptionWork w).BoundedOwing owing := h.setJnl _
theorem setOptionArea (h : s.BoundedOwing owing) (l : List Byte) : (s.setOptionArea l).BoundedOwing owing := h.setJnl _
theorem storeSlot (h : s.BoundedOwing owing) (x : Slot) (c : SlotContent) : (s.storeSlot x c).BoundedOwing owing := h.setJnl _
theorem degrade (h : s.BoundedOwing owing) : s.degrade.BoundedOwing owing := (h.setJnl _).raise _
theorem clearTrim (h : s.BoundedOwing owing) : s.clearTrim.BoundedOwing owing := h.setClk _
theorem anchor (h : s.BoundedOwing owing) (g : Nat) : (s.anchor g).BoundedOwing owing := h.setDom _

theorem evaluateSettlement (h : s.BoundedOwing owing) : s.evaluateSettlement.BoundedOwing owing := by
  unfold State.evaluateSettlement
  split
  · exact h.putCause _ _
  · exact h

theorem failedWrite (h : s.BoundedOwing owing) (w : WriteInProgress) : (s.failedWrite w).BoundedOwing owing := by
  unfold State.failedWrite
  split
  · exact h.drawn
  · exact (h.storeSlot _ _).drawn
  · exact (h.storeSlot _ _).drawn

/-- Slots marked one after another. -/
theorem foldl_mark {α : Type} (g : α → Slot) (l : List α) (h : s.BoundedOwing owing) :
    (l.foldl (fun s a => s.mark (g a)) s).BoundedOwing owing := by
  induction l generalizing s with
  | nil => exact h
  | cons a l ih => exact ih (h.mark _)

/-- A step of a fold that keeps the bounds. -/
theorem foldl {α : Type} {f : State → α → State} (hf : ∀ t a, t.BoundedOwing owing → (f t a).BoundedOwing owing) (l : List α)
    (h : s.BoundedOwing owing) :
    (l.foldl f s).BoundedOwing owing := by
  induction l generalizing s with
  | nil => exact h
  | cons a l ih => exact ih (hf s a h)

end State.BoundedOwing
end Sys2Proof.Machine
end

section
/-!
PROOFS. What keeps the street link's collections within their bounds (R20, R21, R26, R29, R31, R37).
-/
namespace Sys2Proof.Machine
open Sys2Proof

/-! ### Lists without repetition -/

theorem nodup_snoc {α : Type} {l : List α} {a : α} (h : l.Nodup) (ha : a ∉ l) : (l ++ [a]).Nodup :=
  List.nodup_append.mpr ⟨h, by simp, fun x hx y hy e => ha (by simpa [e ▸ List.mem_singleton.mp hy] using hx)⟩

/-- An entry added to a list of bounded length, where no entry reads as it does. -/
theorem nodup_map_pushBounded {α β : Type} {g : α → β} {l : List α} {a : α} (limit : Nat) (h : (l.map g).Nodup)
    (ha : g a ∉ l.map g) : ((pushBounded limit l a).map g).Nodup := by
  have snoc {k : List α} (hk : k.Sublist l) : ((k ++ [a]).map g).Nodup := by
    rw [List.map_append]
    exact nodup_snoc ((hk.map g).nodup h) fun m => ha ((hk.map g).subset m)
  unfold pushBounded
  split
  · exact snoc (List.Sublist.refl _)
  · exact snoc (List.drop_sublist _ _)

/-- One entry changed into one that reads as no entry does. -/
theorem nodup_map_updateFirst {α β : Type} {g : α → β} {p : α → Bool} {f : α → α} {l : List α} (h : (l.map g).Nodup)
    (hf : ∀ a, g (f a) ∉ l.map g) : ((updateFirst p f l).map g).Nodup := by
  induction l with
  | nil => exact h
  | cons a l ih =>
    rw [List.map_cons, List.nodup_cons] at h
    obtain ⟨ha, hl⟩ := h
    unfold updateFirst
    split
    · rw [List.map_cons, List.nodup_cons]
      exact ⟨fun m => hf a (by simp [m]), hl⟩
    · rw [List.map_cons, List.nodup_cons]
      refine ⟨fun m => ?_, ih hl fun b m => hf b (by simp [m])⟩
      obtain ⟨x, hx, e⟩ := List.mem_map.mp m
      obtain hx | ⟨y, -, -, rfl⟩ := mem_updateFirst p f hx
      · exact ha (e ▸ List.mem_map_of_mem hx)
      · exact hf y (by simp [e])

/-! ### The transmit queue (R20, R21) -/

/-- The bounds of a transmit queue. -/
def QueueBounded (q : List QueueEntry) : Prop := q.length ≤ 12 ∧ q.countP QueueEntry.isBeacon ≤ 1

theorem Slc.Bounded.setQueue {b : Slc} (h : b.Bounded) {q : List QueueEntry} (hq : QueueBounded q) :
    { b with queue := q }.Bounded := { h with queue := hq.1, beacons := hq.2 }

theorem Slc.Bounded.queueBounded {b : Slc} (h : b.Bounded) : QueueBounded b.queue := ⟨h.queue, h.beacons⟩

/-- The bounds speak of the notices alone, whichever of them is in access. -/
theorem QueueBounded.of_rows {q r : List QueueEntry} (h : QueueBounded q) (e : r.map QueueEntry.row = q.map QueueEntry.row) :
    QueueBounded r := by
  have beacons (l : List QueueEntry) :
      l.countP QueueEntry.isBeacon = (l.map QueueEntry.row).countP fun x => decide (x.1.body.kindCode = 7) := by
    rw [List.countP_map]; rfl
  have hl := congrArg List.length e
  rw [List.length_map, List.length_map] at hl
  exact ⟨hl ▸ h.1, by rw [beacons r, e, ← beacons q]; exact h.2⟩

theorem QueueBounded.perm {q r : List QueueEntry} (h : QueueBounded q) (e : r.Perm q) : QueueBounded r :=
  ⟨e.length_eq ▸ h.1, e.countP_eq _ ▸ h.2⟩

theorem QueueBounded.sublist {q r : List QueueEntry} (h : QueueBounded q) (e : r.Sublist q) : QueueBounded r :=
  ⟨e.length_le.trans h.1, (e.countP_le).trans h.2⟩

/-- A queue without one of its entries takes a notice at its end, where the two are no more beacons than may be. -/
theorem QueueBounded.snoc {q : List QueueEntry} {e : QueueEntry} (hl : q.length < 12)
    (hb : q.countP QueueEntry.isBeacon + (if e.isBeacon then 1 else 0) ≤ 1) : QueueBounded (q ++ [e]) := by
  refine ⟨by simp; omega, ?_⟩
  rwa [List.countP_append, List.countP_singleton]

/-- A queue without its beacon is shorter by one at least, and holds none. -/
theorem withoutBeacon {q : List QueueEntry} (h : q.any QueueEntry.isBeacon = true) :
    (q.filter fun x => !x.isBeacon).length < q.length ∧ (q.filter fun x => !x.isBeacon).countP QueueEntry.isBeacon = 0 := by
  obtain ⟨x, hx, hb⟩ := List.any_eq_true.mp h
  refine ⟨List.length_filter_lt_length_iff_exists.mpr ⟨x, hx, by simp [hb]⟩, ?_⟩
  simp [List.countP_eq_zero]

theorem QueueBounded.replaceBeacon {q : List QueueEntry} (h : QueueBounded q) (hb : q.any QueueEntry.isBeacon = true)
    (e : QueueEntry) : QueueBounded (q.filter (fun x => !x.isBeacon) ++ [e]) := by
  obtain ⟨shorter, none⟩ := withoutBeacon hb
  have := h.1
  exact .snoc (by omega) (by rw [none]; split <;> omega)

/-- A notice that joins the queue, or is dropped, leaves the queue within its bounds (R21). -/
theorem QueueBounded.joinQueue {q : List QueueEntry} (h : QueueBounded q) (e : QueueEntry) : QueueBounded (joinQueue q e).1 := by
  unfold Machine.joinQueue
  split
  · rename_i both
    exact h.replaceBeacon ((Bool.and_eq_true _ _ ▸ both).2) e
  · rename_i apart
    have fresh : q.countP QueueEntry.isBeacon + (if e.isBeacon then 1 else 0) ≤ 1 := by
      split
      · rename_i beacon
        have : q.countP QueueEntry.isBeacon = 0 := by simpa [beacon, List.countP_eq_zero] using apart
        omega
      · have := h.2
        omega
    split
    · exact .snoc ‹_› fresh
    · split
      · exact h
      · split
        · exact h.replaceBeacon ‹_› e
        · exact h
      · split
        · exact h.replaceBeacon ‹_› e
        · split
          · rename_i normal
            have shorter := List.length_eraseP_add_one (List.any_eq_true.mp normal |>.choose_spec.1)
              (List.any_eq_true.mp normal |>.choose_spec.2)
            have fewer : (q.eraseP QueueEntry.isNormal).countP QueueEntry.isBeacon ≤ q.countP QueueEntry.isBeacon :=
              List.eraseP_sublist.countP_le
            have := h.1
            exact .snoc (by omega) (by omega)
          · exact h

/-! ### The seen list (R29) -/

theorem enterSeen_bounded {seen : List Ident} (i : Ident) (hl : seen.length ≤ 64) (hn : seen.Nodup) :
    (enterSeen seen i).length ≤ 64 ∧ (enterSeen seen i).Nodup := by
  unfold enterSeen
  split
  · exact ⟨hl, hn⟩
  · rename_i new
    refine ⟨length_pushBounded _ _ _ hl (by decide), ?_⟩
    simpa using nodup_map_pushBounded (g := id) 64 (by simpa using hn) (by simpa using new)

/-! ### Origination (R19 to R22) -/

namespace State.BoundedOwing
variable {s : State} {owing : Nat}

theorem setQueue (h : s.BoundedOwing owing) {q : List QueueEntry} (hq : QueueBounded q) :
    (s.setSlc { s.slc with queue := q }).BoundedOwing owing :=
  h.setSlc (h.slc.setQueue hq)

theorem reselect (h : s.BoundedOwing owing) : s.reselect.BoundedOwing owing := by
  unfold State.reselect
  split
  · split
    · exact h
    · split
      · exact h
      · exact h.setSlc { h.slc.setQueue (h.slc.queueBounded.of_rows (row_enterAccess _ _ _)) with }
  · exact h

theorem enqueue (h : s.BoundedOwing owing) (n : Notice) (cls : TxClass) (relayed : Bool) : (s.enqueue n cls relayed).BoundedOwing owing :=
  State.BoundedOwing.reselect (h.setSlc (by exact { h.slc.setQueue (h.slc.queueBounded.joinQueue _) with }))

theorem touchVanSession (h : s.BoundedOwing owing) (body : NoticeBody) (dest : Node) :
    (s.touchVanSession body dest).BoundedOwing owing := by
  unfold State.touchVanSession
  split
  · split
    · exact h.setBu { h.bu with }
    · exact h
  · exact h

theorem originate (h : s.BoundedOwing owing) (body : NoticeBody) (dest : Node) : (s.originate body dest).BoundedOwing owing :=
  (((h.touchVanSession body dest).setSlc (b := { s.slc with originSerial := nextSerial s.slc.originSerial })
    { h.slc with }).mark .counters).enqueue _ _ _

theorem flood (h : s.BoundedOwing owing) (body : NoticeBody) : (s.flood body).BoundedOwing owing := h.originate body 0

/-! ### Relays and this node's own QUIET (R31 to R36) -/

theorem withdrawQuiet (h : s.BoundedOwing owing) : s.withdrawQuiet.BoundedOwing owing :=
  (h.setQueue (h.slc.queueBounded.sublist List.filter_sublist)).reselect

theorem relaysChanged (h : s.BoundedOwing owing) (before : Nat) : (s.relaysChanged before).BoundedOwing owing := by
  unfold State.relaysChanged
  split
  · exact h.flood _
  · split
    · split
      · exact State.BoundedOwing.flood (h.setSlc (by exact { h.slc with })) _
      · split
        · exact h.withdrawQuiet
        · exact h
    · exact h

theorem setRelays (h : s.BoundedOwing owing) {l : List RelayEntry} (hl : l.length ≤ 8) : (s.setRelays l).BoundedOwing owing :=
  State.BoundedOwing.relaysChanged (h.setSlc (by exact { h.slc with relays := hl })) _

theorem suppress (h : s.BoundedOwing owing) (id : Ident) : (s.suppress id).BoundedOwing owing := by
  unfold State.suppress
  split
  · exact h
  · split
    · exact h.setRelays (List.eraseP_sublist.length_le.trans h.slc.relays)
    · exact h.setRelays (by rw [length_updateFirst]; exact h.slc.relays)

theorem relay (h : s.BoundedOwing owing) (n : Notice) : (s.relay n).BoundedOwing owing := by
  unfold State.relay
  split
  · split
    · exact h.setSlc { h.slc with }
    · exact h.drawn.setRelays (by simp only [List.length_append, List.length_singleton]; omega)
  · exact h

theorem setBeaconTimer (h : s.BoundedOwing owing) (n : Nat) : (s.setBeaconTimer n).BoundedOwing owing :=
  State.BoundedOwing.drawn (h.setSlc { h.slc with })

theorem supplyChanged (h : s.BoundedOwing owing) : s.supplyChanged.BoundedOwing owing := by
  unfold State.supplyChanged
  dsimp only
  have cut : (s.setSlc { s.slc with
      queue := s.slc.queue.filter fun e => !e.barred s.sup.supply
      relayDrops := min 65535 (s.slc.relayDrops +
        (s.slc.relays.length - (s.slc.relays.filter fun e => relayPermitted s.sup.supply e.notice.body).length +
          (s.slc.queue.length - (s.slc.queue.filter fun e => !e.barred s.sup.supply).length))) }).BoundedOwing owing :=
    h.setSlc { h.slc.setQueue (h.slc.queueBounded.sublist List.filter_sublist) with }
  have kept := cut.reselect.setRelays ((List.length_filter_le (fun e => relayPermitted s.sup.supply e.notice.body) _).trans
    h.slc.relays)
  split
  · exact kept.setBeaconTimer _
  · exact kept

/-! ### Medium access (R22 to R25) -/

theorem setAccess (h : s.BoundedOwing owing) (a : Access) : (s.setAccess a).BoundedOwing owing :=
  h.setQueue (h.slc.queueBounded.of_rows (map_updateFirst _ _ QueueEntry.row (by exact fun _ _ => rfl) _))

/-- An entry found in access leaves the queue and stands at its end: the same notices. -/
theorem abandonAccess (h : s.BoundedOwing owing) {e : QueueEntry} (he : s.inAccess = some e) : (s.abandonAccess e).BoundedOwing owing := by
  have erased : QueueBounded (s.slc.queue.eraseP fun x => x.access.isSome) := h.slc.queueBounded.sublist List.eraseP_sublist
  have moved : QueueBounded ((s.slc.queue.eraseP fun x => x.access.isSome) ++ [{ e with access := none }]) := by
    have inAccess := List.find?_some he
    obtain ⟨before, rest, hq, hbefore⟩ := List.find?_eq_some_iff_append.mp he |>.2
    have outside : ∀ x ∈ before, x.access.isSome = false := fun x hx => by simpa using hbefore x hx
    rw [hq, eraseP_middle _ _ _ _ outside inAccess]
    have kept : QueueBounded (before ++ { e with access := none } :: rest) := h.slc.queueBounded.of_rows (by simp [hq]; rfl)
    exact kept.perm (by simpa using (List.perm_append_singleton _ rest).append_left before)
  unfold State.abandonAccess
  dsimp only
  split
  · exact State.BoundedOwing.reselect (h.setSlc { h.slc.setQueue erased with })
  · exact (h.setQueue moved).reselect

theorem findBusy (h : s.BoundedOwing owing) : s.findBusy.BoundedOwing owing := by
  unfold State.findBusy
  split
  · split
    · split
      · exact h.abandonAccess ‹_›
      · dsimp only
        split
        · exact (h.setAccess _).drawn
        · exact h.setAccess _
    · exact h
  · exact h

theorem transmit (h : s.BoundedOwing owing) (e : QueueEntry) : (s.transmit e).BoundedOwing owing := by
  obtain ⟨length, once⟩ := enterSeen_bounded (s.formed e.notice).ident h.slc.seen h.slc.seenOnce
  have rest : QueueBounded (s.slc.queue.eraseP fun x => x.access.isSome) := h.slc.queueBounded.sublist List.eraseP_sublist
  refine h.setSlc { h.slc.setQueue rest with seen := ?_, seenOnce := ?_ }
  · dsimp only
    split
    · exact length
    · exact h.slc.seen
  · dsimp only
    split
    · exact once
    · exact h.slc.seenOnce

theorem countDown (h : s.BoundedOwing owing) (e : QueueEntry) (a : Access) (n : Nat) : (s.countDown e a n).BoundedOwing owing := by
  unfold State.countDown
  split
  · exact h.transmit e
  · exact h.setAccess _

theorem slotEnds (h : s.BoundedOwing owing) (e : QueueEntry) (a : Access) : (s.slotEnds e a).BoundedOwing owing := by
  unfold State.slotEnds
  split
  · split
    · exact h.setAccess _
    · split
      · exact h.countDown e a _
      · exact (h.countDown e a _).drawn
  · exact h.countDown e a _

/-! ### Receiving (R26, R27) -/

theorem setAssembly (h : s.BoundedOwing owing) (a : Assembly) : (s.setAssembly a).BoundedOwing owing := h.setSlc { h.slc with }

theorem countError (h : s.BoundedOwing owing) : s.countError.BoundedOwing owing := by
  unfold State.countError
  dsimp only
  split
  · exact State.BoundedOwing.raise (h.setSlc (by exact { h.slc with })) _
  · exact h.setSlc { h.slc with }

theorem checkError (h : s.BoundedOwing owing) : s.checkError.BoundedOwing owing :=
  State.BoundedOwing.countError (h.setSlc (by exact { h.slc with }))
theorem lengthError (h : s.BoundedOwing owing) : s.lengthError.BoundedOwing owing :=
  State.BoundedOwing.countError (h.setSlc (by exact { h.slc with }))
theorem overrunError (h : s.BoundedOwing owing) : s.overrunError.BoundedOwing owing :=
  State.BoundedOwing.countError (h.setSlc (by exact { h.slc with }))
theorem truncatedError (h : s.BoundedOwing owing) : s.truncatedError.BoundedOwing owing :=
  State.BoundedOwing.countError (h.setSlc (by exact { h.slc with }))

/-! ### The neighbour table (R35, R37) -/

theorem setNeighbours (h : s.BoundedOwing owing) {l : List Neighbour} (hl : l.length ≤ 16) (hn : (l.map (·.node)).Nodup) :
    (s.setNeighbours l).BoundedOwing owing := h.setSlc { h.slc with neighbours := hl, neighboursOnce := hn }

/-- An entry that keeps its node may change. -/
theorem updateNeighbour (h : s.BoundedOwing owing) (n : Node) {f : Neighbour → Neighbour} (hf : ∀ e, (f e).node = e.node) :
    (s.updateNeighbour n f).BoundedOwing owing :=
  h.setNeighbours (by rw [length_updateFirst]; exact h.slc.neighbours)
    (by rw [map_updateFirst _ _ _ fun e _ => hf e]; exact h.slc.neighboursOnce)

/-- A sender not in the table takes a place at its end, or that of one entry; one that is in it keeps its place (R37). -/
theorem hearSender (h : s.BoundedOwing owing) (n : Node) : (s.hearSender n).BoundedOwing owing := by
  unfold State.hearSender
  split
  · exact h.updateNeighbour n fun _ => rfl
  · rename_i new
    have new : n ∉ s.slc.neighbours.map (·.node) := by simpa using new
    split
    · refine h.setNeighbours (by simp; omega) ?_
      rw [List.map_append]
      exact nodup_snoc h.slc.neighboursOnce new
    · split
      · split
        · exact h.setNeighbours (by rw [length_updateFirst]; exact h.slc.neighbours)
            (nodup_map_updateFirst h.slc.neighboursOnce fun _ => new)
        · exact h.setSlc { h.slc with }
      · exact h

end State.BoundedOwing
end Sys2Proof.Machine
end

section
/-!
PROOFS. What keeps the dock table's member releases, the bike status list, the fault log and the need score within their bounds (R60 to
R62, R71, R113, R126).
-/
namespace Sys2Proof.Machine
open Sys2Proof

/-! ### Member releases (R71, R150) -/

/-- The dock is released for a member (R71). -/
def Dock.forMember (k : Dock) : Bool := decide (k.state = .releasing) && k.releasesFor .member

theorem Du.memberReleases_eq (d : Du) : d.memberReleases = d.docks.toList.countP Dock.forMember := rfl

@[simp] theorem Dock.forMember_refresh (k : Dock) (du : Du) : (k.refresh du).forMember = k.forMember := by
  simp [Dock.forMember, Dock.releasesFor]

@[simp] theorem Dock.forMember_placeLamp (k : Dock) (p : Lamp) : (k.placeLamp p).forMember = k.forMember := rfl

@[simp] theorem Dock.forMember_placeResting (k : Dock) : k.placeResting.forMember = k.forMember := by
  simp [Dock.forMember, Dock.releasesFor]

@[simp] theorem Dock.forMember_show (k : Dock) (p : Lamp) (t : Millis) : (k.show p t).forMember = k.forMember := rfl

/-- A dock that moves to a state is released for a member where the state is RELEASING and the release a member's. -/
@[simp] theorem Dock.forMember_enter (k : Dock) (st : DockState) :
    (k.enter st).forMember = (decide (st = .releasing) && k.releasesFor .member) := by
  simp [Dock.forMember, Dock.releasesFor]

@[simp] theorem Dock.forMember_endRelease (k : Dock) (st : DockState) : (k.endRelease st).forMember = false := by
  simp [Dock.endRelease, Dock.releasesFor]

@[simp] theorem Dock.forMember_settle (k : Dock) : k.settle.forMember = false := by
  have settled : k.settledState ≠ .releasing := by
    unfold Dock.settledState
    (repeat' split) <;> nofun
  simp [Dock.settle, settled]

@[simp] theorem Dock.forMember_initial (t : Millis) : (Dock.initial t).forMember = false := rfl

/-- A dock replaced, counted with what it was and what it is. -/
theorem Du.memberReleases_setDock (d : Du) {n : Nat} (k : Dock) (hn : 1 ≤ n ∧ n ≤ 24) :
    (d.setDock n k).memberReleases + (if (d.dock n).forMember then 1 else 0) =
      d.memberReleases + (if k.forMember then 1 else 0) := by
  have hlt : n - 1 < d.docks.toList.length := by simp; omega
  have held : (d.dock n).forMember = true → 1 ≤ d.docks.toList.countP Dock.forMember := by
    intro h
    refine List.countP_pos_iff.mpr ⟨d.dock n, ?_, h⟩
    simp [Du.dock, hn]
  rw [Du.memberReleases_eq, Du.memberReleases_eq, Du.setDock, dif_pos hn, Vector.toList_set, List.countP_set hlt]
  have same : d.docks.toList[n - 1] = d.dock n := by simp [Du.dock, hn]
  rw [same]
  split
  · have := held ‹_›
    omega
  · omega

theorem Du.setDock_outside (d : Du) {n : Nat} (k : Dock) (hn : ¬ (1 ≤ n ∧ n ≤ 24)) : d.setDock n k = d := by
  rw [Du.setDock, dif_neg hn]

/-- A dock replaced by one released for a member only where it was keeps the number of member releases from rising. -/
theorem Du.memberReleases_setDock_le (d : Du) (n : Nat) (k : Dock) (hk : k.forMember = true → (d.dock n).forMember = true) :
    (d.setDock n k).memberReleases ≤ d.memberReleases := by
  by_cases hn : 1 ≤ n ∧ n ≤ 24
  · have := d.memberReleases_setDock k hn
    split at this
    · split at this <;> omega
    · rw [if_neg fun e => ‹¬ _› (hk e)] at this
      omega
  · rw [d.setDock_outside k hn]

/-- Every dock's resting lamp worked out anew leaves the releases. -/
theorem Du.memberReleases_refreshed (d e : Du) :
    ({ d with docks := d.docks.map (Dock.refresh e) } : Du).memberReleases = d.memberReleases := by
  simp only [Du.memberReleases_eq, Vector.toList_map, List.countP_map]
  congr 1
  funext k
  exact k.forMember_refresh e

/-! ### The need score (R126) -/

theorem clampInt_within (lo hi x : Int) (h : lo ≤ hi) : lo ≤ clampInt lo hi x ∧ clampInt lo hi x ≤ hi := by
  unfold clampInt
  omega

namespace State.BoundedOwing
variable {s : State} {owing : Nat}

theorem recomputeNeed (h : s.BoundedOwing owing) : s.recomputeNeed.BoundedOwing owing := by
  unfold State.recomputeNeed
  split
  · exact h
  · exact h.setBu { h.bu with
      rawNeed := clampInt_within _ _ _ (by decide), published := clampInt_within _ _ _ (by decide) }

theorem announced (h : s.BoundedOwing owing) (before : State) : (s.announced before).BoundedOwing owing := by
  unfold State.announced
  split
  · exact h
  · exact h.recomputeNeed

/-! ### The dock table -/

theorem putDock (h : s.BoundedOwing owing) (n : Nat) {k : Dock} (hk : k.forMember = true → (s.dock n).forMember = true) :
    (s.putDock n k).BoundedOwing owing :=
  h.setDu (by rw [(s.du.setDock_frame n k).1]; exact h.bikes) (s.du.memberReleases_setDock_le n k hk)

/-- A dock changed without becoming released for a member. -/
theorem updateDock (h : s.BoundedOwing owing) (n : Nat) {f : Dock → Dock}
    (hf : (f (s.dock n)).forMember = true → (s.dock n).forMember = true) : (s.updateDock n f).BoundedOwing owing :=
  State.BoundedOwing.announced (h.putDock n (by simpa using hf)) s

theorem setBikes (h : s.BoundedOwing owing) {l : List BikeStatus} (hl : BikesBounded l) (drops : Nat) :
    (s.setBikes l drops).BoundedOwing owing :=
  State.BoundedOwing.announced (h.setDu (by exact hl) (by exact (Du.memberReleases_refreshed _ _).le)) s

theorem setSession (h : s.BoundedOwing owing) {ss : Session} (hs : ss.Bounded) : (s.setSession ss).BoundedOwing owing :=
  h.setBu { h.bu with session := fun _ e => Option.some.inj e ▸ hs }

/-! ### The bike status list (R60 to R62) -/

end State.BoundedOwing

/-- An entry changed in its place keeps its bike. -/
theorem BikesBounded.updateFirst {l : List BikeStatus} (h : BikesBounded l) (p : BikeStatus → Bool) {f : BikeStatus → BikeStatus}
    (hf : ∀ e, (f e).bike = e.bike) : BikesBounded (updateFirst p f l) :=
  ⟨by rw [length_updateFirst]; exact h.length, by rw [map_updateFirst _ _ _ fun e _ => hf e]; exact h.once⟩

theorem BikesBounded.sublist {l k : List BikeStatus} (h : BikesBounded l) (e : k.Sublist l) : BikesBounded k :=
  ⟨e.length_le.trans h.length, (e.map _).nodup h.once⟩

/-- The list with room for an entry is shorter than 64, and has no entry that the list has not (R62). -/
theorem roomForBike_spec {l : List BikeStatus} (h : l.length ≤ 64) : (roomForBike l).Sublist l ∧ (roomForBike l).length < 64 := by
  unfold roomForBike
  split
  · exact ⟨List.Sublist.refl _, ‹_›⟩
  · split
    · rename_i lacking
      obtain ⟨e, he, hp⟩ := List.any_eq_true.mp lacking
      have : (l.eraseP fun e => e.quarantine.isNone).length + 1 = l.length := List.length_eraseP_add_one he hp
      exact ⟨List.eraseP_sublist, by omega⟩
    · exact ⟨List.drop_sublist _ _, by simp; omega⟩

namespace State.BoundedOwing
variable {s : State} {owing : Nat}

theorem setBikePart (h : s.BoundedOwing owing) (b : Bike) {f : BikeStatus → BikeStatus} (hf : ∀ e, (f e).bike = e.bike) :
    (s.setBikePart b f).BoundedOwing owing := by
  unfold State.setBikePart
  split
  · exact h.setBikes (h.bikes.updateFirst _ hf) _
  · rename_i new
    obtain ⟨kept, room⟩ := roomForBike_spec h.bikes.length
    refine h.setBikes ⟨by simp; omega, ?_⟩ _
    rw [List.map_append]
    refine nodup_snoc (h.bikes.sublist kept).once fun m => new ?_
    obtain ⟨e, he, hb⟩ := List.mem_map.mp m
    exact List.any_eq_true.mpr ⟨e, kept.subset he, by simpa [hf] using hb⟩

theorem clearBikePart (h : s.BoundedOwing owing) (b : Bike) {f : BikeStatus → BikeStatus} (hf : ∀ e, (f e).bike = e.bike) :
    (s.clearBikePart b f).BoundedOwing owing :=
  h.setBikes ((h.bikes.updateFirst _ hf).sublist List.filter_sublist) _

theorem setMissing (h : s.BoundedOwing owing) (b : Bike) (n : Node) (t : Time) : (s.setMissing b n t).BoundedOwing owing :=
  h.setBikePart b fun _ => rfl

theorem removeMissing (h : s.BoundedOwing owing) (b : Bike) : (s.removeMissing b).BoundedOwing owing :=
  h.clearBikePart b fun _ => rfl

theorem removeQuarantine (h : s.BoundedOwing owing) (b : Bike) : (s.removeQuarantine b).BoundedOwing owing :=
  h.clearBikePart b fun _ => rfl

theorem abandonForQuarantine (h : s.BoundedOwing owing) (b : Bike) (n : Nat) :
    (s.abandonForQuarantine b n).BoundedOwing owing := by
  unfold State.abandonForQuarantine
  split
  · refine h.updateDock n fun e => absurd e ?_
    simp [Dock.show, Dock.forMember, Dock.endRelease]
  · exact h

theorem setQuarantine (h : s.BoundedOwing owing) (b : Bike) (i : Ident) (v : Nat) : (s.setQuarantine b i v).BoundedOwing owing := by
  unfold State.setQuarantine
  exact State.BoundedOwing.foldl (fun _ n ht => ht.abandonForQuarantine b n) _ (h.setBikePart b fun _ => rfl)

end State.BoundedOwing
end Sys2Proof.Machine
end

section
/-!
PROOFS. What keeps the settlement queue, the hold list and the law of R71 within their bounds (R66, R71, R149, R150).
-/
namespace Sys2Proof.Machine
open Sys2Proof

/-! ### Posting (R149, R150) -/

theorem CapacityLaw.congr_sq {n o r : Nat} {st : StartState} {q p : Sq} (h : CapacityLaw n q o r st) (hq : p.queue = q.queue)
    (hl : p.leaving = q.leaving) : CapacityLaw n p o r st where
  capacity := by
    have := h.capacity
    rwa [Sq.moneyInUse, hq, hl]
  owned := h.owned
  queue := hq ▸ h.queue
  notes := hq ▸ h.notes
  cleared := fun e => hl ▸ h.cleared e

namespace State.BoundedOwing
variable {s : State} {owing : Nat}

/-- A note takes no money slot, and its limit leaves room for the money records to come (R150). -/
theorem postNote (h : s.BoundedOwing owing) {body : RecordBody} (hb : body.isMoney = false) :
    (s.postNote body).BoundedOwing owing := by
  unfold State.postNote
  split
  · rename_i room
    refine State.BoundedOwing.evaluateSettlement (State.BoundedOwing.mark (h.setSq ?_) .counters)
    have note : (s.newRecord body none 0).isMoney = false := hb
    exact { h.law with
      capacity := by simpa [Sq.moneyInUse, List.countP_append, note] using h.law.capacity
      queue := by
        unfold State.noteLimit at room
        simp only [List.length_append, List.length_singleton]
        omega
      notes := by
        intro r hr
        obtain hr | hr := List.mem_append.mp hr
        · exact h.law.notes r hr
        · rw [List.mem_singleton.mp hr]
          exact fun _ => rfl }
  · exact h.setSq (h.law.congr_sq rfl rfl)

end State.BoundedOwing

/-- A queue that holds money records only counts them all. -/
theorem countP_isMoney_of_no_notes {q : List SettlementRecord} (h : (q.any fun r => !r.isMoney) = false) :
    q.countP (·.isMoney) = q.length := by
  rw [List.countP_eq_length]
  simpa using h

theorem countP_isMoney_eraseP (q : List SettlementRecord) :
    (q.eraseP fun r => !r.isMoney).countP (·.isMoney) = q.countP (·.isMoney) := by
  induction q with
  | nil => rfl
  | cons r q ih =>
    cases hr : r.isMoney <;> simp [hr, ih]

/-- The queue a money record is added to: from a full one the oldest note makes way (R149). -/
def keptForMoney (q : List SettlementRecord) : List SettlementRecord :=
  if decide (64 ≤ q.length) && q.any fun r => !r.isMoney then q.eraseP fun r => !r.isMoney else q

theorem State.postMoney_sq (s : State) (body : RecordBody) (slot : Nat) :
    (s.postMoney body slot).sq.queue =
      keptForMoney s.sq.queue ++ [s.newRecord body (lowestFree 64 s.sq.slotsInUse) slot] ∧
    (s.postMoney body slot).sq.leaving = s.sq.leaving := by
  unfold State.postMoney
  dsimp only
  split <;> simp [keptForMoney, *]

theorem keptForMoney_sublist (q : List SettlementRecord) : (keptForMoney q).Sublist q := by
  unfold keptForMoney
  split
  · exact List.eraseP_sublist
  · exact List.Sublist.refl _

theorem countP_isMoney_keptForMoney (q : List SettlementRecord) : (keptForMoney q).countP (·.isMoney) = q.countP (·.isMoney) := by
  unfold keptForMoney
  split
  · exact countP_isMoney_eraseP q
  · rfl

/-- A queue of at most 64 records, not all of them money records, has room for one more. -/
theorem length_keptForMoney {q : List SettlementRecord} (h : q.length ≤ 64) (hm : q.countP (·.isMoney) < 64) :
    (keptForMoney q).length < 64 := by
  unfold keptForMoney
  split
  · rename_i evicts
    obtain ⟨x, hx, hp⟩ := List.any_eq_true.mp ((Bool.and_eq_true _ _ ▸ evicts).2)
    have : (q.eraseP fun r => !r.isMoney).length + 1 = q.length := List.length_eraseP_add_one hx hp
    omega
  · rename_i stays
    by_cases full : 64 ≤ q.length
    · have := countP_isMoney_of_no_notes (q := q) (by simpa [full] using stays)
      omega
    · omega

/-- A money record posted: one money slot more is in use, and what else the law speaks of stays (R149). -/
theorem State.postMoney_law {s : State} {owing o r : Nat} {st : StartState} (h : CapacityLaw owing s.sq o r st) {body : RecordBody}
    (hb : body.isMoney = true) (room : s.sq.moneyInUse < 64) (slot : Nat) :
    CapacityLaw (owing + 1) (s.postMoney body slot).sq o r st ∧
      (s.postMoney body slot).sq.moneyInUse = s.sq.moneyInUse + 1 := by
  obtain ⟨hq, hl⟩ := s.postMoney_sq body slot
  have money : (s.newRecord body (lowestFree 64 s.sq.slotsInUse) slot).isMoney = true := hb
  have inUse : (s.postMoney body slot).sq.moneyInUse = s.sq.moneyInUse + 1 := by
    rw [Sq.moneyInUse, Sq.moneyInUse, hq, hl, List.countP_append, countP_isMoney_keptForMoney]
    simp [money]
    omega
  refine ⟨{ h with capacity := ?_, queue := ?_, notes := ?_, cleared := fun e => hl ▸ h.cleared e }, inUse⟩
  · have := h.capacity
    omega
  · have := length_keptForMoney h.queue (by unfold Sq.moneyInUse at room; omega)
    rw [hq, List.length_append, List.length_singleton]
    omega
  · intro x hx note
    obtain hx | hx := List.mem_append.mp (hq ▸ hx)
    · exact h.notes x ((keptForMoney_sublist _).subset hx) note
    · rw [List.mem_singleton.mp hx, money] at note
      cases note

namespace State.BoundedOwing
variable {s : State} {owing : Nat}

/-- A money record posted is counted beside the hire it ends, until that is removed (R78, R87). -/
theorem postMoney (h : s.BoundedOwing owing) {body : RecordBody} (hb : body.isMoney = true) (room : s.sq.moneyInUse < 64)
    (slot : Nat) : (s.postMoney body slot).BoundedOwing (owing + 1) where
  slc := by simpa using h.slc
  bikes := by simpa using h.bikes
  hu := by simpa using h.hu
  spend := by simpa using h.spend
  log := by simpa using h.log
  bu := by simpa using h.bu
  law := by simpa using (State.postMoney_law h.law hb room slot).1

/-- The hires whose money records were counted beside them removed: the law holds as it did before. -/
theorem setOwned_paid (h : s.BoundedOwing owing) {l : List OwnedHire} (hl : l.length ≤ s.hu.owned.length)
    (paid : s.sq.moneyInUse + l.length + s.du.memberReleases ≤ 64) : (s.setOwned l).Bounded :=
  { h with hu := { h.hu with }, law := { h.law.mono hl le_rfl id with capacity := paid } }

/-! ### The hold list (R66 to R69) -/

theorem setHolds (h : s.BoundedOwing owing) {l : List Hold} (hl : l.length ≤ 256)
    (hn : (l.map fun x => (x.card, x.reason)).Nodup) : (s.setHolds l).BoundedOwing owing :=
  h.setHu { h.hu with holds := hl, holdsOnce := hn } le_rfl

theorem roomForHold (h : s.BoundedOwing owing) : s.roomForHold.BoundedOwing owing := by
  unfold State.roomForHold
  split
  · rename_i first rest held
    have sub : rest.Sublist s.hu.holds := held ▸ List.sublist_cons_self _ _
    split
    · exact h
    · exact State.BoundedOwing.mark (h.setHu (by exact { h.hu with
        holds := sub.length_le.trans h.hu.holds, holdsOnce := (sub.map _).nodup h.hu.holdsOnce }) (by exact le_rfl)) _
  · exact h

end State.BoundedOwing

/-- After room is made there are fewer than 256 holds, each of which stood in the list. -/
theorem State.roomForHold_holds {s : State} (h : s.hu.holds.length ≤ 256) :
    s.roomForHold.hu.holds.Sublist s.hu.holds ∧ s.roomForHold.hu.holds.length < 256 := by
  unfold State.roomForHold
  split
  · rename_i first rest held
    split
    · exact ⟨List.Sublist.refl _, ‹_›⟩
    · rw [held] at h ⊢
      exact ⟨List.sublist_cons_self _ _, by simpa using h⟩
  · rename_i empty
    simp [empty]

namespace State.BoundedOwing
variable {s : State} {owing : Nat}

/-- A hold made for a pair of card and reason that the list has not (R66). -/
theorem makeHold (h : s.BoundedOwing owing) {c : Card} {r : HoldReason} (i : Ident)
    (hn : (c, r) ∉ s.hu.holds.map fun x => (x.card, x.reason)) : (s.makeHold c r i).BoundedOwing owing := by
  obtain ⟨sub, room⟩ := State.roomForHold_holds h.hu.holds
  refine State.BoundedOwing.mark (h.roomForHold.setHolds (by simp; omega) ?_) _
  rw [List.map_append]
  exact nodup_snoc h.roomForHold.hu.holdsOnce fun m => hn ((sub.map _).subset m)

theorem refreshHold (h : s.BoundedOwing owing) (x : Hold) : (s.refreshHold x).BoundedOwing owing :=
  State.BoundedOwing.mark (h.setHolds (by rw [length_updateFirst]; exact h.hu.holds)
    (by rw [map_updateFirst _ _ _ (by exact fun _ _ => rfl)]; exact h.hu.holdsOnce)) _

theorem useHoldSerial (h : s.BoundedOwing owing) : s.useHoldSerial.BoundedOwing owing :=
  State.BoundedOwing.mark (h.setHu (by exact { h.hu with }) (by exact le_rfl)) _

end State.BoundedOwing

/-- Where no hold is found for a pair, the list has none. -/
theorem hold_not_listed {l : List Hold} {c : Card} {r : HoldReason} (h : l.find? (fun x => x.isFor c r) = none) :
    (c, r) ∉ l.map fun x => (x.card, x.reason) := by
  intro m
  obtain ⟨x, hx, e⟩ := List.mem_map.mp m
  have := List.find?_eq_none.mp h x hx
  simp_all [Hold.isFor]

namespace State.BoundedOwing
variable {s : State} {owing : Nat}

theorem placeHold (h : s.BoundedOwing owing) (c : Card) (r : HoldReason) : (s.placeHold c r).1.BoundedOwing owing := by
  unfold State.placeHold
  split
  · exact (h.refreshHold _).flood _
  · exact (h.useHoldSerial.makeHold _ (hold_not_listed ‹_›)).flood _

theorem takeCardHold (h : s.BoundedOwing owing) (i : Ident) (c : Card) (r : HoldReason) :
    (s.takeCardHold i c r).BoundedOwing owing := by
  unfold State.takeCardHold
  split
  · exact h.refreshHold _
  · exact h.makeHold _ (hold_not_listed ‹_›)

theorem liftHolds (h : s.BoundedOwing owing) (c : Card) (r : Option HoldReason) : (s.liftHolds c r).BoundedOwing owing :=
  State.BoundedOwing.foldl_mark (fun x : Hold => Slot.hold x.slot) _
    (h.setHolds ((List.length_filter_le _ _).trans h.hu.holds) ((List.filter_sublist.map _).nodup h.hu.holdsOnce))

end State.BoundedOwing
end Sys2Proof.Machine
end

section
/-!
PROOFS. What keeps the hire unit's lists, the day spend table and the law of R71 within their bounds (R71 to R88, R98).
-/
namespace Sys2Proof.Machine
open Sys2Proof

/-! ### The day spend table (R98) -/

theorem leastSpent_mem {l : List DaySpend} (h : l ≠ []) : ∃ e ∈ l, e.spent = leastSpent l := by
  induction l with
  | nil => exact absurd rfl h
  | cons a rest ih =>
    cases rest with
    | nil => exact ⟨a, by simp, rfl⟩
    | cons b rest =>
      obtain ⟨e, he, least⟩ := ih nofun
      rw [leastSpent]
      obtain low | low := Nat.le_total a.spent (leastSpent (b :: rest))
      · exact ⟨a, by simp, (Nat.min_eq_left low).symm⟩
      · exact ⟨e, List.mem_cons_of_mem _ he, least.trans (Nat.min_eq_right low).symm⟩
      · exact nofun

/-- An amount added keeps the table within its bounds: a card not in a full table takes the place of one that spent least. -/
theorem SpendBounded.addSpend {l : List DaySpend} (h : SpendBounded l) (c : Card) (n : Cents) :
    SpendBounded (addSpend l c n) := by
  have length := h.length
  unfold Machine.addSpend
  split
  · exact h
  · split
    · exact ⟨by rw [length_updateFirst]; exact h.length, by rw [map_updateFirst _ _ _ (by exact fun _ _ => rfl)]; exact h.once⟩
    · rename_i new
      have snoc {k : List DaySpend} (hk : k.Sublist l) (room : k.length < 32) :
          SpendBounded (k ++ [{ card := c, spent := n }]) := by
        refine ⟨by simp; omega, ?_⟩
        rw [List.map_append]
        refine nodup_snoc ((hk.map _).nodup h.once) fun m => new ?_
        obtain ⟨e, he, hc⟩ := List.mem_map.mp m
        exact List.any_eq_true.mpr ⟨e, hk.subset he, by simpa using hc⟩
      split
      · exact snoc (List.Sublist.refl _) ‹_›
      · obtain ⟨e, he, least⟩ := leastSpent_mem (l := l) (by rintro rfl; simp at *)
        have : (l.eraseP fun e => decide (e.spent = leastSpent l)).length + 1 = l.length :=
          List.length_eraseP_add_one he (by simpa using least)
        exact snoc List.eraseP_sublist (by omega)

/-! ### What the hire unit's operations leave of the owned hires and the member releases -/

@[simp] theorem State.pushSettled_owned (s : State) (o : OwnedFields) (e : Option (Node × Time)) (r : HireOutcome) :
    (s.pushSettled o e r).hu.owned = s.hu.owned := rfl

@[simp] theorem State.setOwned_owned (s : State) (l : List OwnedHire) : (s.setOwned l).hu.owned = l := rfl

@[simp] theorem State.setMissing_memberReleases (s : State) (b : Bike) (n : Node) (t : Time) :
    (s.setMissing b n t).du.memberReleases = s.du.memberReleases := by
  have refreshed (l : List BikeStatus) (drops : Nat) : (s.setBikes l drops).du.memberReleases = s.du.memberReleases := by
    rw [State.setBikes, State.announced_du]
    exact Du.memberReleases_refreshed _ _
  unfold State.setMissing State.setBikePart
  split <;> exact refreshed _ _

namespace State.BoundedOwing
variable {s : State} {owing : Nat}

/-! ### The settled list (R82) -/

theorem setSettled (h : s.BoundedOwing owing) {l : List SettledHire} (hl : l.length ≤ 32) :
    (s.setSettled l).BoundedOwing owing := h.setHu { h.hu with settled := hl } le_rfl

theorem pushSettled (h : s.BoundedOwing owing) (o : OwnedFields) (e : Option (Node × Time)) (r : HireOutcome) :
    (s.pushSettled o e r).BoundedOwing owing := h.setSettled (length_pushBounded _ _ _ h.hu.settled (by decide))

/-! ### Hires that end and convert (R78, R87) -/

/-- An owned hire that ends gives its place under the law to its money record. -/
theorem closeOwned (h : s.Bounded) {o : OwnedHire} (ho : o ∈ s.hu.owned) (t : Time) (n : Node) (g : Nat) :
    (s.closeOwned o t n g).Bounded := by
  have fewer : (s.hu.owned.filter fun x => !decide (x.fields.serial = o.fields.serial)).length < s.hu.owned.length :=
    List.length_filter_lt_length_iff_exists.mpr ⟨o, ho, by simp⟩
  have capacity := h.law.capacity
  have charged : (s.setFu { s.fu with
      spend := addSpend s.fu.spend o.fields.card (priceHire (s.questionOf o.fields t n g)).capped }).Bounded :=
    h.setFu (h.spend.addSpend _ _)
  have room : s.sq.moneyInUse < 64 := by omega
  unfold State.closeOwned
  refine State.BoundedOwing.flood (State.BoundedOwing.mark ((((charged.postMoney rfl room _).pushSettled _ _ _).setOwned_paid ?_
    ?_)) _) _
  · simpa using fewer.le
  · have posted (body : RecordBody) (hb : body.isMoney = true) := (State.postMoney_law charged.law hb room o.slot).2
    simp only [State.pushSettled_frame, State.postMoney_frame, State.pushSettled_owned]
    rw [posted _ rfl]
    simp only [State.setFu_sq, State.setFu_hu, State.setFu_du]
    omega

/-- One owned hire converted: its money record stands for it, and no dock is released. -/
theorem convertOverdue (h : s.Bounded) (o : OwnedHire) (room : s.sq.moneyInUse < 64)
    (paid : s.sq.moneyInUse + 1 + (s.convertOverdue o).hu.owned.length + s.du.memberReleases ≤ 64) :
    (s.convertOverdue o).Bounded := by
  rw [State.convertOverdue_owned] at paid
  unfold State.convertOverdue
  refine State.BoundedOwing.mark (((((h.postMoney rfl room _).placeHold _ _).setMissing _ _ _).pushSettled _ _ _).setOwned_paid ?_
    ?_) _
  · simpa using List.length_filter_le _ _
  · have posted := (State.postMoney_law (body := overdueBody s.node o) h.law rfl room o.slot).2
    simpa [overdueBody] using posted ▸ paid

end State.BoundedOwing

theorem State.convertOverdue_moneyInUse {s : State} (h : s.Bounded) (o : OwnedHire) (room : s.sq.moneyInUse < 64) :
    (s.convertOverdue o).sq.moneyInUse = s.sq.moneyInUse + 1 := by
  simpa [State.convertOverdue, overdueBody] using (State.postMoney_law (body := overdueBody s.node o) h.law rfl room o.slot).2

theorem State.convertOverdue_memberReleases (s : State) (o : OwnedHire) :
    (s.convertOverdue o).du.memberReleases = s.du.memberReleases := by
  simp [State.convertOverdue]

/-- Of a list without some of its entries' serials at least those entries are gone. -/
theorem length_without_serials {l done : List OwnedHire} (h : done.Sublist l) :
    (l.filter fun o => !done.any fun x => decide (x.fields.serial = o.fields.serial)).length + done.length ≤ l.length := by
  have split := List.length_eq_length_filter_add (l := l) fun o => done.any fun x => decide (x.fields.serial = o.fields.serial)
  have all : (done.filter fun o => done.any fun x => decide (x.fields.serial = o.fields.serial)) = done :=
    List.filter_eq_self.mpr fun o ho => List.any_eq_true.mpr ⟨o, ho, by simp⟩
  have gone := (h.filter fun o => done.any fun x => decide (x.fields.serial = o.fields.serial)).length_le
  rw [all] at gone
  omega

/-- Owned hires of the table converted one after another (R87): each that has been converted has given its place under the law to its money
record, whether or not a later one had its serial. -/
theorem State.Bounded.foldl_convertOverdue {s : State} (h : s.Bounded) {l : List OwnedHire} (hl : l.Sublist s.hu.owned) :
    (l.foldl State.convertOverdue s).Bounded ∧
      (l.foldl State.convertOverdue s).sq.moneyInUse = s.sq.moneyInUse + l.length ∧
      (l.foldl State.convertOverdue s).du.memberReleases = s.du.memberReleases := by
  have capacity := h.law.capacity
  induction l using List.reverseRecOn with
  | nil => exact ⟨h, rfl, rfl⟩
  | append_singleton done o ih =>
    obtain ⟨bounded, money, releases⟩ := ih ((List.sublist_append_left _ _).trans hl)
    have gone := length_without_serials hl
    have length := hl.length_le
    rw [List.length_append, List.length_singleton] at gone length
    have room : (done.foldl State.convertOverdue s).sq.moneyInUse < 64 := by omega
    have owned := State.foldl_convertOverdue_owned (done ++ [o]) s
    rw [List.foldl_append, List.foldl_cons, List.foldl_nil] at owned ⊢
    refine ⟨State.BoundedOwing.convertOverdue bounded o room ?_, ?_, ?_⟩
    · rw [owned, money, releases]
      omega
    · rw [State.convertOverdue_moneyInUse bounded o room, money, List.length_append, List.length_singleton, Nat.add_assoc]
    · rw [State.convertOverdue_memberReleases, releases]

end Sys2Proof.Machine
end

section
/-!
PROOFS. What keeps the activity ring, the claim list and a service session within their bounds (R125 to R134).
-/
namespace Sys2Proof.Machine
open Sys2Proof

/-! ### The bounds of a session -/

/-- The bounds of a session say nothing of its closing and of its idle timer. -/
theorem Session.Bounded.touched {ss : Session} (h : ss.Bounded) (closing : Bool) (t : Millis) :
    { ss with closing := closing, idleStart := t }.Bounded := { h with }

/-- A session just opened (R129). -/
theorem Session.Bounded.fresh (van : Node) (t : Millis) {allowance : Nat} (h : allowance ≤ 96) :
    Session.Bounded { van := van, closing := false, allowanceAtOpen := allowance, allowance := allowance, collected := [],
                      expected := [], delivered := [], inFlight := [], recent := [], idleStart := t } where
  allowanceAtOpen := h
  allowance := le_rfl
  collectedOnce := List.nodup_nil
  taken := Nat.zero_le _
  expectedOnce := List.nodup_nil
  deliveredOnce := List.nodup_nil
  announced := Nat.zero_le _
  recent := Nat.zero_le _

/-- A bike added to a list that has no bike twice, unless it is in it. -/
theorem addedOnce {l : List Bike} (h : l.Nodup) (b : Bike) :
    (if b ∈ l then l else l ++ [b]).Nodup ∧ (if b ∈ l then l else l ++ [b]).length ≤ l.length + 1 := by
  split
  · exact ⟨h, by omega⟩
  · exact ⟨nodup_snoc h ‹_›, by simp⟩

theorem length_eraseP_of_find? {α : Type} {l : List α} {p : α → Bool} {a : α} (h : l.find? p = some a) :
    (l.eraseP p).length + 1 = l.length := List.length_eraseP_add_one (List.mem_of_find?_eq_some h) (List.find?_some h)

/-- A take that ends without its bike (R131). -/
theorem Session.Bounded.takeLapsed {ss : Session} (h : ss.Bounded) (p : TakeInFlight → Bool) (t : Millis) :
    { ss with inFlight := ss.inFlight.eraseP p, idleStart := t }.Bounded :=
  { h with taken := by have := h.taken; have := (List.eraseP_sublist (p := p) (l := ss.inFlight)).length_le; dsimp only; omega }

/-- A take that ends with its bike: the bike takes the place of the take (R131). -/
theorem Session.Bounded.takeRecorded {ss : Session} (h : ss.Bounded) {p : TakeInFlight → Bool} {f : TakeInFlight}
    (hf : ss.inFlight.find? p = some f) (b : Bike) (t : Millis) :
    { ss with
      collected := if b ∈ ss.collected then ss.collected else ss.collected ++ [b],
      allowance := if f.counted then ss.allowance - 1 else ss.allowance,
      inFlight := ss.inFlight.eraseP p, idleStart := t }.Bounded where
  __ := h
  allowance := by
    have := h.allowance
    dsimp only
    split <;> omega
  collectedOnce := (addedOnce h.collectedOnce b).1
  taken := by
    have := h.taken
    have := (addedOnce h.collectedOnce b).2
    have := length_eraseP_of_find? hf
    dsimp only
    omega

/-- A delivery moves its bike from the one list to the other (R132). -/
theorem Session.Bounded.bikeDelivered {ss : Session} (h : ss.Bounded) {b : Bike} (hb : b ∈ ss.expected) (t : Millis) :
    { ss with
      expected := ss.expected.erase b, delivered := if b ∈ ss.delivered then ss.delivered else ss.delivered ++ [b],
      idleStart := t }.Bounded where
  __ := h
  expectedOnce := h.expectedOnce.erase b
  deliveredOnce := (addedOnce h.deliveredOnce b).1
  announced := by
    have := h.announced
    have := (addedOnce h.deliveredOnce b).2
    have := List.length_erase_add_one hb
    dsimp only
    omega

/-- The expected-delivery list grows to 24 with the delivered one, and holds no bike twice (R132). -/
theorem expectBikes_bounded (delivered bikes : List Bike) {expected : List Bike} (hn : expected.Nodup)
    (hl : expected.length + delivered.length ≤ 24) :
    (expectBikes expected delivered bikes).Nodup ∧ (expectBikes expected delivered bikes).length + delivered.length ≤ 24 := by
  induction bikes generalizing expected with
  | nil => exact ⟨hn, hl⟩
  | cons b bikes ih =>
    unfold expectBikes
    split
    · exact ih hn hl
    · rename_i fresh
      obtain ⟨new, room⟩ := not_or.mp fresh
      exact ih (nodup_snoc hn new) (by rw [List.length_append, List.length_singleton]; omega)

/-- A recent take answer pushed (R130). -/
theorem Session.Bounded.answered {ss : Session} (h : ss.Bounded) (r : RecentTake) (t : Millis) :
    { ss with recent := pushBounded 8 ss.recent r, idleStart := t }.Bounded :=
  { h with recent := length_pushBounded _ _ _ h.recent (by decide) }

/-- A take granted goes in flight where fewer than 24 bikes are taken (R130). -/
theorem Session.Bounded.taking {ss : Session} (h : ss.Bounded) (room : ss.collected.length + ss.inFlight.length < 24)
    (f : TakeInFlight) (r : RecentTake) (t : Millis) :
    { ss with inFlight := ss.inFlight ++ [f], recent := pushBounded 8 ss.recent r, idleStart := t }.Bounded where
  __ := h
  taken := by
    simp only [List.length_append, List.length_singleton]
    omega
  recent := length_pushBounded _ _ _ h.recent (by decide)

/-! ### Claims (R126 to R129) -/

/-- The bounds of a station's claim list. -/
structure ClaimsBounded (l : List StationClaim) : Prop where
  length : l.length ≤ 4
  once : (l.map (·.id)).Nodup
  grants : ∀ c ∈ l, 1 ≤ c.granted ∧ c.granted ≤ 24

theorem Bu.Bounded.claimsBounded {b : Bu} (h : b.Bounded) : ClaimsBounded b.claims := ⟨h.claims, h.claimsOnce, h.grants⟩

theorem ClaimsBounded.sublist {l k : List StationClaim} (h : ClaimsBounded l) (e : k.Sublist l) : ClaimsBounded k :=
  ⟨e.length_le.trans h.length, (e.map _).nodup h.once, fun c hc => h.grants c (e.subset hc)⟩

theorem sum_le_of_forall_le {l : List Nat} {n : Nat} (h : ∀ x ∈ l, x ≤ n) : l.sum ≤ l.length * n := by
  simpa using List.sum_le_card_nsmul l n h

/-- The allowance of a session is the grants of at most four claims (R129). -/
theorem Bu.Bounded.collectAllowance {b : Bu} (h : b.Bounded) (van : Node) : b.collectAllowance van ≤ 96 := by
  have sub : ((b.claims.filter fun c => decide (c.id.node = van)).filter fun c => decide (c.action = .collect)).Sublist b.claims :=
    List.filter_sublist.trans List.filter_sublist
  have sum := sum_le_of_forall_le (n := 24)
    (l := ((b.claims.filter fun c => decide (c.id.node = van)).filter fun c => decide (c.action = .collect)).map (·.granted)) (by
      intro x hx
      obtain ⟨c, hc, rfl⟩ := List.mem_map.mp hx
      exact (h.grants c (sub.subset hc)).2)
  have := sub.length_le
  have := h.claims
  rw [List.length_map] at sum
  unfold Bu.collectAllowance grantedTotal
  omega

namespace State.BoundedOwing
variable {s : State} {owing : Nat}

theorem sessionBounded (h : s.BoundedOwing owing) {ss : Session} (hs : s.bu.session = some ss) : ss.Bounded := h.bu.session ss hs

theorem countActivity (h : s.BoundedOwing owing) (out : Bool) : (s.countActivity out).BoundedOwing owing := by
  unfold State.countActivity
  split
  · exact h
  · rename_i bin rest ring
    have length : rest.length + 1 = 12 := by simpa [ring] using h.bu.ring
    exact State.BoundedOwing.recomputeNeed (h.setBu (by exact { h.bu with ring := length }))

theorem setClaims (h : s.BoundedOwing owing) {l : List StationClaim} (hl : ClaimsBounded l) : (s.setClaims l).BoundedOwing owing :=
  State.BoundedOwing.recomputeNeed (h.setBu (by exact
    { h.bu with claims := hl.length, claimsOnce := hl.once, grants := hl.grants }))

/-! ### The session's end (R133) -/

theorem endSession (h : s.BoundedOwing owing) (ss : Session) : (s.endSession ss).BoundedOwing owing := by
  unfold State.endSession
  have noted := State.BoundedOwing.postNote (body := .session ss.van s.node ss.collected ss.delivered ss.expected)
    (h.originate (.sessionSummary ss.summary) ss.van) rfl
  have consumed := noted.setClaims (noted.bu.claimsBounded.sublist
    (List.filter_sublist (p := fun c => !decide (c.id.node = ss.van))))
  exact consumed.setBu { consumed.bu with session := nofun }

theorem endIfDone (h : s.BoundedOwing owing) : s.endIfDone.BoundedOwing owing := by
  unfold State.endIfDone
  split
  · split
    · exact h.endSession _
    · exact h
  · exact h

theorem touchSession (h : s.BoundedOwing owing) (van : Node) : (s.touchSession van).BoundedOwing owing := by
  unfold State.touchSession
  split
  · split
    · exact h.setSession ((h.sessionBounded ‹_›).touched _ _)
    · exact h
  · exact h

/-! ### Releases to the van (R131) -/

theorem releaseLapsed (h : s.BoundedOwing owing) (d : Nat) : (s.releaseLapsed d).BoundedOwing owing := by
  unfold State.releaseLapsed
  split
  · exact h
  · split
    · exact h
    · exact ((h.setSession ((h.sessionBounded ‹_›).takeLapsed _ _)).originate _ _).endIfDone

theorem collectFaults (h : s.BoundedOwing owing) (b : Bike) : (s.collectFaults b).BoundedOwing owing :=
  h.setFlt (by simpa using h.log)

theorem takeRecorded (h : s.BoundedOwing owing) (d : Nat) (b : Bike) : (s.takeRecorded d b).BoundedOwing owing := by
  unfold State.takeRecorded
  split
  · exact h
  · split
    · exact h
    · have recorded := h.setSession ((h.sessionBounded ‹_›).takeRecorded ‹_› b s.timebase)
      dsimp only
      split
      · exact ((recorded.collectFaults b).originate _ _).endIfDone
      · exact (recorded.originate _ _).endIfDone

theorem delivery (h : s.BoundedOwing owing) {b : Bike} {t : State} (ht : s.delivery b = some t) : t.BoundedOwing owing := by
  unfold State.delivery at ht
  split at ht
  · cases ht
  · split at ht
    · cases ht
      exact h.setSession ((h.sessionBounded ‹_›).bikeDelivered ‹_› _)
    · cases ht

/-! ### Notices a van addresses to a station (R128 to R134) -/

theorem takeClaim (h : s.BoundedOwing owing) (van : Node) (n : Serial) (a : ClaimAction) {amount : Nat} (hm : amount ≤ 24)
    (life : Nat) : (s.takeClaim van n a amount life).BoundedOwing owing := by
  unfold State.takeClaim
  have touched := h.touchSession van
  split
  · dsimp only
    split
    · exact touched.originate _ _
    · rename_i new
      split
      · exact touched.originate _ _
      · rename_i room
        split
        · exact touched.originate _ _
        · rename_i granted
          have small : (s.touchSession van).bu.grant a amount ≤ amount := Nat.min_le_right _ _
          refine State.BoundedOwing.originate (touched.setClaims ⟨by simp; omega, ?_, ?_⟩) _ _
          · rw [List.map_append]
            refine nodup_snoc touched.bu.claimsOnce fun m => ?_
            obtain ⟨c, hc, e⟩ := List.mem_map.mp m
            have := List.find?_eq_none.mp new c hc
            simp_all
          · intro c hc
            obtain hc | hc := List.mem_append.mp hc
            · exact touched.bu.grants c hc
            · rw [List.mem_singleton.mp hc]
              dsimp only
              omega
  · exact h.originate _ _

theorem takeSessionOpen (h : s.BoundedOwing owing) (van : Node) : (s.takeSessionOpen van).BoundedOwing owing := by
  unfold State.takeSessionOpen
  split
  · split
    · exact State.BoundedOwing.originate (h.setBu (by exact
        { h.bu with session := fun _ e => Option.some.inj e ▸ .fresh van s.timebase (h.bu.collectAllowance van) })) _ _
    · split
      · have opened := h.sessionBounded ‹_›
        exact State.BoundedOwing.originate (h.setSession (by exact { opened with recent := Nat.zero_le _ })) _ _
      · exact (h.touchSession van).originate _ _
  · exact h.originate _ _

theorem takeDeliveryNote (h : s.BoundedOwing owing) (van : Node) (bikes : List Bike) :
    (s.takeDeliveryNote van bikes).BoundedOwing owing := by
  unfold State.takeDeliveryNote
  split
  · exact h
  · split
    · have held := h.sessionBounded ‹_›
      obtain ⟨once, announced⟩ := expectBikes_bounded _ bikes held.expectedOnce held.announced
      exact h.setSession { held with expectedOnce := once, announced := announced }
    · exact h

theorem closeUnheld (h : s.BoundedOwing owing) (van : Node) : (s.closeUnheld van).BoundedOwing owing := by
  unfold State.closeUnheld
  split
  · split
    · exact h.originate _ _
    · exact h.originate _ _
  · exact h.originate _ _

theorem takeSessionClose (h : s.BoundedOwing owing) (van : Node) : (s.takeSessionClose van).BoundedOwing owing := by
  unfold State.takeSessionClose
  split
  · split
    · exact (h.setSession ((h.sessionBounded ‹_›).touched _ _)).endIfDone
    · exact h.closeUnheld van
  · exact h.closeUnheld van

theorem claimExpiry (h : s.BoundedOwing owing) (i : Ident) : (s.claimExpiry i).BoundedOwing owing := by
  unfold State.claimExpiry
  split
  · exact h
  · rename_i c _
    have later := h.reached (c.start + c.lifetime * 60000)
    dsimp only
    split
    · exact later
    · exact later.setClaims (later.bu.claimsBounded.sublist List.filter_sublist)

theorem sessionIdle (h : s.BoundedOwing owing) : s.sessionIdle.BoundedOwing owing := by
  unfold State.sessionIdle
  split
  · exact h
  · split
    · exact h
    · exact (h.reached _).endSession _

theorem releaseToVan (h : s.BoundedOwing owing) (d : Nat) : (s.release d .van none).BoundedOwing owing := by
  refine h.updateDock d fun e => absurd e ?_
  simp [Dock.releasesFor]

end State.BoundedOwing

/-- A take that is granted finds fewer than 24 bikes taken or being taken (R130). -/
theorem State.takeOutcome_granted {s : State} {van : Node} {d : Nat} (h : s.takeOutcome van d = .granted) {ss : Session}
    (hs : s.bu.session = some ss) : ss.collected.length + ss.inFlight.length < 24 := by
  unfold State.takeOutcome at h
  rw [hs] at h
  dsimp only at h
  by_contra full
  rw [if_pos (Nat.not_lt.mp full)] at h
  (repeat' split at h) <;> cases h

namespace State.BoundedOwing
variable {s : State} {owing : Nat}

theorem takeTakeRequest (h : s.BoundedOwing owing) (van : Node) (r : Serial) (d : Nat) :
    (s.takeTakeRequest van r d).BoundedOwing owing := by
  unfold State.takeTakeRequest
  split
  · exact h.originate _ _
  · rename_i ss hs
    have held := h.sessionBounded hs
    split
    · exact h.originate _ _
    · split
      · exact (h.touchSession van).originate _ _
      · split
        · exact (h.touchSession van).originate _ _
        · rename_i granted
          have room := State.takeOutcome_granted granted hs
          exact ((h.setSession (held.taking room _ _ _)).releaseToVan d).originate _ _
        · exact (h.setSession (held.answered _ _)).originate _ _

end State.BoundedOwing
end Sys2Proof.Machine
end

section
/-!
PROOFS. What keeps the heard hires, the pending closes and the law of R71 within their bounds where bikes leave and arrive (R72 to R86).
-/
namespace Sys2Proof.Machine
open Sys2Proof

theorem length_updateLast {α : Type} (p : α → Bool) (f : α → α) (l : List α) : (updateLast p f l).length = l.length := by
  rw [updateLast, List.length_reverse, length_updateFirst, List.length_reverse]

namespace State.BoundedOwing
variable {s : State} {owing : Nat}

/-! ### The heard hire table (R75, R76) -/

theorem setHeard (h : s.BoundedOwing owing) {l : List HeardHire} (hl : l.length ≤ 64) (hh : (l.map (·.hire)).Nodup)
    (hb : (l.map (·.bike)).Nodup) : (s.setHeard l).BoundedOwing owing :=
  h.setHu { h.hu with heard := hl, heardOnce := hh, heardBikesOnce := hb } le_rfl

/-- Entries that leave the table. -/
theorem setHeard_sublist (h : s.BoundedOwing owing) {l : List HeardHire} (hl : l.Sublist s.hu.heard) :
    (s.setHeard l).BoundedOwing owing :=
  h.setHeard (hl.length_le.trans h.hu.heard) ((hl.map _).nodup h.hu.heardOnce) ((hl.map _).nodup h.hu.heardBikesOnce)

theorem forgetHeard (h : s.BoundedOwing owing) (b : Bike) : (s.forgetHeard b).BoundedOwing owing :=
  h.setHeard_sublist List.filter_sublist

/-! ### The pending-close list (R81) -/

theorem setPendingClose (h : s.BoundedOwing owing) {l : List PendingClose} (hl : l.length ≤ 16)
    (hn : (l.map fun p => (p.bike, p.endTime)).Nodup) : (s.setPendingClose l).BoundedOwing owing :=
  h.setHu { h.hu with pendingClose := hl, pendingOnce := hn } le_rfl

theorem setPendingClose_sublist (h : s.BoundedOwing owing) {l : List PendingClose} (hl : l.Sublist s.hu.pendingClose) :
    (s.setPendingClose l).BoundedOwing owing :=
  h.setPendingClose (hl.length_le.trans h.hu.pendingClose) ((hl.map _).nodup h.hu.pendingOnce)

/-- Entries that keep their bike and end time may change. -/
theorem setPendingClose_updateFirst (h : s.BoundedOwing owing) (p : PendingClose → Bool) {f : PendingClose → PendingClose}
    (hf : ∀ x, ((f x).bike, (f x).endTime) = (x.bike, x.endTime)) :
    (s.setPendingClose (updateFirst p f s.hu.pendingClose)).BoundedOwing owing :=
  h.setPendingClose (by rw [length_updateFirst]; exact h.hu.pendingClose)
    (by rw [map_updateFirst _ _ _ fun x _ => hf x]; exact h.hu.pendingOnce)

/-- A pending close takes the place of one of its bike and end time, or of the oldest in a full list. -/
theorem makePendingClose (h : s.BoundedOwing owing) (b : Bike) (i : Option Ident) : (s.makePendingClose b i).BoundedOwing owing := by
  have listed (kept : List PendingClose) (sub : kept.Sublist (s.hu.pendingClose.filter fun p => !p.isFor b s.now))
      (room : kept.length < 16) (e : PendingClose) (he : e.bike = b ∧ e.endTime = s.now) :
      (s.setPendingClose (kept ++ [e])).BoundedOwing owing := by
    refine h.setPendingClose (by simp; omega) ?_
    rw [List.map_append]
    refine nodup_snoc (((sub.trans List.filter_sublist).map _).nodup h.hu.pendingOnce) fun m => ?_
    obtain ⟨x, hx, same⟩ := List.mem_map.mp m
    have other := (List.mem_filter.mp (sub.subset hx)).2
    simp_all [PendingClose.isFor]
  have length := (List.length_filter_le (fun p => !p.isFor b s.now) s.hu.pendingClose).trans h.hu.pendingClose
  unfold State.makePendingClose
  dsimp only
  split
  · rename_i oldest rest others
    split
    · exact listed _ (List.Sublist.refl _) ‹_› _ ⟨rfl, rfl⟩
    · have shorter : rest.length < 16 := by
        rw [others] at length
        simpa using length
      exact (listed rest (others ▸ List.sublist_cons_self _ _) shorter _ ⟨rfl, rfl⟩).postNote rfl
  · exact listed [] (List.nil_sublist _) (by decide) _ ⟨rfl, rfl⟩

theorem repeatClose (h : s.BoundedOwing owing) (b : Bike) (t : Time) : (s.repeatClose b t).BoundedOwing owing := by
  unfold State.repeatClose
  split
  · exact h
  · rename_i p _
    have later := h.reached (p.timerStart + 120000)
    dsimp only
    split
    · exact State.BoundedOwing.flood (later.setPendingClose_updateFirst _ (by exact fun _ => rfl)) _
    · exact State.BoundedOwing.postNote (later.setPendingClose_sublist (by exact List.eraseP_sublist)) (by exact rfl)

/-! ### Closes and arrivals (R77 to R86) -/

theorem lateClose (h : s.BoundedOwing owing) (e : SettledHire) (p : SettledHire → Bool) (t : Time) (n : Node) (g : Nat) :
    (s.lateClose e p t n g).BoundedOwing owing := by
  have noted (amount : Cents) := h.postNote (body := .lateReturn e.hire e.card e.bike n t amount) rfl
  have closed (amount : Cents) := (((noted amount).setSettled
    (length_updateLast p (fun x => { x with ending := some (n, t), outcome := .late }) _ ▸ (noted amount).hu.settled)).flood
      (.hireSettled e.hire e.bike n t .late)).removeMissing e.bike
  unfold State.lateClose
  dsimp only
  split
  · exact closed _
  · exact ((closed _).liftHolds _ _).flood _

theorem returnHere (h : s.BoundedOwing owing) (d : Nat) (b : Bike) : (s.returnHere d b).1.BoundedOwing owing :=
  ((((h.forgetHeard b).postNote (by exact rfl)).flood _).makePendingClose b _).countActivity false

theorem arrival (h : s.Bounded) (d : Nat) (b : Bike) (startUp : Bool) : (s.arrival d b startUp).1.Bounded := by
  unfold State.arrival
  split
  · rename_i o held
    have closed := State.BoundedOwing.closeOwned (h.forgetHeard b) (List.mem_of_find?_eq_some held) s.now s.node s.clk.dom.grade
    dsimp only
    split
    · exact closed
    · exact closed.countActivity false
  · split
    · exact h.forgetHeard b
    · split
      · exact (h.delivery ‹_›).forgetHeard b
      · split
        · exact ((h.forgetHeard b).lateClose _ _ _ _ _).countActivity false
        · exact h.returnHere d b

end State.BoundedOwing

/-- Where entries of one hire are one, and the entries of a bike are of the hire, the entry of the hire may take the bike. -/
theorem heardBikes_updateFirst {l : List HeardHire} {i : Ident} {b : Bike} {f : HeardHire → HeardHire}
    (hires : (l.map (·.hire)).Nodup) (bikes : (l.map (·.bike)).Nodup) (only : ∀ e ∈ l, e.bike = b → e.hire = i)
    (hf : ∀ e, (f e).bike = b) : ((updateFirst (fun e => decide (e.hire = i)) f l).map (·.bike)).Nodup := by
  induction l with
  | nil => exact bikes
  | cons e l ih =>
    rw [List.map_cons, List.nodup_cons] at hires bikes
    obtain ⟨lone, hires⟩ := hires
    obtain ⟨apart, bikes⟩ := bikes
    unfold updateFirst
    split
    · rename_i found
      have found : e.hire = i := by simpa using found
      rw [List.map_cons, List.nodup_cons]
      refine ⟨fun m => ?_, bikes⟩
      obtain ⟨x, hx, same⟩ := List.mem_map.mp m
      exact lone (List.mem_map.mpr ⟨x, hx, (only x (by simp [hx]) (same.trans (hf e))).trans found.symm⟩)
    · rename_i other
      rw [List.map_cons, List.nodup_cons]
      refine ⟨fun m => ?_, ih hires bikes fun x hx => only x (by simp [hx])⟩
      obtain ⟨x, hx, same⟩ := List.mem_map.mp m
      obtain hx | ⟨y, -, -, rfl⟩ := mem_updateFirst _ _ hx
      · exact apart (List.mem_map.mpr ⟨x, hx, same⟩)
      · exact other (by simpa using only e (by simp) (same.symm.trans (hf y)))

namespace State.BoundedOwing
variable {s : State} {owing : Nat}

/-! ### Notices from other stations (R76, R83 to R86) -/

/-- A hire heard takes the entry of its identity, or a new one, and no other entry keeps its bike (R76). -/
theorem takeHireOpen (h : s.BoundedOwing owing) (i : Ident) (c : Card) (b : Bike) (t : Time) :
    (s.takeHireOpen i c b t).BoundedOwing owing := by
  unfold State.takeHireOpen
  split
  · exact h
  · split
    · exact h.setPendingClose_updateFirst _ (by exact fun _ => rfl)
    · split
      · exact h
      · have sub : (s.hu.heard.filter fun e => !(decide (e.bike = b) && !decide (e.hire = i))).Sublist s.hu.heard :=
          List.filter_sublist
        have only : ∀ e ∈ s.hu.heard.filter (fun e => !(decide (e.bike = b) && !decide (e.hire = i))), e.bike = b → e.hire = i := by
          intro e he hb
          simpa [hb] using (List.mem_filter.mp he).2
        dsimp only
        generalize s.hu.heard.filter (fun e => !(decide (e.bike = b) && !decide (e.hire = i))) = others at *
        have length := sub.length_le.trans h.hu.heard
        have hires := (sub.map (·.hire)).nodup h.hu.heardOnce
        have bikes := (sub.map (·.bike)).nodup h.hu.heardBikesOnce
        split
        · refine h.setHeard (by rw [length_updateFirst]; exact length) ?_ (heardBikes_updateFirst hires bikes only (by exact fun _ => rfl))
          rw [map_updateFirst _ _ _ (by exact fun _ _ => rfl)]
          exact hires
        · rename_i new
          refine h.setHeard (length_pushBounded _ _ _ length (by decide)) (nodup_map_pushBounded _ hires fun m => new ?_)
            (nodup_map_pushBounded _ bikes fun m => new ?_)
          · obtain ⟨e, he, same⟩ := List.mem_map.mp m
            exact List.any_eq_true.mpr ⟨e, he, by simpa using same⟩
          · obtain ⟨e, he, same⟩ := List.mem_map.mp m
            exact List.any_eq_true.mpr ⟨e, he, by simpa using only e he same⟩

theorem remoteClose (h : s.Bounded) (n : Node) (b : Bike) (t : Time) (g : Nat) (i : Option Serial) :
    (s.remoteClose n b t g i).Bounded := by
  unfold State.remoteClose
  split
  · exact h.flood _
  · split
    · exact State.BoundedOwing.closeOwned h (List.mem_of_find?_eq_some ‹_›) _ _ _
    · dsimp only
      split
      · exact h.lateClose _ _ _ _ _
      · exact h

theorem takeHireClose (h : s.Bounded) (n : Node) (b : Bike) (t : Time) (g : Nat) (i : Option Ident) :
    (s.takeHireClose n b t g i).Bounded := by
  unfold State.takeHireClose
  split
  · exact h
  · dsimp only
    split
    · exact State.BoundedOwing.remoteClose (h.setHeard_sublist List.filter_sublist) _ _ _ _ _
    · exact h.setHeard_sublist List.filter_sublist

theorem takeHireSettled (h : s.BoundedOwing owing) (i : Ident) (b : Bike) (n : Node) (t : Time) (o : HireOutcome) :
    (s.takeHireSettled i b n t o).BoundedOwing owing := by
  unfold State.takeHireSettled
  split
  · exact h
  · have settled : (if n = s.node then
        (s.setHeard (s.hu.heard.filter fun e => !decide (e.hire = i))).setPendingClose
          (s.hu.pendingClose.filter fun p => !p.isFor b t)
      else s.setHeard (s.hu.heard.filter fun e => !decide (e.hire = i))).BoundedOwing owing := by
      have heard := h.setHeard_sublist (l := s.hu.heard.filter fun e => !decide (e.hire = i)) List.filter_sublist
      split
      · exact heard.setPendingClose_sublist List.filter_sublist
      · exact heard
    dsimp only
    split
    · exact settled.removeMissing b
    · exact settled

/-! ### Overdue conversion, ageing and steps (R75, R87, R88) -/

theorem hireBoundary (h : s.Bounded) : s.hireBoundary.Bounded := by
  unfold State.hireBoundary
  split
  · exact (State.Bounded.foldl_convertOverdue h List.filter_sublist).1.setHeard_sublist List.filter_sublist
  · exact h

theorem shiftHires (h : s.BoundedOwing owing) (a : Int) : (s.shiftHires a).BoundedOwing owing :=
  State.BoundedOwing.foldl_mark (fun o : OwnedHire => Slot.owned o.slot) _
    (h.setHu (by exact { h.hu with }) (by simp))

end State.BoundedOwing
end Sys2Proof.Machine
end

section
/-!
PROOFS. What keeps the fault log and the law of R71 within their bounds where faults are reported and posts answer (R45 to R59, R112 to
R119).
-/
namespace Sys2Proof.Machine
open Sys2Proof

/-! ### The fault log (R112, R113) -/

/-- Room made for an entry leaves fewer than 32. -/
theorem roomForFault_length {log room : List FaultEntry} (h : roomForFault log = some room) (hl : log.length ≤ 32) :
    room.length < 32 := by
  have erased {p : FaultEntry → Bool} (hp : log.any p = true) : (log.eraseP p).length < 32 := by
    obtain ⟨e, he, found⟩ := List.any_eq_true.mp hp
    have := List.length_eraseP_add_one he found
    omega
  unfold roomForFault at h
  split at h
  · cases h
    assumption
  · split at h
    · cases h
      exact erased ‹_›
    · split at h
      · cases h
        exact erased ‹_›
      · cases h

namespace State.BoundedOwing
variable {s : State} {owing : Nat}

theorem setLog (h : s.BoundedOwing owing) {l : List FaultEntry} (hl : l.length ≤ 32) : (s.setLog l).BoundedOwing owing :=
  h.setFlt hl

theorem setLog_updateFirst (h : s.BoundedOwing owing) (p : FaultEntry → Bool) (f : FaultEntry → FaultEntry) :
    (s.setLog (updateFirst p f s.flt.log)).BoundedOwing owing := h.setLog (by rw [length_updateFirst]; exact h.log)

theorem setLog_map (h : s.BoundedOwing owing) (f : FaultEntry → FaultEntry) : (s.setLog (s.flt.log.map f)).BoundedOwing owing :=
  h.setLog (by rw [List.length_map]; exact h.log)

theorem setLog_room (h : s.BoundedOwing owing) {room : List FaultEntry} (hr : roomForFault s.flt.log = some room)
    (e : FaultEntry) : (s.setLog (room ++ [e])).BoundedOwing owing := by
  have := roomForFault_length hr h.log
  exact h.setLog (by rw [List.length_append, List.length_singleton]; omega)

theorem countDrop (h : s.BoundedOwing owing) (n : Nat) : (s.setFlt { s.flt with drops := n }).BoundedOwing owing := h.setFlt h.log

theorem useFaultSerial (h : s.BoundedOwing owing) : s.useFaultSerial.BoundedOwing owing :=
  State.BoundedOwing.mark (h.setFlt (by exact h.log)) _

theorem noteRise (h : s.BoundedOwing owing) (e : FaultEntry) : (s.noteRise e).BoundedOwing owing :=
  (h.postNote (by exact rfl)).raise _

/-! ### Releases abandoned and dock faults (R54, R55) -/

theorem abandonRelease (h : s.BoundedOwing owing) (n : Nat) (st : DockState) : (s.abandonRelease n st).BoundedOwing owing := by
  have abandoned : (s.updateDock n fun k => k.endRelease st).BoundedOwing owing := h.updateDock n (by simp)
  unfold State.abandonRelease
  split
  · dsimp only
    split
    · exact abandoned.releaseLapsed n
    · exact abandoned
  · exact h

theorem dockFaultRaised (h : s.BoundedOwing owing) (n : Nat) : (s.dockFaultRaised n).BoundedOwing owing := by
  have marked : (s.updateDock n fun k => { k with faultMark := true }).BoundedOwing owing := h.updateDock n fun e => e
  unfold State.dockFaultRaised
  dsimp only
  split
  · exact marked.abandonRelease n .faulted
  · exact marked.updateDock n (by simp)
  · exact marked.updateDock n (by simp)
  · exact marked
  · exact marked
  · exact marked

theorem dockFaultsCleared (h : s.BoundedOwing owing) (n : Nat) : (s.dockFaultsCleared n).BoundedOwing owing := by
  refine h.updateDock n ?_
  split
  · simp
  · exact fun e => e

theorem faultEffects (h : s.BoundedOwing owing) (e : FaultEntry) (old : Nat) : (s.faultEffects e old).BoundedOwing owing := by
  unfold State.faultEffects
  split
  · rename_i b _
    have quarantined := h.setQuarantine b e.id e.severity
    split
    · dsimp only
      split
      · exact (quarantined.flood _).noteRise e
      · exact quarantined
    · exact h
  · rename_i d _
    have raised : (if e.kind = .postSilent then s else s.dockFaultRaised d).BoundedOwing owing := by
      split
      · exact h
      · exact h.dockFaultRaised d
    split
    · dsimp only
      split
      · exact raised.noteRise e
      · exact raised
    · exact h
  · exact h

theorem refusedEffects (h : s.BoundedOwing owing) (x : Subject) (k : FaultKind) (v : Nat) :
    (s.refusedEffects x k v).BoundedOwing owing := by
  unfold State.refusedEffects
  split
  · split
    · exact h.useFaultSerial.setQuarantine _ _ _
    · exact h
  · split
    · exact h.dockFaultRaised _
    · exact h
  · exact h

theorem reportFault (h : s.BoundedOwing owing) (r : FaultReport) : (s.reportFault r).1.BoundedOwing owing := by
  unfold State.reportFault
  split
  · exact (h.setLog_updateFirst _ _).faultEffects _ _
  · dsimp only
    split
    · exact (h.setLog_room ‹_› _).useFaultSerial.faultEffects _ _
    · exact (h.countDrop _).refusedEffects _ _ _

theorem report (h : s.BoundedOwing owing) (x : Subject) (k : FaultKind) (v : Nat) : (s.report x k v).BoundedOwing owing :=
  h.reportFault _

theorem memberReport (h : s.BoundedOwing owing) (b : Bike) (c : Option Card) : (s.memberReport b c).BoundedOwing owing :=
  h.reportFault _

theorem supplyFault (h : s.BoundedOwing owing) : s.supplyFault.BoundedOwing owing := h.report _ _ _

theorem takeFault (h : s.BoundedOwing owing) (i : Ident) (b : Bike) (k : FaultKind) (v : Nat) :
    (s.takeFault i b k v).BoundedOwing owing := by
  unfold State.takeFault
  split
  · exact h
  · split
    · exact (h.setLog_updateFirst _ _).setQuarantine _ _ _
    · split
      · exact (h.setLog_updateFirst _ _).setQuarantine _ _ _
      · split
        · exact (h.setLog_room ‹_› _).setQuarantine _ _ _
        · exact (h.countDrop _).setQuarantine _ _ _

theorem takeFaultClear (h : s.BoundedOwing owing) (b : Bike) (t : Time) : (s.takeFaultClear b t).BoundedOwing owing := by
  unfold State.takeFaultClear
  dsimp only
  split
  · exact h.setLog_map _
  · exact (h.setLog_map _).removeQuarantine b

theorem clearFaultsOf (h : s.BoundedOwing owing) (x : Subject) : (s.clearFaultsOf x).BoundedOwing owing := by
  have cleared : (s.setLog (clearSubject x s.flt.log)).BoundedOwing owing := h.setLog_map _
  unfold State.clearFaultsOf
  cases x with
  | bike b => exact (cleared.removeQuarantine b).flood _
  | dock d => exact cleared.dockFaultsCleared d
  | station => exact cleared

theorem clearPostSilent (h : s.BoundedOwing owing) (d : Nat) : (s.clearPostSilent d).BoundedOwing owing := h.setLog_map _

end State.BoundedOwing

/-! ### Releases taken and given (R46, R48, R71) -/

/-- REPLAY is complete. -/
def State.Started (s : State) : Prop := ¬ (s.sup.start = .options ∨ s.sup.start = .replay)

theorem State.Started.congr {s t : State} (h : s.Started) (e : t.sup = s.sup) : t.Started := by
  unfold State.Started
  rwa [e]

theorem State.Started.of_awake {s : State} (h : s.awake = true) : s.Started := by
  unfold State.awake at h
  rintro (e | e) <;> simp [e] at h

/-- A dock in RELEASING has a number from 1 to 24. -/
theorem State.inRange_of_releasing {s : State} {d : Nat} (h : (s.dock d).state = .releasing) : 1 ≤ d ∧ d ≤ 24 := by
  by_contra outside
  rw [s.dock_outside d outside] at h
  cases h

theorem State.updateDock_memberReleases (s : State) {n : Nat} (f : Dock → Dock) (hn : 1 ≤ n ∧ n ≤ 24) :
    (s.updateDock n f).du.memberReleases + (if (s.dock n).forMember then 1 else 0) =
      s.du.memberReleases + (if (f (s.dock n)).forMember then 1 else 0) := by
  have := s.du.memberReleases_setDock ((f (s.dock n)).refresh s.du) hn
  rw [Dock.forMember_refresh] at this
  rw [State.updateDock, State.announced_du]
  exact this

/-- A dock replaced where the law has room for one more member release. -/
theorem State.Bounded.putDock_room {s : State} (h : s.Bounded)
    (all : s.sq.moneyInUse + s.hu.owned.length + s.du.memberReleases < 64) (hires : s.hu.owned.length + s.du.memberReleases < 48)
    (n : Nat) {k : Dock} : (s.putDock n k).Bounded := by
  by_cases hn : 1 ≤ n ∧ n ≤ 24
  · have more : (s.du.setDock n k).memberReleases ≤ s.du.memberReleases + 1 := by
      have := s.du.memberReleases_setDock k hn
      split at this <;> split at this <;> omega
    exact { h with
      bikes := by simpa [State.putDock] using h.bikes
      law := { h.law with
        capacity := by simp only [State.putDock, State.setDu_sq, State.setDu_hu, State.setDu_du]; omega
        owned := by simp only [State.putDock, State.setDu_hu, State.setDu_du]; omega } }
  · rw [State.putDock, Du.setDock_outside _ _ hn]
    exact h

/-- A dock may be released for a member where the capacity test passes (R71). -/
theorem State.Bounded.releaseToMember {s : State} (h : s.Bounded) (capacity : s.atCapacity = false) (d : Nat) (c : Option CardRecord) :
    (s.release d .member c).Bounded := by
  simp only [State.atCapacity, Bool.or_eq_false_iff, decide_eq_false_iff_not, Nat.not_le] at capacity
  obtain ⟨all, hires⟩ := capacity
  exact State.BoundedOwing.announced (putDock_room h all hires d) s

namespace State.BoundedOwing
variable {s : State} {owing : Nat}

/-- A hire opens where the law has room for it (R74). -/
theorem openHire (h : s.Bounded) (started : s.Started)
    (room : s.sq.moneyInUse + (s.hu.owned.length + 1) + s.du.memberReleases ≤ 64)
    (hires : s.hu.owned.length + 1 + s.du.memberReleases ≤ 48) (d : Nat) (b : Bike) (c : CardRecord) :
    (s.openHire d b c).Bounded := by
  have opened (o : OwnedHire) (n : Serial) : (s.setHu { s.hu with owned := s.hu.owned ++ [o], hireSerial := n }).Bounded :=
    { h with
      hu := { h.hu with }
      law := { h.law with
        capacity := by simpa using room
        owned := by simpa using hires
        cleared := fun e => absurd e started } }
  exact ((((opened _ _).mark _).mark _).flood _).countActivity true

/-- A member release that is taken gives its place under the law to the hire it opens (R48, R71). -/
theorem completeRelease (h : s.Bounded) (started : s.Started) {d : Nat} (hd : (s.dock d).state = .releasing) :
    (s.completeRelease d).Bounded := by
  have emptied : (s.updateDock d fun k => Dock.enter
      { k with release := none, bike := none, untaken := 0, window := none, lockSlot := some .lock } .empty).Bounded :=
    h.updateDock d (by simp)
  have releases := s.updateDock_memberReleases (fun k => Dock.enter
      { k with release := none, bike := none, untaken := 0, window := none, lockSlot := some .lock } .empty)
    (State.inRange_of_releasing hd)
  unfold State.completeRelease
  dsimp only
  split
  · rename_i c _ b released _
    have member : (s.dock d).forMember = true := by simp [Dock.forMember, Dock.releasesFor, hd, released]
    simp only [member, if_true, Dock.forMember_enter] at releases
    have capacity := h.law.capacity
    have owned := h.law.owned
    simp at releases
    refine openHire emptied (started.congr (by simp)) ?_ ?_ d b.bike c
    · simp only [State.updateDock_frame]
      omega
    · simp only [State.updateDock_frame]
      omega
  · exact emptied.takeRecorded d _
  · exact emptied

theorem forcedRemoval (h : s.BoundedOwing owing) (d : Nat) (b : Bike) : (s.forcedRemoval d b).BoundedOwing owing := by
  have missing := (h.report (.bike b) .forcedRemoval 3).setMissing b s.node s.now
  unfold State.forcedRemoval
  refine missing.updateDock d ?_
  split
  · simp
  · exact fun e => e

/-! ### Bikes leaving and arriving (R48 to R52) -/

theorem bikeLeaves (h : s.Bounded) (started : s.Started) (d : Nat) : (s.bikeLeaves d).Bounded := by
  have removed : (match (s.dock d).bike with | some x => s.forcedRemoval d x.bike | none => s).Bounded := by
    split
    · exact h.forcedRemoval d _
    · exact h
  unfold State.bikeLeaves
  split
  · exact completeRelease h started ‹_›
  · exact removed
  · exact removed
  · exact removed
  · exact h
  · exact h

theorem leaveOther (h : s.Bounded) (started : s.Started) (d : Nat) (b : Bike) : (s.leaveOther d b).Bounded := by
  unfold State.leaveOther
  split
  · exact h
  · split
    · exact completeRelease h started ‹_›
    · exact h.updateDock _ (by simp)

theorem arrive (h : s.Bounded) (started : s.Started) (d : Nat) (b : Bike) : (s.arrive d b).Bounded := by
  have docked : ((s.leaveOther d b).updateDock d fun k =>
      Dock.enter { k with bike := some { bike := b, time := s.now } } .holding).Bounded :=
    (leaveOther h started d b).updateDock d (by simp)
  unfold State.arrive
  exact (arrival (docked.removeMissing b) d b false).updateDock d (by exact fun e => e)

theorem arriveUnavailable (h : s.Bounded) (d : Nat) (b : Bike) : (s.arriveUnavailable d b).Bounded := by
  unfold State.arriveUnavailable
  exact arrival (State.BoundedOwing.removeMissing (h.updateDock d (by exact fun e => e)) b) d b false

end State.BoundedOwing

@[simp] theorem State.completeRelease_sup (s : State) (d : Nat) : (s.completeRelease d).sup = s.sup := by
  unfold State.completeRelease
  dsimp only
  split <;> simp

@[simp] theorem State.bikeLeaves_sup (s : State) (d : Nat) : (s.bikeLeaves d).sup = s.sup := by
  have removed (b : Bike) : (s.forcedRemoval d b).sup = s.sup := by simp [State.forcedRemoval]
  unfold State.bikeLeaves
  (repeat' split) <;> simp [removed]

/-- A checkout that is granted passes the capacity test (R70, R71). -/
theorem State.checkout_granted {s : State} {d : Nat} {c : CardRecord} (h : s.checkout d c = none) : s.atCapacity = false := by
  by_contra full
  rw [Bool.not_eq_false] at full
  unfold State.checkout at h
  rw [if_pos full] at h
  (repeat' split at h) <;> cases h

namespace State.BoundedOwing
variable {s : State}

theorem bikeArrives (h : s.Bounded) (started : s.Started) (d : Nat) (b : Bike) : (s.bikeArrives d b).Bounded := by
  have replaced := arrive (bikeLeaves h started d) (started.congr (by simp)) d b
  unfold State.bikeArrives
  split
  · exact arrive h started d b
  · split
    · exact h
    · exact replaced
  · split
    · exact h
    · exact replaced
  · split
    · exact h
    · exact arriveUnavailable h d b
  · split
    · exact h
    · exact arriveUnavailable h d b
  · exact h

/-! ### Heartbeats (R45, R58, R59) -/

theorem compareHeartbeat (h : s.Bounded) (started : s.Started) (d : Nat) (b : Bike) : (s.compareHeartbeat d b).Bounded := by
  unfold State.compareHeartbeat
  split
  · split
    · exact h
    · exact bikeArrives h started d b
  · split
    · exact bikeLeaves h started d
    · split
      · exact h
      · exact bikeArrives (bikeLeaves h started d) (started.congr (by simp)) d b

theorem firstHeartbeat (h : s.Bounded) (d : Nat) (b : Bike) : (s.firstHeartbeat d b).Bounded := by
  have heard : (s.updateDock d fun k => { k with heard := true }).Bounded := h.updateDock d fun e => e
  unfold State.firstHeartbeat
  dsimp only
  split
  · exact heard.updateDock d (by simp)
  · exact (arrival ((heard.updateDock d (by exact fun e => e)).removeMissing b) d b true).updateDock d (by simp)

theorem recoverPost (h : s.Bounded) (started : s.Started) (d : Nat) (b : Bike) : (s.recoverPost d b).Bounded := by
  have recovered : (if ((s.clearPostSilent d).dock d).state = .offline then (s.clearPostSilent d).updateDock d Dock.settle
      else s.clearPostSilent d).Bounded := by
    split
    · exact (h.clearPostSilent d).updateDock d (by simp)
    · exact h.clearPostSilent d
  have rested (k : Dock) : (if k.transient.isSome = true then k else k.placeResting).forMember = k.forMember := by
    split <;> simp
  unfold State.recoverPost
  refine (compareHeartbeat recovered (started.congr ?_) d b).updateDock d fun e => (rested _).symm.trans e
  split <;> simp [State.clearPostSilent]

/-! ### Cards, buttons and timers (R46, R49, R53, R57) -/

theorem tapCard (h : s.Bounded) (d : Nat) (c : CardRecord) : (s.tapCard d c).Bounded := by
  unfold State.tapCard
  split
  · rename_i granted
    have cleared : (s.updateDock d fun k => { k with lastRefusal := none }).Bounded := h.updateDock d fun e => e
    have same : (s.updateDock d fun k => { k with lastRefusal := none }).du.memberReleases ≤ s.du.memberReleases := by
      rw [State.updateDock, State.announced_du]
      exact s.du.memberReleases_setDock_le d _ (by rw [Dock.forMember_refresh]; exact fun e => e)
    refine State.Bounded.releaseToMember cleared ?_ d (some c)
    have capacity := State.checkout_granted granted
    simp only [State.atCapacity, Bool.or_eq_false_iff, decide_eq_false_iff_not, Nat.not_le, State.updateDock_frame] at capacity ⊢
    omega
  · exact h.updateDock d fun e => e

theorem pressButton (h : s.Bounded) (d : Nat) : (s.pressButton d).Bounded := by
  unfold State.pressButton
  split
  · split
    · exact h
    · exact (h.memberReport _ _).updateDock d (by exact fun e => e)
  · split
    · exact h.memberReport _ _
    · exact h
  · exact h

theorem releaseTimesOut (h : s.Bounded) (d : Nat) : (s.releaseTimesOut d).Bounded := by
  have ended : (s.updateDock d fun k => (k.endRelease .holding).show .red s.timebase).Bounded := h.updateDock d (by simp)
  have lapsed : (if (s.dock d).releasesFor .van then
      (s.updateDock d fun k => (k.endRelease .holding).show .red s.timebase).releaseLapsed d
    else s.updateDock d fun k => (k.endRelease .holding).show .red s.timebase).Bounded := by
    split
    · exact ended.releaseLapsed d
    · exact ended
  unfold State.releaseTimesOut
  dsimp only
  split
  · exact ((lapsed.report _ _ _).dockFaultRaised d).updateDock d (by exact fun e => e)
  · exact lapsed.updateDock d (by exact fun e => e)

theorem postFallsSilent (h : s.Bounded) (d : Nat) : (s.postFallsSilent d).Bounded := by
  have silent : ((s.updateDock d fun k => { k with silent := true }).report (.dock d) .postSilent 2).Bounded :=
    State.BoundedOwing.report (h.updateDock d (by exact fun e => e)) _ _ _
  unfold State.postFallsSilent
  dsimp only
  split
  · exact silent.updateDock d (by simp)
  · exact silent.updateDock d (by simp)
  · exact silent.abandonRelease d _
  · exact silent
  · exact silent
  · exact silent

theorem disableDock (h : s.Bounded) (d : Nat) : (s.disableDock d).Bounded := by
  have disabled : (s.updateDock d fun k => { k with hostDisabled := true }).Bounded := h.updateDock d fun e => e
  unfold State.disableDock
  dsimp only
  split
  · exact disabled.abandonRelease d _
  · exact disabled.updateDock d (by simp)

theorem enableDock (h : s.Bounded) (d : Nat) : (s.enableDock d).Bounded := by
  unfold State.enableDock
  split
  · exact h.updateDock d (by simp)
  · exact h

theorem noAnswer (h : s.Bounded) : s.noAnswer.Bounded := h.setDu h.bikes le_rfl

theorem postHeard (h : s.Bounded) (d : Nat) : (s.postHeard d).Bounded :=
  State.BoundedOwing.putDock (h.setDu (by exact h.bikes) (by exact le_rfl)) d (by exact fun e => e)

theorem sendPoll (h : s.Bounded) : s.sendPoll.Bounded := h.setDu h.bikes le_rfl

end State.BoundedOwing
end Sys2Proof.Machine
end

section
/-!
PROOFS. What keeps the van's lists within their bounds, what the clock's steps and boundaries do to the lists, what a notice heard does to
them, what a reset and a change of supply state do, and what the settlement queue's removals and writes do to the law of R71.
-/
namespace Sys2Proof.Machine
open Sys2Proof

namespace State.BoundedOwing
variable {s : State} {owing : Nat}

/-! ### The van (R135 to R144) -/

theorem setVanSession (h : s.BoundedOwing owing) (v : Option VanSession) : (s.setVanSession v).BoundedOwing owing :=
  h.setBu { h.bu with }

theorem setOwnClaims (h : s.BoundedOwing owing) {l : List VanClaim} (hl : l.length ≤ 4) : (s.setOwnClaims l).BoundedOwing owing :=
  h.setBu { h.bu with ownClaims := hl }

theorem setOwnClaims_updateFirst (h : s.BoundedOwing owing) (p : VanClaim → Bool) (f : VanClaim → VanClaim) :
    (s.setOwnClaims (updateFirst p f s.bu.ownClaims)).BoundedOwing owing :=
  h.setOwnClaims (by rw [length_updateFirst]; exact h.bu.ownClaims)

theorem setLastTake (h : s.BoundedOwing owing) (o : LastTake) : (s.setLastTake o).BoundedOwing owing := h.setBu { h.bu with }

theorem useClaimSerial (h : s.BoundedOwing owing) : s.useClaimSerial.BoundedOwing owing :=
  State.BoundedOwing.mark (h.setBu (by exact { h.bu with })) _

theorem setTakes (h : s.BoundedOwing owing) (v : VanSession) (l : List VanTake) : (s.setTakes v l).BoundedOwing owing :=
  h.setVanSession _

theorem endVanSession (h : s.BoundedOwing owing) (n : Node) : (s.endVanSession n).BoundedOwing owing :=
  State.BoundedOwing.raise ((h.setVanSession none).setOwnClaims (by rw [List.length_map]; exact h.bu.ownClaims)) _

theorem retrySession (h : s.BoundedOwing owing) (v : VanSession) (body : NoticeBody) :
    (s.retrySession v body).BoundedOwing owing := (h.setVanSession _).originate _ _

theorem takeClaimAnswer (h : s.BoundedOwing owing) (n : Serial) (o : ClaimOutcome) (g : Nat) :
    (s.takeClaimAnswer n o g).BoundedOwing owing := by
  unfold State.takeClaimAnswer
  split
  · exact (h.setOwnClaims_updateFirst _ _).raise _
  · exact h

theorem takeSessionAnswer (h : s.BoundedOwing owing) (n : Node) (o : SessionOutcome) (a : Nat) :
    (s.takeSessionAnswer n o a).BoundedOwing owing := by
  unfold State.takeSessionAnswer
  split
  · exact h
  · split
    · split
      · exact State.BoundedOwing.raise (h.setBu (by exact { h.bu with })) _
      · exact (h.setVanSession none).raise _
      · exact (h.setVanSession none).raise _
      · exact h.endVanSession n
      · exact h
    · exact h

/-- The load list stays within 30, with no bike twice (R144). -/
theorem addLoad (h : s.BoundedOwing owing) (b : Bike) (n : Node) (q : Bool) : (s.addLoad b n q).BoundedOwing owing := by
  unfold State.addLoad
  split
  · exact h
  · rename_i new
    split
    · exact h.postNote (by exact rfl)
    · refine h.setBu { h.bu with load := by simp; omega, loadOnce := ?_ }
      rw [List.map_append]
      exact nodup_snoc h.bu.loadOnce (by simpa using new)

theorem filterLoad (h : s.BoundedOwing owing) (p : LoadedBike → Bool) (m : Option SummaryBody) :
    (s.setBu { s.bu with load := s.bu.load.filter p, vanSummary := m }).BoundedOwing owing :=
  h.setBu { h.bu with
    load := (List.length_filter_le _ _).trans h.bu.load, loadOnce := (List.filter_sublist.map _).nodup h.bu.loadOnce }

theorem takeSessionSummary (h : s.BoundedOwing owing) (n : Node) (m : SummaryBody) :
    (s.takeSessionSummary n m).BoundedOwing owing := by
  unfold State.takeSessionSummary
  split
  · exact State.BoundedOwing.endVanSession
      (State.BoundedOwing.filterLoad (h.foldl (fun t b ht => ht.addLoad b n (t.du.quarantined b)) m.collected) _ _) n
  · exact h

theorem endTake (h : s.BoundedOwing owing) (v : VanSession) (p : VanTake → Bool) (o : LastTake) :
    (s.endTake v p o).BoundedOwing owing := ((h.setTakes _ _).setLastTake o).raise _

theorem takeVanTakeAnswer (h : s.BoundedOwing owing) (n : Node) (r : Serial) (o : TakeOutcome) :
    (s.takeVanTakeAnswer n r o).BoundedOwing owing := by
  unfold State.takeVanTakeAnswer
  split
  · exact h
  · split
    · split
      · exact h.setTakes _ _
      · split
        · exact h.endVanSession n
        · exact h.endTake _ _ _
    · exact h

theorem takeDone (h : s.BoundedOwing owing) (n : Node) (r : Serial) (b : Option Bike) (q : Bool) :
    (s.takeDone n r b q).BoundedOwing owing := by
  unfold State.takeDone
  split
  · exact h
  · rename_i v _
    have ended (p : VanTake → Bool) (o : LastTake) :
        (if v.inFlight.any p then s.endTake v p o else s.raise .van).BoundedOwing owing := by
      split
      · exact h.endTake _ _ _
      · exact h.raise _
    split
    · dsimp only
      split
      · exact (ended _ _).addLoad _ _ _
      · exact ended _ _
    · exact h

/-! ### The clock's steps and boundaries (R7 to R12) -/

theorem emptySpend (h : s.BoundedOwing owing) : s.emptySpend.BoundedOwing owing := h.setFu ⟨Nat.zero_le _, .nil⟩

theorem zeroRing (h : s.BoundedOwing owing) : s.zeroRing.BoundedOwing owing :=
  State.BoundedOwing.recomputeNeed (h.setBu (by exact { h.bu with ring := by rw [List.length_map]; exact h.bu.ring }))

theorem stepTo (h : s.BoundedOwing owing) (v : Time) (source : Option Node) : (s.stepTo v source).BoundedOwing owing := by
  have shifted (t : State) (ht : t.BoundedOwing owing) (c : Bool) : (if c then t.emptySpend else t).BoundedOwing owing := by
    split
    · exact ht.emptySpend
    · exact ht
  unfold State.stepTo
  exact State.BoundedOwing.evaluateWindows (State.BoundedOwing.postNote
    (State.BoundedOwing.zeroRing (shifted _ ((h.clearTrim.setClk _).shiftHires _) _)) (by exact rfl))

theorem setTime (h : s.BoundedOwing owing) (v : Time) : (s.setTime v).BoundedOwing owing := by
  unfold State.setTime
  dsimp only
  split
  · exact (h.anchor 0).clearTrim
  · exact (h.anchor 0).clearTrim.stepTo _ _

theorem takeBeaconTime (h : s.BoundedOwing owing) (n : Node) (v : Time) (g : Nat) : (s.takeBeaconTime n v g).BoundedOwing owing := by
  unfold State.takeBeaconTime
  split
  · have anchored := h.anchor (g + 1)
    dsimp only
    split
    · exact (anchored.stepTo _ _).raise _
    · split
      · exact anchored
      · exact anchored.setClk _
  · exact h

theorem rotateRing (h : s.BoundedOwing owing) : s.rotateRing.BoundedOwing owing := by
  unfold State.rotateRing
  split
  · exact h
  · exact h.setBu { h.bu with ring := by simp [h.bu.ring] }

theorem takeBoundary (h : s.Bounded) (t : Time) : (s.takeBoundary t).Bounded := by
  have emptied : (if t % 86400 = 0 then s.evaluateWindows.emptySpend else s.evaluateWindows).Bounded := by
    split
    · exact h.evaluateWindows.emptySpend
    · exact h.evaluateWindows
  have settled := emptied.hireBoundary
  unfold State.takeBoundary
  refine State.BoundedOwing.recomputeNeed ?_
  split
  · exact settled.rotateRing
  · exact settled

/-! ### Notices heard (R28, R30, R39) -/

theorem hearBeacon (h : s.BoundedOwing owing) (n : Node) (b : BeaconBody) : (s.hearBeacon n b).BoundedOwing owing := by
  unfold State.hearBeacon
  exact State.BoundedOwing.takeBeaconTime (h.updateNeighbour n (by exact fun _ => rfl)) _ _ _

/-- A claim in its range asks for at most 24 bikes, which its grant does not exceed (R135). -/
theorem deliver (h : s.Bounded) {n : Notice} (hn : n.body.inRange = true) : (s.deliver n).Bounded := by
  have asVan {f : State → State} (hf : (f s).Bounded) : (if s.isVan then f s else s).Bounded := by
    split
    · exact hf
    · exact h
  unfold State.deliver
  split
  · exact h.takeHireOpen _ _ _ _
  · exact h.takeHireClose _ _ _ _ _
  · exact h.takeHireSettled _ _ _ _ _
  · exact h.takeCardHold _ _ _
  · exact h.liftHolds _ _
  · exact h.takeFault _ _ _ _
  · exact h.takeFaultClear _ _
  · exact h.hearBeacon _ _
  · exact h.updateNeighbour _ fun _ => rfl
  · exact h.updateNeighbour _ fun _ => rfl
  · rename_i serial action amount lifetime body
    refine h.takeClaim _ _ _ ?_ _
    rw [body] at hn
    simp only [NoticeBody.inRange, Bool.and_eq_true, decide_eq_true_eq] at hn
    omega
  · exact asVan (f := fun s => s.takeClaimAnswer _ _ _) (h.takeClaimAnswer _ _ _)
  · exact h.takeSessionOpen _
  · exact asVan (f := fun s => s.takeSessionAnswer _ _ _) (h.takeSessionAnswer _ _ _)
  · exact h.takeTakeRequest _ _ _
  · exact asVan (f := fun s => s.takeVanTakeAnswer _ _ _) (h.takeVanTakeAnswer _ _ _)
  · exact asVan (f := fun s => s.takeDone _ _ _ _) (h.takeDone _ _ _ _)
  · exact h.takeDeliveryNote _ _
  · exact h.takeSessionClose _
  · exact asVan (f := fun s => s.takeSessionSummary _ _) (h.takeSessionSummary _ _)

theorem hearFlooded (h : s.Bounded) {n : Notice} (hn : n.body.inRange = true) : (s.hearFlooded n).Bounded := by
  obtain ⟨length, once⟩ := enterSeen_bounded n.ident h.slc.seen h.slc.seenOnce
  have seen : (s.setSlc { s.slc with seen := enterSeen s.slc.seen n.ident }).Bounded :=
    h.setSlc { h.slc with seen := length, seenOnce := once }
  unfold State.hearFlooded
  dsimp only
  split
  · exact h.suppress _
  · split
    · exact seen
    · split
      · exact (deliver seen hn).suppress _
      · exact (deliver seen hn).relay _

theorem hear (h : s.Bounded) {n : Notice} (hn : n.body.inRange = true) : (s.hear n).Bounded := by
  have heard : (s.hearSender n.sender).Bounded := h.hearSender n.sender
  unfold State.hear
  dsimp only
  split
  · exact heard.hearFlooded hn
  · exact heard.deliver hn
  · split
    · exact heard.deliver hn
    · exact heard

/-! ### The supply and starts (R178 to R182) -/

theorem announceSupply (h : s.BoundedOwing owing) : s.announceSupply.BoundedOwing owing := by
  have changed := (h.raise .supply).supplyChanged
  unfold State.announceSupply
  dsimp only
  split
  · exact changed.supplyFault
  · exact changed

theorem cutOff (h : s.BoundedOwing owing) : s.cutOff.BoundedOwing owing :=
  State.BoundedOwing.setDu (State.BoundedOwing.setSlc (h.setJnl _) (by exact { h.slc with })) (by exact h.bikes) (by exact le_rfl)

end State.BoundedOwing

theorem reset_bounded : State.reset.Bounded :=
  (State.bounded_iff _).mpr ⟨reset_linkBounded, reset_tablesBounded, reset_needBounded, reset_hiresBounded⟩

/-- A start clears every bounded collection. -/
theorem State.beginStart_bounded (s : State) (k : ResetCause) (x : Sense) : (s.beginStart k x).Bounded :=
  { reset_bounded with
    slc := { reset_bounded.slc with }
    law := { reset_bounded.law with cleared := fun _ => ⟨rfl, rfl⟩ } }

/-! ### The settlement queue's removals and writes (R151, R153, R156) -/

theorem takeable_prefix (q : List SettlementRecord) : takeable q <+: q := by
  unfold takeable
  exact List.takeWhile_prefix _

/-- Every record with a slot is a money record, so the slots left in use are no more than the money records taken. -/
theorem length_leavingSlots {l : List SettlementRecord} (h : ∀ r ∈ l, r.isMoney = false → r.slot = none) :
    (leavingSlots l).length ≤ l.countP (·.isMoney) := by
  rw [leavingSlots, List.length_map, List.length_filterMap_eq_countP]
  refine List.countP_mono_left fun r hr slot => ?_
  by_contra note
  simp [h r hr (by simpa using note)] at slot

namespace State.BoundedOwing
variable {s : State} {owing : Nat}

/-- A money record taken leaves its slot in use (R153). -/
theorem removeRecords (h : s.BoundedOwing owing) (started : s.Started) {taken : List SettlementRecord}
    (ht : taken <+: s.sq.queue) : (s.removeRecords taken).BoundedOwing owing := by
  obtain ⟨left, queue⟩ := ht
  have leaving := length_leavingSlots (l := taken) fun r hr => h.law.notes r (queue ▸ List.mem_append_left _ hr)
  have rest : s.sq.queue.drop taken.length = left := by rw [← queue, List.drop_left]
  have law : CapacityLaw owing { s.sq with queue := s.sq.queue.drop taken.length, leaving := s.sq.leaving ++ leavingSlots taken }
      s.hu.owned.length s.du.memberReleases s.sup.start := {
    h.law with
    capacity := by
      have := h.law.capacity
      simp only [Sq.moneyInUse, ← queue, List.countP_append, List.drop_left, List.length_append] at this ⊢
      omega
    queue := (List.drop_sublist _ _).length_le.trans h.law.queue
    notes := fun r hr => h.law.notes r ((List.drop_sublist _ _).subset hr)
    cleared := fun e => absurd e started }
  unfold State.removeRecords
  exact State.BoundedOwing.evaluateSettlement (State.BoundedOwing.foldl_mark _ _ (h.setSq law))

theorem takeRecords (h : s.BoundedOwing owing) (started : s.Started) (n : Nat) : (s.takeRecords n).BoundedOwing owing :=
  (h.removeRecords started ((List.take_prefix _ _).trans (takeable_prefix _))).answer _ _

end State.BoundedOwing

/-- Records that keep being money records, or notes, and their slots keep the law, and so do fewer slots left in use. -/
theorem CapacityLaw.map_queue {n o r : Nat} {st : StartState} {q p : Sq} (h : CapacityLaw n q o r st)
    {f : SettlementRecord → SettlementRecord} (hf : ∀ x, (f x).isMoney = x.isMoney ∧ (f x).slot = x.slot)
    (hq : p.queue = q.queue.map f) (hl : p.leaving.length ≤ q.leaving.length) : CapacityLaw n p o r st where
  capacity := by
    have money : (q.queue.map f).countP (·.isMoney) = q.queue.countP (·.isMoney) := by
      rw [List.countP_map]
      exact List.countP_congr fun x _ => by simp [(hf x).1]
    have := h.capacity
    unfold Sq.moneyInUse at this ⊢
    rw [hq, money]
    omega
  owned := h.owned
  queue := by rw [hq, List.length_map]; exact h.queue
  notes := by
    intro x hx note
    obtain ⟨y, hy, rfl⟩ := List.mem_map.mp (hq ▸ hx)
    rw [(hf y).2]
    exact h.notes y hy ((hf y).1 ▸ note)
  cleared := fun e => ⟨(h.cleared e).1, List.eq_nil_of_length_eq_zero (by have := (h.cleared e).2; simp_all)⟩

theorem CapacityLaw.writeBegun {n o r : Nat} {st : StartState} {q : Sq} (h : CapacityLaw n q o r st) (x : Slot) :
    CapacityLaw n (q.writeBegun x) o r st := by
  cases x with
  | owned i =>
    refine h.map_queue (f := fun r => if r.isMoney ∧ r.ownedSlot = i then { r with ownedBegun := true } else r) ?_ rfl le_rfl
    intro x
    split <;> exact ⟨rfl, rfl⟩
  | money i => exact h.map_queue (f := id) (fun _ => ⟨rfl, rfl⟩) (by simp [Sq.writeBegun]) (by simp [Sq.writeBegun])
  | band i => exact h
  | cls i => exact h
  | window i => exact h
  | hold i => exact h
  | counters => exact h

theorem CapacityLaw.written {n o r : Nat} {st : StartState} {q : Sq} (h : CapacityLaw n q o r st) (w : WriteInProgress) :
    CapacityLaw n (q.written w) o r st := by
  unfold Sq.written
  split
  · rename_i i _
    refine h.map_queue (f := fun r => if r.slot = some i ∧ w.content = .money (some r.fields) then { r with slotDone := true } else r)
      ?_ rfl (List.length_filter_le _ _)
    intro x
    split <;> exact ⟨rfl, rfl⟩
  · rename_i i _
    refine h.map_queue (f := fun r => if r.isMoney ∧ r.ownedSlot = i ∧ r.ownedBegun then { r with ownedDone := true } else r)
      ?_ rfl le_rfl
    intro x
    split <;> exact ⟨rfl, rfl⟩
  all_goals exact h

theorem Hu.Bounded.written {b : Hu} (h : b.Bounded) (w : WriteInProgress) :
    (b.written w).Bounded ∧ (b.written w).owned.length = b.owned.length := by
  unfold Hu.written
  split
  · exact ⟨{ h with }, List.length_map _⟩
  · exact ⟨h, rfl⟩

namespace State.BoundedOwing
variable {s : State} {owing : Nat}

theorem writeCompleted (h : s.BoundedOwing owing) (w : WriteInProgress) : (s.writeCompleted w).BoundedOwing owing := by
  obtain ⟨written, length⟩ := h.hu.written w
  have owned := h.setHu written length.le
  unfold State.writeCompleted
  exact State.BoundedOwing.evaluateSettlement ((owned.setSq (owned.law.written w)).setJnl _)

/-! ### The kiosk link (R162 to R173) -/

theorem takeRequest (h : s.BoundedOwing owing) : s.takeRequest.BoundedOwing owing := h.setKl _

theorem takeFrame (h : s.BoundedOwing owing) (c : Byte) (l : List Byte) (x : Byte) : (s.takeFrame c l x).BoundedOwing owing := by
  unfold State.takeFrame
  split
  · exact h.takeRequest.reply _
  · exact h.takeRequest.setKl _

theorem sendEnds (h : s.BoundedOwing owing) (c : Byte) (l : List Byte) (x : Byte) : (s.sendEnds c l x).BoundedOwing owing := by
  unfold State.sendEnds
  split
  · exact h.takeFrame _ _ _
  · exact h

theorem sendCut (h : s.BoundedOwing owing) : s.sendCut.BoundedOwing owing := by
  unfold State.sendCut
  split
  · exact h.takeRequest.reply _
  · exact h

theorem fetchEnds (h : s.Bounded) (n : Nat) (x : Sense) : (s.fetchEnds n x).Bounded := by
  unfold State.fetchEnds
  split
  · exact State.beginStart_bounded _ _ _
  · exact h.setKl _

theorem statusTaken (h : s.BoundedOwing owing) : s.statusTaken.BoundedOwing owing :=
  ((h.setSlc (b := { s.slc with newErrors := 0 }) { h.slc with }).putCause _ _).putCause _ _

end State.BoundedOwing
end Sys2Proof.Machine
end

section
/-!
PROOFS. What REPLAY makes of the store, block by block: the lists it rebuilds, and the state it leaves (R89, R158, R159, R160).
-/
namespace Sys2Proof.Machine
open Sys2Proof

/-! ### Reading a region and sorting -/

section
variable {α : Type}

theorem length_regionOf_le (store : Store) (base size : Nat) (f : SlotContent → Option α) :
    (regionOf store base size f).length ≤ size := by
  simpa [regionOf] using List.length_filterMap_le (fun i => ((store.read (base + i)).bind f).map fun a => (i, a)) (List.range size)

/-- A region holds what the reading picks out of each of its slots. -/
theorem mem_regionOf {store : Store} {base size : Nat} {f : SlotContent → Option α} {i : Nat} {a : α} :
    (i, a) ∈ regionOf store base size f ↔ i < size ∧ ∃ c, store.read (base + i) = some c ∧ f c = some a := by
  simp only [regionOf, List.mem_filterMap, List.mem_range, Option.map_eq_some_iff, Option.bind_eq_some_iff, Prod.mk.injEq]
  constructor
  · rintro ⟨j, hj, b, ⟨c, hc, hb⟩, rfl, rfl⟩
    exact ⟨hj, c, hc, hb⟩
  · rintro ⟨hi, c, hc, ha⟩
    exact ⟨i, hi, a, ⟨c, hc, ha⟩, rfl, rfl⟩

theorem insertBy_perm (before : α → α → Bool) (a : α) (l : List α) : (insertBy before a l).Perm (a :: l) := by
  induction l with
  | nil => exact .refl _
  | cons b l ih =>
    unfold insertBy
    split
    · exact .refl _
    · exact (ih.cons b).trans (.swap a b l)

theorem sortBy_perm (before : α → α → Bool) (l : List α) : (sortBy before l).Perm l := by
  induction l with
  | nil => exact .nil
  | cons a l ih => exact (insertBy_perm _ _ _).trans (ih.cons a)

/-- What is kept passes every test that an entry not dropped passes. -/
theorem keptOf_sublist_filter {drops : α → List α → Bool} {q : α → Bool} (h : ∀ a later, drops a later = false → q a = true)
    (l : List α) : (keptOf (sortOut drops l)).Sublist (l.filter q) := by
  induction l with
  | nil => exact .slnil
  | cons a l ih =>
    cases e : drops a l with
    | true =>
      refine .trans (by simpa [sortOut, keptOf, e] using ih) (List.Sublist.filter q (List.sublist_cons_self a l))
    | false => simpa [sortOut, keptOf, e, h a l e] using ih.cons_cons a

end

theorem SlotContent.asMoney_eq {c : SlotContent} {f : RecordFields} : c.asMoney = some f ↔ c = .money (some f) := by
  cases c <;> simp [SlotContent.asMoney]

/-! ### The state REPLAY leaves -/

/-- The hold list REPLAY rebuilds (R66, R158). -/
def State.rebuiltHolds (s : State) : List Hold := keptOf (sortOut Hold.superseded (holdsRead s.jnl.store))

/-- The settlement queue REPLAY rebuilds (R159). -/
def State.rebuiltQueue (s : State) : List SettlementRecord := replayMoney s.jnl.store s.jnl.store.counters.record s.timebase

/-- The hires REPLAY keeps of the stored ones (R89). -/
def State.keptHires (s : State) : List OwnedHire := keptOf (sortOut (replayDrops s.node s.rebuiltQueue) (ownedRead s.jnl.store))

/-- The owned hires after REPLAY: none is read in a van, and a start that lost the station time restarts each (R72, R89, R158). -/
def State.rebuiltOwned (s : State) : List OwnedHire :=
  if s.isVan then s.hu.owned
  else if s.clk.dom.clockLost then s.keptHires.map fun o => o.restarted s.now
  else s.keptHires

/-- The state after REPLAY but for the journal and the cause of a damaged store. -/
def State.rebuilt (s : State) : State :=
  let store := s.jnl.store
  { s with
    clk := { s.clk with windows :=
      if s.isVan then s.clk.windows
      else s.clk.windows.mapFinIdx fun i w _ => ((store.read (8 + i)).bind SlotContent.asWindow).getD w },
    slc := { s.slc with originSerial := (store.counters.origin + 64) % 65536 },
    hu := { s.hu with
      hireSerial := (store.counters.hire + 64) % 65536, holdSerial := store.counters.hold, holds := s.rebuiltHolds,
      owned := s.rebuiltOwned },
    fu := { s.fu with
      bands := s.fu.bands.mapFinIdx fun i t _ => ((store.read i).bind SlotContent.asBand).getD t,
      classes := s.fu.classes.mapFinIdx fun i t _ => ((store.read (4 + i)).bind SlotContent.asClass).getD t },
    flt := { s.flt with serial := (store.counters.fault + 64) % 65536 },
    bu := { s.bu with claimSerial := (store.counters.claim + 64) % 256 },
    sq := { s.sq with seq := (store.counters.record + 64) % 65536, queue := s.rebuiltQueue } }

/-- The counters, the tariff and the lists taken; the owned hires are those found (R158, R159). -/
theorem State.replayLists_spec (s : State) : ∃ slots j, s.jnl.Marked j (.counters :: slots) ∧
    s.replayCounters.replayTariff.replayLists = { s.rebuilt with hu := { s.rebuilt.hu with owned := s.hu.owned }, jnl := j } := by
  have tariff : s.replayCounters.replayTariff = { s.rebuilt with
      hu := { s.rebuilt.hu with owned := s.hu.owned, holds := s.hu.holds }, sq := { s.rebuilt.sq with queue := s.sq.queue },
      jnl := s.jnl.mark .counters } := by
    cases van : s.isVan <;> simp only [State.replayTariff, State.rebuilt, van, if_true] <;>
      simp only [show s.replayCounters.isVan = s.isVan from rfl, van] <;> rfl
  obtain ⟨j, holds, marked⟩ := s.replayCounters.replayTariff.replayHolds_spec
  rw [tariff] at holds marked
  refine ⟨_, j, (Jnl.marked_mark _ _).trans marked, ?_⟩
  rw [State.replayLists, tariff, holds]
  rfl

/-- The slots of owned hires marked one after another. -/
theorem State.foldl_mark_owned (s : State) (l : List OwnedHire) : ∃ j, s.jnl.Marked j (l.map fun o => .owned o.slot) ∧
    l.foldl (fun s o => s.mark (.owned o.slot)) s = s.setJnl j := by
  obtain ⟨j, e⟩ := State.foldl_mark_rest (fun o : OwnedHire => Slot.owned o.slot) l s
  have marked := State.marked_foldl (fun o : OwnedHire => Slot.owned o.slot) l s
  exact ⟨j, by rwa [e] at marked, e⟩

/-- The stored hires but for those dropped, restarted where the station time was lost (R72, R89). -/
def State.hiresOfStore (s : State) : List OwnedHire :=
  if s.clk.dom.clockLost then
    (keptOf (sortOut (replayDrops s.node s.sq.queue) (ownedRead s.jnl.store))).map fun o => o.restarted s.now
  else keptOf (sortOut (replayDrops s.node s.sq.queue) (ownedRead s.jnl.store))

/-- The owned hires taken (R89). -/
theorem State.replayOwned_spec (s : State) : ∃ slots j, s.jnl.Marked j slots ∧
    s.replayOwned = (s.setOwned s.hiresOfStore).setJnl j := by
  obtain ⟨j, dropped, e⟩ := (s.setOwned s.hiresOfStore).foldl_mark_owned
    (droppedOf (sortOut (replayDrops s.node s.sq.queue) (ownedRead s.jnl.store)))
  unfold State.replayOwned
  dsimp only
  rw [← State.hiresOfStore, e]
  split
  · obtain ⟨k, restarted, f⟩ := ((s.setOwned s.hiresOfStore).setJnl j).foldl_mark_owned
      (keptOf (sortOut (replayDrops s.node s.sq.queue) (ownedRead s.jnl.store)))
    exact ⟨_, k, dropped.trans restarted, f⟩
  · exact ⟨_, j, dropped, rfl⟩

/-- All that REPLAY does before LISTEN begins. -/
theorem State.replayStore_spec (s : State) : ∃ slots j, s.jnl.Marked j (.counters :: slots) ∧
    s.replayStore = if s.replayFindsInvalid then (s.rebuilt.setJnl j).degrade else s.rebuilt.setJnl j := by
  obtain ⟨slots, j, marked, lists⟩ := s.replayLists_spec
  unfold State.replayStore
  dsimp only
  rw [lists]
  by_cases van : s.isVan
  · have owned : s.rebuilt.hu.owned = s.hu.owned := by simp [State.rebuilt, State.rebuiltOwned, van]
    refine ⟨slots, j, marked, ?_⟩
    rw [if_pos van, ← owned]
    rfl
  · obtain ⟨more, k, hires, e⟩ := State.replayOwned_spec { s.rebuilt with hu := { s.rebuilt.hu with owned := s.hu.owned }, jnl := j }
    have stored : State.hiresOfStore { s.rebuilt with hu := { s.rebuilt.hu with owned := s.hu.owned }, jnl := j } =
        s.rebuilt.hu.owned := by
      have store : j.store = s.jnl.store := by rw [marked.rest]
      unfold State.hiresOfStore
      rw [store, show s.rebuilt.hu.owned = s.rebuiltOwned from rfl, State.rebuiltOwned, if_neg van]
      rfl
    refine ⟨slots ++ more, k, marked.trans hires, ?_⟩
    rw [if_neg van, e, stored]
    rfl

end Sys2Proof.Machine
end

section
/-!
PROOFS. The lists REPLAY rebuilds stay within their bounds, and under the law of R71 where the store fits it.
-/
namespace Sys2Proof.Machine
open Sys2Proof

/-- The bounds of the lists REPLAY leaves: LISTEN begins with no member release. -/
structure State.ReplayBounded (s : State) : Prop where
  slc : s.slc.Bounded
  bikes : BikesBounded s.du.bikes
  hu : s.hu.Bounded
  spend : SpendBounded s.fu.spend
  log : s.flt.log.length ≤ 32
  bu : s.bu.Bounded
  law : CapacityLaw 0 s.sq s.hu.owned.length 0 .listen

theorem Du.memberReleases_initial (d : Du) (t : Millis) :
    ({ d with docks := Vector.replicate 24 (Dock.initial t), pollNext := 1 } : Du).memberReleases = 0 := by
  simp [Du.memberReleases_eq]

/-- LISTEN begins with every dock OFFLINE (R59). -/
theorem State.ReplayBounded.enterListen {s : State} (h : s.ReplayBounded) : s.enterListen.Bounded := by
  have entered : (((s.setSup { s.sup with start := .listen, listenStart := s.timebase }).setSlc
      { s.slc with channel := some s.sup.image.channel }).setDu
      { s.du with docks := Vector.replicate 24 (Dock.initial s.timebase), pollNext := 1 }).Bounded :=
    { h with slc := { h.slc with }, law := by rw [State.setDu_du, Du.memberReleases_initial]; exact h.law }
  unfold State.enterListen
  dsimp only
  split
  · exact entered.evaluateWindows.supplyFault
  · exact entered.evaluateWindows

/-! ### The rebuilt lists -/

theorem length_holdsRead_le (store : Store) : (holdsRead store).length ≤ 256 := by
  rw [holdsRead, (sortBy_perm _ _).length_eq, List.length_map]
  exact length_regionOf_le _ _ _ _

theorem State.rebuiltHolds_length (s : State) : s.rebuiltHolds.length ≤ 256 :=
  (keptOf_sortOut_sublist _ _).length_le.trans (length_holdsRead_le _)

/-- The settlement queue rebuilt has each stored money record once (R159). -/
theorem State.rebuiltQueue_fields (s : State) : (s.rebuiltQueue.map (·.fields)).Perm s.storedMoney := by
  refine ((sortBy_perm _ _).map _).trans (.of_eq ?_)
  rw [List.map_map]
  rfl

theorem State.rebuiltQueue_length (s : State) : s.rebuiltQueue.length = s.storedMoney.length := by
  rw [← s.rebuiltQueue_fields.length_eq, List.length_map]

theorem State.storedMoney_isMoney {s : State} (fits : s.StoreFits) {f : RecordFields} (hf : f ∈ s.storedMoney) :
    f.body.isMoney = true := by
  obtain ⟨⟨i, g⟩, hp, rfl⟩ := List.mem_map.mp hf
  obtain ⟨hi, c, hc, hg⟩ := mem_regionOf.mp hp
  exact fits.money i hi _ (by rw [hc, SlotContent.asMoney_eq.mp hg])

theorem State.rebuiltQueue_isMoney {s : State} (fits : s.StoreFits) {r : SettlementRecord} (hr : r ∈ s.rebuiltQueue) :
    r.isMoney = true :=
  State.storedMoney_isMoney fits (s.rebuiltQueue_fields.subset (List.mem_map_of_mem hr))

/-- No rebuilt record has its hire on a stored money record (R89). -/
theorem State.keptHires_unbilled (s : State) : s.keptHires.length ≤ s.unbilled.length := by
  have free : ∀ (o : OwnedHire) later, replayDrops s.node s.rebuiltQueue o later = false →
      (!s.storedMoney.any fun r => decide (r.body.moneyHire = some { node := s.node, serial := o.fields.serial })) = true := by
    intro o later kept
    rw [Bool.not_eq_true', List.any_eq_false]
    intro f hf
    obtain ⟨r, hr, rfl⟩ := List.mem_map.mp (s.rebuiltQueue_fields.symm.subset hf)
    exact List.any_eq_false.mp (Bool.or_eq_false_iff.mp kept).1 r hr
  calc s.keptHires.length
      ≤ ((ownedRead s.jnl.store).filter fun o => !s.storedMoney.any fun r =>
          decide (r.body.moneyHire = some { node := s.node, serial := o.fields.serial })).length :=
        (keptOf_sublist_filter free _).length_le
    _ = s.unbilled.length := by
        rw [ownedRead, ((sortBy_perm _ _).filter _).length_eq, State.unbilled, List.filter_map, List.filter_map,
          List.length_map, List.length_map]
        rfl

theorem State.keptHires_length (s : State) : s.keptHires.length ≤ 48 := by
  refine (keptOf_sortOut_sublist _ _).length_le.trans ?_
  rw [ownedRead, (sortBy_perm _ _).length_eq, List.length_map]
  exact length_regionOf_le _ _ _ _

/-- REPLAY rebuilds the stored hires, and owns none where it does not read them. -/
theorem State.rebuiltOwned_length {s : State} (none : s.hu.owned.length = 0) : s.rebuiltOwned.length ≤ s.keptHires.length := by
  unfold State.rebuiltOwned
  split
  · omega
  · split
    · rw [List.length_map]
    · exact le_rfl

/-- What REPLAY rebuilds keeps the law of R71 where the store fits it. -/
theorem State.Bounded.rebuilt_law {s : State} (h : s.Bounded) (replaying : s.sup.start = .replay) (fits : s.StoreFits) :
    CapacityLaw 0 s.rebuilt.sq s.rebuilt.hu.owned.length 0 .listen := by
  obtain ⟨none, leaving⟩ := h.law.cleared (.inr replaying)
  have owned := State.rebuiltOwned_length none
  have length := s.keptHires_length
  have unbilled := s.keptHires_unbilled
  have together := fits.together
  have queue := s.rebuiltQueue_length
  have counted := List.countP_le_length (p := (·.isMoney)) (l := s.rebuiltQueue)
  exact {
    capacity := by
      show s.rebuiltQueue.countP (·.isMoney) + s.sq.leaving.length + s.rebuiltOwned.length + 0 ≤ 64 + 0
      rw [leaving, List.length_nil]
      omega
    owned := by
      show s.rebuiltOwned.length + 0 ≤ 48
      omega
    queue := by
      show s.rebuiltQueue.length ≤ 64
      omega
    notes := fun r hr note => by rw [State.rebuiltQueue_isMoney fits hr] at note; cases note
    cleared := nofun }

theorem State.Bounded.replayStore {s : State} (h : s.Bounded) (replaying : s.sup.start = .replay) (fits : s.StoreFits) :
    s.replayStore.ReplayBounded := by
  obtain ⟨slots, j, -, e⟩ := s.replayStore_spec
  have rebuilt : (s.rebuilt.setJnl j).ReplayBounded := {
    slc := { h.slc with }
    bikes := h.bikes
    hu := { h.hu with holds := s.rebuiltHolds_length, holdsOnce := keptHolds_nodup _ }
    spend := h.spend
    log := h.log
    bu := { h.bu with }
    law := h.rebuilt_law replaying fits }
  rw [e]
  split
  · exact { rebuilt with }
  · exact rebuilt

end Sys2Proof.Machine
end

section
/-!
PROOFS. Every command keeps every collection within its bounds: each is a row of operations that do.
-/
namespace Sys2Proof.Machine
open Sys2Proof

/-- The command keeps every bound. -/
def KeepsBounded (i : Instr) : Prop := ∀ s t, s.Bounded → exec i s = .next t → t.Bounded

theorem KeepsBounded.of_next {i : Instr} (f : State → State) (hf : ∀ s, exec i s = .next (f s))
    (h : ∀ s, s.Bounded → (f s).Bounded) : KeepsBounded i := by
  intro s t hs e
  rw [hf] at e
  cases e
  exact h s hs

theorem State.Bounded.serve {s : State} (h : s.Bounded) {r : Request} {effect : State → State}
    (he : s.admission r = none → (effect s).Bounded) : (s.serve r effect).Bounded := by
  unfold State.serve
  split
  · split
    · exact h.reply _
    · exact he ‹_›
  · exact h

theorem KeepsBounded.of_serve {i : Instr} (r : Request) (effect : State → State) (hf : ∀ s, exec i s = .next (s.serve r effect))
    (h : ∀ s : State, s.Bounded → s.admission r = none → (effect s).Bounded) : KeepsBounded i :=
  .of_next _ hf fun s hs => hs.serve (h s hs)

/-- A request not answered in every start state is answered in RUN alone (R166). -/
theorem State.Started.of_admission {s : State} {r : Request} (h : s.admission r = none) (hr : r.anyStart = false) : s.Started := by
  unfold State.admission at h
  rw [hr] at h
  have running : s.sup.start = .run := by
    by_contra other
    simp only [Bool.not_false, Bool.true_and, other, decide_false, if_true] at h
    split at h <;> cases h
  rintro (e | e) <;> cases running.symm.trans e

/-- A report from the post polled (R42, R58). -/
theorem State.Bounded.takeAnswer {s : State} (h : s.Bounded) {d : Nat} {heartbeat : Bool} {event : State → State}
    (he : (s.postHeard d).Bounded → (s.postHeard d).Started → (event (s.postHeard d)).Bounded) :
    (s.takeAnswer d heartbeat event).Bounded := by
  unfold State.takeAnswer
  split
  · rename_i answers
    refine he (State.BoundedOwing.postHeard h d) (.congr ?_ rfl)
    simp only [State.answersPoll, State.busRuns, Bool.and_eq_true] at answers
    exact .of_awake (by tauto)
  · split
    · exact h.noAnswer
    · exact h

namespace KeepsBounded

/-! ### The kiosk link (Chapter 9) -/

theorem sendTransfer first frame clocked : KeepsBounded (.sendTransfer first frame clocked) := .of_next _ (fun _ => rfl) fun s h => by
  split
  · exact h
  · split
    · exact (h.sendEnds _ _ _).shiftOut _
    · exact h.shiftOut _
    · exact h
    · exact h

theorem sendTransferCut shiftedIn : KeepsBounded (.sendTransferCut shiftedIn) := .of_next _ (fun _ => rfl) fun s h => by
  split
  · exact h
  · split
    · exact h.sendCut.shiftOut _
    · exact h.shiftOut _
    · exact h
    · exact h

theorem fetchTransfer shiftedIn sense : KeepsBounded (.fetchTransfer shiftedIn sense) := .of_next _ (fun _ => rfl) fun s h => by
  split
  · exact h
  · split
    · exact (h.fetchEnds _ _).shiftOut _
    · exact h.shiftOut _
    · exact h
    · exact h

theorem restartAnswerTimeout sense : KeepsBounded (.restartAnswerTimeout sense) := .of_next _ (fun _ => rfl) fun s h => by
  split
  · exact State.beginStart_bounded _ _ _
  · exact h

theorem getStatus : KeepsBounded .getStatus := .of_serve _ _ (fun _ => rfl) fun _ h _ => h.statusTaken.answer _ _

theorem getCause : KeepsBounded .getCause := .of_serve _ _ (fun _ => rfl) fun _ h _ => (h.setKl _).answer _ _

theorem setAttentionMask enables : KeepsBounded (.setAttentionMask enables) := .of_serve _ _ (fun _ => rfl) fun _ h _ => by
  split
  · exact (h.setKl _).answer _ _
  · exact h.reply _

theorem restart : KeepsBounded .restart := .of_serve _ _ (fun _ => rfl) fun _ h _ => (h.reply .ok).setKl _

/-! ### The settlement queue and the journal (Chapter 8) -/

theorem takeRecords n : KeepsBounded (.takeRecords n) := .of_serve _ _ (fun _ => rfl) fun _ h admitted => by
  split
  · exact State.BoundedOwing.takeRecords h (.of_admission admitted rfl) n
  · exact h.reply _

theorem setSettlement trigger timeout : KeepsBounded (.setSettlement trigger timeout) := .of_serve _ _ (fun _ => rfl) fun s h _ => by
  split
  · exact (State.BoundedOwing.evaluateSettlement (h.setSq (b := { s.sq with trigger := trigger, idle := clampNat 5 300 timeout })
      (h.law.congr_sq rfl rfl))).answer _ _
  · exact h.reply _

theorem settlementIdleTimeout : KeepsBounded .settlementIdleTimeout := .of_next _ (fun _ => rfl) fun _ h => by
  split
  · split
    · exact (h.reached _).evaluateSettlement
    · exact h
  · exact h

theorem journalWriteStart : KeepsBounded .journalWriteStart := .of_next _ (fun _ => rfl) fun _ h => by
  split
  · exact h
  · split
    · exact (h.setSq (h.law.writeBegun _)).setJnl _
    · exact h

theorem journalWriteEnd agrees : KeepsBounded (.journalWriteEnd agrees) := .of_next _ (fun _ => rfl) fun _ h => by
  split
  · exact h
  · split
    · exact h
    · split
      · exact (h.storeSlot _ _).writeCompleted _
      · split
        · exact (h.failedWrite _).degrade.writeCompleted _
        · exact h.setJnl _

theorem readOptions : KeepsBounded .readOptions := .of_serve _ _ (fun _ => rfl) fun _ h _ => by
  split
  · exact h.setJnl _
  · exact h

theorem writeOptions block : KeepsBounded (.writeOptions block) := .of_serve _ _ (fun _ => rfl) fun _ h _ => by
  split
  · exact h.setJnl _
  · exact h

theorem optionAreaRead : KeepsBounded .optionAreaRead := .of_next _ (fun _ => rfl) fun _ h => by
  split
  · exact (h.setOptionWork _).answer _ _
  · exact h

theorem optionWriteStart : KeepsBounded .optionWriteStart := .of_next _ (fun _ => rfl) fun _ h => by
  split
  · split
    · exact h.setOptionWork _
    · exact h
  all_goals exact h

theorem optionWriteEnd agrees : KeepsBounded (.optionWriteEnd agrees) := .of_next _ (fun _ => rfl) fun _ h => by
  split
  · split
    · exact h
    · split
      · exact ((h.setOptionArea _).setOptionWork _).answer _ _
      · split
        · exact (((h.setOptionArea _).drawn.degrade).setOptionWork _).answer _ _
        · exact h.setOptionWork _
  all_goals exact h

/-! ### The clock and the tariff (Chapters 1 and 5) -/

theorem setTime t : KeepsBounded (.setTime t) := .of_serve _ _ (fun _ => rfl) fun _ h _ => by
  split
  · exact (h.setTime _).reply _
  · exact h.reply _

theorem getTime : KeepsBounded .getTime := .of_serve _ _ (fun _ => rfl) fun _ h _ => (h.putCause _ _).answer _ _

theorem loadBand band terms : KeepsBounded (.loadBand band terms) := .of_serve _ _ (fun _ => rfl) fun s h _ => by
  split
  · split
    · exact ((h.setFu (b := { s.fu with bands := s.fu.bands.set band terms }) h.spend).mark _).reply _
    · exact h.reply _
  · exact h.reply _

theorem loadClass cls fields : KeepsBounded (.loadClass cls fields) := .of_serve _ _ (fun _ => rfl) fun s h _ => by
  split
  · rename_i terms _
    split
    · exact ((h.setFu (b := { s.fu with classes := s.fu.classes.set cls terms }) h.spend).mark _).reply _
    · exact h.reply _
  · exact h.reply _

theorem loadWindow index fields : KeepsBounded (.loadWindow index fields) := .of_serve _ _ (fun _ => rfl) fun _ h _ => by
  split
  · split
    · exact ((h.setClk _).mark _).evaluateWindows.reply _
    · exact h.reply _
  · exact h.reply _

theorem readTariff : KeepsBounded .readTariff := .of_serve _ _ (fun _ => rfl) fun _ h _ => h.answer _ _

theorem rawTick : KeepsBounded .rawTick := .of_next _ (fun _ => rfl) fun _ h => by
  split
  · exact h.setClk _
  · exact h

theorem gradeRise : KeepsBounded .gradeRise := .of_next _ (fun _ => rfl) fun _ h => by
  split
  · exact h.setDom _
  · exact h

theorem temperatureSample reading : KeepsBounded (.temperatureSample reading) := .of_next _ (fun _ => rfl) fun _ h => by
  split
  · exact h.setClk _
  · exact h

theorem minuteBoundary : KeepsBounded .minuteBoundary := .of_next _ (fun _ => rfl) fun _ h => by
  split
  · exact h
  · split
    · exact h
    · exact State.BoundedOwing.takeBoundary (h.setClk _) _

theorem backupDomainPowerLost : KeepsBounded .backupDomainPowerLost := .of_next _ (fun _ => rfl) fun _ h => by
  split
  · exact h.setDom _
  · exact h

/-! ### Holds, bikes and faults (Chapters 4 and 6) -/

theorem holdCard card reason : KeepsBounded (.holdCard card reason) := .of_serve _ _ (fun _ => rfl) fun _ h _ => by
  split
  · split
    · exact (h.placeHold _ _).answer _ _
    · exact h.reply _
  · exact h.reply _

theorem liftHold card reason : KeepsBounded (.liftHold card reason) := .of_serve _ _ (fun _ => rfl) fun _ h _ => by
  split
  · split
    · exact ((h.liftHolds _ _).flood _).answer _ _
    · exact h.reply _
  · exact h.reply _

theorem queryCard card validUntil : KeepsBounded (.queryCard card validUntil) := .of_serve _ _ (fun _ => rfl) fun _ h _ => by
  split
  · exact h.answer _ _
  · exact h.reply _

theorem queryBike bike : KeepsBounded (.queryBike bike) := .of_serve _ _ (fun _ => rfl) fun _ h _ => by
  split
  · exact h.answer _ _
  · exact h.reply _

theorem reportFault subject number kind severity : KeepsBounded (.reportFault subject number kind severity) :=
  .of_serve _ _ (fun _ => rfl) fun _ h _ => by
  split
  · exact h.reply _
  · split
    · exact h.reply _
    · split
      · exact (h.reportFault _).answer _ _
      · exact (h.reportFault _).reply _

theorem clearFault subject number : KeepsBounded (.clearFault subject number) := .of_serve _ _ (fun _ => rfl) fun _ h _ => by
  split
  · exact h.reply _
  · split
    · exact h.reply _
    · exact (h.clearFaultsOf _).answer _ _

theorem readFaults : KeepsBounded .readFaults := .of_serve _ _ (fun _ => rfl) fun _ h _ => h.answer _ _

/-! ### The dock unit (Chapter 3) -/

theorem dockDisable dock : KeepsBounded (.dockDisable dock) := .of_serve _ _ (fun _ => rfl) fun _ h _ => by
  split
  · exact (State.BoundedOwing.disableDock h _).reply _
  · exact h.reply _

theorem dockEnable dock : KeepsBounded (.dockEnable dock) := .of_serve _ _ (fun _ => rfl) fun _ h _ => by
  split
  · exact (State.BoundedOwing.enableDock h _).reply _
  · exact h.reply _

theorem readDocks : KeepsBounded .readDocks := .of_serve _ _ (fun _ => rfl) fun _ h _ => h.answer _ _

theorem poll : KeepsBounded .poll := .of_next _ (fun _ => rfl) fun _ h => by
  split
  · exact h.sendPoll
  · exact h

theorem pollAnswerTimeout : KeepsBounded .pollAnswerTimeout := .of_next _ (fun _ => rfl) fun _ h => by
  split
  · exact h.noAnswer
  · exact h

theorem heartbeat dock bike : KeepsBounded (.heartbeat dock bike) := .of_next _ (fun _ => rfl) fun s h =>
  h.takeAnswer fun heard started => by
  split
  · exact State.BoundedOwing.firstHeartbeat heard _ _
  · split
    · exact State.BoundedOwing.recoverPost heard started _ _
    · exact State.BoundedOwing.compareHeartbeat heard started _ _

theorem card dock answer : KeepsBounded (.card dock answer) := .of_next _ (fun _ => rfl) fun _ h => by
  split
  · exact h.takeAnswer fun heard _ => State.BoundedOwing.tapCard heard _ _
  · split
    · exact h.noAnswer
    · exact h

theorem bikeOut dock : KeepsBounded (.bikeOut dock) := .of_next _ (fun _ => rfl) fun _ h =>
  h.takeAnswer fun heard started => State.BoundedOwing.bikeLeaves heard started _

theorem bikeIn dock bike : KeepsBounded (.bikeIn dock bike) := .of_next _ (fun _ => rfl) fun _ h => by
  split
  · exact h.takeAnswer fun heard started => State.BoundedOwing.bikeArrives heard started _ _
  · split
    · exact h.noAnswer
    · exact h

theorem button dock : KeepsBounded (.button dock) := .of_next _ (fun _ => rfl) fun _ h =>
  h.takeAnswer fun heard _ => State.BoundedOwing.pressButton heard _

theorem lockFail dock : KeepsBounded (.lockFail dock) := .of_next _ (fun _ => rfl) fun _ h =>
  h.takeAnswer fun heard _ => (heard.report _ _ _).dockFaultRaised _

theorem releaseTimeout dock : KeepsBounded (.releaseTimeout dock) := .of_next _ (fun _ => rfl) fun _ h => by
  split
  · split
    · exact State.BoundedOwing.releaseTimesOut (h.reached _) _
    · exact h
  · exact h

theorem returnWindowExpiry dock : KeepsBounded (.returnWindowExpiry dock) := .of_next _ (fun _ => rfl) fun _ h => by
  split
  · split
    · exact State.BoundedOwing.updateDock (h.reached _) _ (by exact fun e => e)
    · exact h
  · exact h

theorem lampTransientEnd dock : KeepsBounded (.lampTransientEnd dock) := .of_next _ (fun _ => rfl) fun _ h => by
  split
  · split
    · exact State.BoundedOwing.updateDock (h.reached _) _ (by rw [Dock.forMember_placeResting]; exact fun e => e)
    · exact h
  · exact h

theorem postSilence dock : KeepsBounded (.postSilence dock) := .of_next _ (fun _ => rfl) fun _ h => by
  split
  · exact State.BoundedOwing.postFallsSilent (h.reached _) _
  · exact h

theorem pendingCloseRepeat bike endTime : KeepsBounded (.pendingCloseRepeat bike endTime) := .of_next _ (fun _ => rfl) fun _ h => by
  split
  · exact h.repeatClose _ _
  · exact h

/-! ### The balance unit (Chapter 7) -/

theorem claimExpiry van serial : KeepsBounded (.claimExpiry van serial) := .of_next _ (fun _ => rfl) fun _ h => by
  split
  · exact h.claimExpiry _
  · exact h

theorem sessionIdleTimeout : KeepsBounded .sessionIdleTimeout := .of_next _ (fun _ => rfl) fun _ h => by
  split
  · exact h.sessionIdle
  · exact h

theorem roomForClaim_length {l room : List VanClaim} (h : roomForClaim l = some room) (hl : l.length ≤ 4) : room.length < 4 := by
  unfold roomForClaim at h
  split at h
  · cases h
    assumption
  · split at h
    · rename_i found
      cases h
      obtain ⟨c, hc, final⟩ := List.any_eq_true.mp found
      have := List.length_eraseP_add_one hc final
      omega
    · cases h

theorem claim station action amount lifetime : KeepsBounded (.claim station action amount lifetime) :=
  .of_serve _ _ (fun _ => rfl) fun s h _ => by
  split
  · exact h.reply _
  · split
    · exact h.reply _
    · rename_i room made
      have := roomForClaim_length made h.bu.ownClaims
      exact ((h.setOwnClaims (by rw [List.length_append, List.length_singleton]; omega)).useClaimSerial.originate _ _).answer _ _

theorem openSession station : KeepsBounded (.openSession station) := .of_serve _ _ (fun _ => rfl) fun _ h _ => by
  split
  · exact h.reply _
  · split
    · exact h.reply _
    · exact ((h.setVanSession _).originate _ _).reply _

theorem take dock : KeepsBounded (.take dock) := .of_serve _ _ (fun _ => rfl) fun _ h _ => by
  split
  · exact h.reply _
  · split
    · exact h.reply _
    · split
      · exact h.reply _
      · split
        · exact h.reply _
        · exact ((h.setVanSession _).originate _ _).answer _ _

theorem announceDelivery bikes : KeepsBounded (.announceDelivery bikes) := .of_serve _ _ (fun _ => rfl) fun _ h _ => by
  split
  · exact h.reply _
  · split
    · exact h.reply _
    · split
      · exact (h.originate _ _).reply _
      · exact h.reply _

theorem closeSession : KeepsBounded .closeSession := .of_serve _ _ (fun _ => rfl) fun _ h _ => by
  split
  · exact h.reply _
  · split
    · exact ((h.setVanSession _).originate _ _).reply _
    · exact h.reply _

theorem unload bike : KeepsBounded (.unload bike) := .of_serve _ _ (fun _ => rfl) fun s h _ => by
  split
  · exact h.reply _
  · split
    · exact (h.filterLoad _ s.bu.vanSummary).reply _
    · exact h.reply _

theorem readLoad : KeepsBounded .readLoad := .of_serve _ _ (fun _ => rfl) fun _ h _ => h.answer _ _
theorem readClaims : KeepsBounded .readClaims := .of_serve _ _ (fun _ => rfl) fun _ h _ => h.answer _ _

theorem claimAnswerTimeout serial : KeepsBounded (.claimAnswerTimeout serial) := .of_next _ (fun _ => rfl) fun s h => by
  split
  · split
    · exact h
    · rename_i c _
      have later := h.reached (c.answerStart + 10000)
      dsimp only
      split
      · exact (later.setOwnClaims_updateFirst _ _).originate _ _
      · exact (later.setOwnClaims_updateFirst _ _).raise _
  · exact h

theorem vanClaimExpiry serial : KeepsBounded (.vanClaimExpiry serial) := .of_next _ (fun _ => rfl) fun s h => by
  split
  · split
    · exact h
    · rename_i c _
      have later := h.reached (c.lifeStart + c.lifetime * 60000)
      dsimp only
      split
      · exact later
      · exact later.setOwnClaims_updateFirst _ _
  · exact h

theorem sessionAnswerTimeout : KeepsBounded .sessionAnswerTimeout := .of_next _ (fun _ => rfl) fun s h => by
  split
  · split
    · exact h
    · rename_i v _
      have later := h.reached (v.answerStart + 10000)
      split
      · exact h
      · dsimp only
        split
        · exact later.retrySession _ _
        · exact (later.setVanSession none).raise _
      · dsimp only
        split
        · exact later.retrySession _ _
        · exact later.endVanSession _
  · exact h

theorem vanSessionIdleTimeout : KeepsBounded .vanSessionIdleTimeout := .of_next _ (fun _ => rfl) fun _ h => by
  split
  · split
    · exact h
    · split
      · exact (h.reached _).endVanSession _
      · exact h
  · exact h

theorem takeAnswerTimeout request : KeepsBounded (.takeAnswerTimeout request) := .of_next _ (fun _ => rfl) fun s h => by
  split
  · split
    · exact h
    · split
      · exact h
      · rename_i t _
        have later := h.reached (t.timerStart + 2000)
        dsimp only
        split
        · exact (later.setTakes _ _).originate _ _
        · exact later.endTake _ _ _
  · exact h

theorem takeCompletionTimeout request : KeepsBounded (.takeCompletionTimeout request) := .of_next _ (fun _ => rfl) fun _ h => by
  split
  · split
    · exact h
    · split
      · exact h
      · exact (h.reached _).endTake _ _ _
  · exact h

/-! ### The street link (Chapter 2) -/

theorem readNeighbours : KeepsBounded .readNeighbours := .of_serve _ _ (fun _ => rfl) fun _ h _ => h.answer _ _

theorem carrierRise : KeepsBounded .carrierRise := .of_next _ (fun _ => rfl) fun s h => by
  split
  · exact h
  · have risen : (s.setSlc { s.slc with carrier := true }).Bounded := h.setSlc { h.slc with }
    dsimp only
    split
    · exact (risen.setAssembly _).findBusy
    · exact risen

theorem carrierFall gotByte : KeepsBounded (.carrierFall gotByte) := .of_next _ (fun _ => rfl) fun s h => by
  split
  · have fallen : (s.setSlc { s.slc with carrier := false, slotStart := s.timebase }).Bounded := h.setSlc { h.slc with }
    dsimp only
    split
    · split
      · split
        · exact (fallen.setAssembly _).truncatedError
        · exact fallen.setAssembly _
      · exact (fallen.setAssembly _).truncatedError
      · exact fallen.setAssembly _
      · exact fallen.setAssembly _
    · exact fallen
  · exact h

theorem frameCompleted frame : KeepsBounded (.frameCompleted frame) := .of_next _ (fun _ => rfl) fun s h => by
  split
  · have ended := h.setAssembly .ended
    dsimp only
    split
    · rename_i room
      exact ended.setSlc { ended.slc with buffer := by rw [List.length_append, List.length_singleton]; exact room }
    · exact ended.overrunError
  · exact h

theorem frameProcessed : KeepsBounded .frameProcessed := .of_next _ (fun _ => rfl) fun s h => by
  split
  · exact h
  · rename_i frame rest buffer
    split
    · have taken : (s.setSlc { s.slc with rxBuffer := rest }).Bounded :=
        h.setSlc { h.slc with buffer := by have := h.slc.buffer; rw [buffer, List.length_cons] at this; dsimp only; omega }
      dsimp only
      split
      · exact taken.checkError
      · exact taken.lengthError
      · rename_i n valid
        refine taken.hear ?_
        have := testFrame_inRange valid
        simp only [Notice.inRange, Bool.and_eq_true] at this
        tauto
    · exact h

theorem slotEnd : KeepsBounded .slotEnd := .of_next _ (fun _ => rfl) fun s h => by
  split
  · split
    · split
      · have later := h.reached (s.slc.slotStart + 10)
        exact State.BoundedOwing.slotEnds (later.setSlc (by exact { later.slc with })) _ _
      · exact h
    · exact h
  · exact h

theorem transmissionEnd : KeepsBounded .transmissionEnd := .of_next _ (fun _ => rfl) fun s h => by
  split
  · exact State.BoundedOwing.reselect (h.setSlc (by exact { h.slc with }))
  · exact h

theorem bodyLengthArrived length : KeepsBounded (.bodyLengthArrived length) := .of_next _ (fun _ => rfl) fun _ h => by
  split
  · split
    · exact (h.setAssembly _).lengthError
    · exact h.setAssembly _
  · exact h

theorem relayDelayExpiry origin serial : KeepsBounded (.relayDelayExpiry origin serial) := .of_next _ (fun _ => rfl) fun s h => by
  split
  · exact h
  · split
    · have left := (h.reached (‹RelayEntry›.start + ‹RelayEntry›.delay)).setRelays
        (l := s.slc.relays.eraseP fun e => e.isFor { node := origin, serial := serial })
        (List.eraseP_sublist.length_le.trans h.slc.relays)
      dsimp only
      split
      · exact left.enqueue _ _ _
      · exact left
    · exact h

theorem ownQuietExpiry : KeepsBounded .ownQuietExpiry := .of_next _ (fun _ => rfl) fun s h => by
  split
  · exact h
  · rename_i t _
    split
    · have lapsed : ((s.reached (t + 20000)).setSlc { s.slc with ownQuiet := none }).Bounded :=
        State.BoundedOwing.setSlc (h.reached _) { h.slc with }
      dsimp only
      split
      · exact lapsed.flood _
      · exact lapsed
    · exact h

theorem neighbourQuietExpiry node : KeepsBounded (.neighbourQuietExpiry node) := .of_next _ (fun _ => rfl) fun s h => by
  split
  · exact h
  · split
    · exact (h.reached _).updateNeighbour _ fun _ => rfl
    · exact h

theorem neighbourAgeExpiry node : KeepsBounded (.neighbourAgeExpiry node) := .of_next _ (fun _ => rfl) fun s h => by
  split
  · exact h
  · split
    · exact (h.reached _).setNeighbours (List.eraseP_sublist.length_le.trans h.slc.neighbours)
        ((List.eraseP_sublist.map _).nodup h.slc.neighboursOnce)
    · exact h

theorem beaconTimerExpiry : KeepsBounded .beaconTimerExpiry := .of_next _ (fun _ => rfl) fun s h => by
  split
  · exact h
  · rename_i t _
    split
    · have later := h.reached t
      refine State.BoundedOwing.setBeaconTimer ?_ _
      split
      · exact later
      · exact later.flood _
    · exact h

/-! ### Supply and start-up (Chapter 10) -/

theorem brownOut : KeepsBounded .brownOut := .of_next _ (fun _ => rfl) fun _ h => h.cutOff.setSup fun e => e

theorem resetAssert : KeepsBounded .resetAssert := .of_next _ (fun _ => rfl) fun _ h => h.cutOff.setSup fun e => e

theorem powerHoldEnd hold : KeepsBounded (.powerHoldEnd hold) := .of_next _ (fun _ => rfl) fun s h => by
  split
  · exact h
  · dsimp only
    split
    · exact ((h.reached _).setDom _).setSup fun e => e
    · exact State.beginStart_bounded _ _ _

theorem resetRelease sense : KeepsBounded (.resetRelease sense) := .of_next _ (fun _ => rfl) fun s h => by
  split
  · dsimp only
    split
    · exact h.setSup fun e => e
    · exact State.beginStart_bounded _ _ _
  · exact h

theorem listenTimerExpiry : KeepsBounded .listenTimerExpiry := .of_next _ (fun _ => rfl) fun s h => by
  split
  · exact (((h.reached _).setSup (fun e => by rcases e with e | e <;> cases e)).setBeaconTimer 0).reselect.evaluateSettlement
  · exact h

theorem batteryReading input : KeepsBounded (.batteryReading input) := .of_next _ (fun _ => rfl) fun s h => by
  split
  · exact h
  · have start (p : Sup) (reading : Nat) : (p.filtered reading).start = p.start := by
      unfold Sup.filtered
      dsimp only
      (repeat' split) <;> rfl
    have filtered := (h.reached (s.sup.readingAt + 1000)).setSup
      (b := { (s.reached (s.sup.readingAt + 1000)).sup.filtered (clampReading input) with
        readingAt := (s.reached (s.sup.readingAt + 1000)).timebase }) (by dsimp only; rw [start]; exact fun e => e)
    dsimp only
    split
    · exact filtered
    · exact filtered.announceSupply

end KeepsBounded

/-- REPLAY completed keeps the bounds where the store fits them. -/
theorem State.Bounded.replayComplete {s t : State} (h : s.Bounded) (fits : s.StoreFits) (e : exec .replayComplete s = .next t) :
    t.Bounded := by
  have completed : exec .replayComplete s =
      .next (if s.inReset = false ∧ s.sup.start = .replay ∧ s.storeFree then s.replayStore.enterListen else s) := rfl
  rw [completed] at e
  cases e
  split
  · rename_i replaying
    exact (h.replayStore replaying.2.1 fits).enterListen
  · exact h

/-- Every command but the completion of REPLAY keeps every bound in every state. -/
theorem exec_keepsBounded : ∀ i : Instr, i ≠ .replayComplete → KeepsBounded i
  | .sendTransfer .., _ => KeepsBounded.sendTransfer _ _ _
  | .sendTransferCut .., _ => KeepsBounded.sendTransferCut _
  | .fetchTransfer .., _ => KeepsBounded.fetchTransfer _ _
  | .restartAnswerTimeout .., _ => KeepsBounded.restartAnswerTimeout _
  | .getStatus, _ => KeepsBounded.getStatus
  | .getCause, _ => KeepsBounded.getCause
  | .setAttentionMask .., _ => KeepsBounded.setAttentionMask _
  | .takeRecords .., _ => KeepsBounded.takeRecords _
  | .setSettlement .., _ => KeepsBounded.setSettlement _ _
  | .setTime .., _ => KeepsBounded.setTime _
  | .getTime, _ => KeepsBounded.getTime
  | .loadBand .., _ => KeepsBounded.loadBand _ _
  | .loadClass .., _ => KeepsBounded.loadClass _ _
  | .loadWindow .., _ => KeepsBounded.loadWindow _ _
  | .readTariff, _ => KeepsBounded.readTariff
  | .holdCard .., _ => KeepsBounded.holdCard _ _
  | .liftHold .., _ => KeepsBounded.liftHold _ _
  | .queryCard .., _ => KeepsBounded.queryCard _ _
  | .queryBike .., _ => KeepsBounded.queryBike _
  | .reportFault .., _ => KeepsBounded.reportFault _ _ _ _
  | .clearFault .., _ => KeepsBounded.clearFault _ _
  | .readFaults, _ => KeepsBounded.readFaults
  | .dockDisable .., _ => KeepsBounded.dockDisable _
  | .dockEnable .., _ => KeepsBounded.dockEnable _
  | .readDocks, _ => KeepsBounded.readDocks
  | .readNeighbours, _ => KeepsBounded.readNeighbours
  | .claim .., _ => KeepsBounded.claim _ _ _ _
  | .openSession .., _ => KeepsBounded.openSession _
  | .take .., _ => KeepsBounded.take _
  | .announceDelivery .., _ => KeepsBounded.announceDelivery _
  | .closeSession, _ => KeepsBounded.closeSession
  | .unload .., _ => KeepsBounded.unload _
  | .readLoad, _ => KeepsBounded.readLoad
  | .readClaims, _ => KeepsBounded.readClaims
  | .readOptions, _ => KeepsBounded.readOptions
  | .writeOptions .., _ => KeepsBounded.writeOptions _
  | .restart, _ => KeepsBounded.restart
  | .optionAreaRead, _ => KeepsBounded.optionAreaRead
  | .optionWriteStart, _ => KeepsBounded.optionWriteStart
  | .optionWriteEnd .., _ => KeepsBounded.optionWriteEnd _
  | .brownOut, _ => KeepsBounded.brownOut
  | .powerHoldEnd .., _ => KeepsBounded.powerHoldEnd _
  | .resetAssert, _ => KeepsBounded.resetAssert
  | .resetRelease .., _ => KeepsBounded.resetRelease _
  | .replayComplete, other => absurd rfl other
  | .listenTimerExpiry, _ => KeepsBounded.listenTimerExpiry
  | .batteryReading .., _ => KeepsBounded.batteryReading _
  | .rawTick, _ => KeepsBounded.rawTick
  | .gradeRise, _ => KeepsBounded.gradeRise
  | .temperatureSample .., _ => KeepsBounded.temperatureSample _
  | .minuteBoundary, _ => KeepsBounded.minuteBoundary
  | .carrierRise, _ => KeepsBounded.carrierRise
  | .carrierFall .., _ => KeepsBounded.carrierFall _
  | .frameCompleted .., _ => KeepsBounded.frameCompleted _
  | .frameProcessed, _ => KeepsBounded.frameProcessed
  | .slotEnd, _ => KeepsBounded.slotEnd
  | .transmissionEnd, _ => KeepsBounded.transmissionEnd
  | .relayDelayExpiry .., _ => KeepsBounded.relayDelayExpiry _ _
  | .ownQuietExpiry, _ => KeepsBounded.ownQuietExpiry
  | .neighbourQuietExpiry .., _ => KeepsBounded.neighbourQuietExpiry _
  | .neighbourAgeExpiry .., _ => KeepsBounded.neighbourAgeExpiry _
  | .beaconTimerExpiry, _ => KeepsBounded.beaconTimerExpiry
  | .poll, _ => KeepsBounded.poll
  | .pollAnswerTimeout, _ => KeepsBounded.pollAnswerTimeout
  | .heartbeat .., _ => KeepsBounded.heartbeat _ _
  | .card .., _ => KeepsBounded.card _ _
  | .bikeOut .., _ => KeepsBounded.bikeOut _
  | .bikeIn .., _ => KeepsBounded.bikeIn _ _
  | .button .., _ => KeepsBounded.button _
  | .lockFail .., _ => KeepsBounded.lockFail _
  | .releaseTimeout .., _ => KeepsBounded.releaseTimeout _
  | .returnWindowExpiry .., _ => KeepsBounded.returnWindowExpiry _
  | .lampTransientEnd .., _ => KeepsBounded.lampTransientEnd _
  | .postSilence .., _ => KeepsBounded.postSilence _
  | .pendingCloseRepeat .., _ => KeepsBounded.pendingCloseRepeat _ _
  | .claimExpiry .., _ => KeepsBounded.claimExpiry _ _
  | .sessionIdleTimeout, _ => KeepsBounded.sessionIdleTimeout
  | .claimAnswerTimeout .., _ => KeepsBounded.claimAnswerTimeout _
  | .vanClaimExpiry .., _ => KeepsBounded.vanClaimExpiry _
  | .sessionAnswerTimeout, _ => KeepsBounded.sessionAnswerTimeout
  | .vanSessionIdleTimeout, _ => KeepsBounded.vanSessionIdleTimeout
  | .takeAnswerTimeout .., _ => KeepsBounded.takeAnswerTimeout _
  | .takeCompletionTimeout .., _ => KeepsBounded.takeCompletionTimeout _
  | .settlementIdleTimeout, _ => KeepsBounded.settlementIdleTimeout
  | .journalWriteStart, _ => KeepsBounded.journalWriteStart
  | .journalWriteEnd .., _ => KeepsBounded.journalWriteEnd _
  | .bodyLengthArrived .., _ => KeepsBounded.bodyLengthArrived _
  | .backupDomainPowerLost, _ => KeepsBounded.backupDomainPowerLost

/-- Settles O55, command by command: each is a row of operations that keep every bound, and the completion of REPLAY rebuilds lists that
the store keeps within theirs. -/
theorem stepsKeepTheCollectionsBounded : Obligations.StepsKeepTheCollectionsBounded := by
  intro s t link tables need hires fits e
  rw [← State.bounded_iff]
  have h : s.Bounded := (State.bounded_iff s).mpr ⟨link, tables, need, hires⟩
  obtain ⟨-, rfl⟩ | ⟨c, rest, front, taken⟩ := step_cases e
  · exact h.setTimebase _
  · by_cases replay : c = .replayComplete
    · subst replay
      have fitting := fits (by rw [front]; rfl)
      exact State.Bounded.replayComplete (h.setPending rest) { fitting with } taken
    · exact exec_keepsBounded c replay _ _ (h.setPending rest) taken

end Sys2Proof.Machine
end

section
/-!
PROOFS. The choice of R20 on a queue whose oldest notice of the highest class is known, and what LISTEN's end begins (R20, R38, R152,
R182).
-/
namespace Sys2Proof.Machine
open Sys2Proof

/-! ### The oldest notice of the highest class (R20) -/

/-- The queue's oldest notice of its highest class is e, after the notices before. -/
structure OldestOf (q before : List QueueEntry) (e : QueueEntry) (rest : List QueueEntry) : Prop where
  queue : q = before ++ e :: rest
  older : ∀ x ∈ before, x.cls ≠ e.cls
  highest : HighestOf q e.cls

/-- The first notice of a class that is queued. -/
theorem exists_first_of_class {q : List QueueEntry} {c : TxClass} (h : ¬ ∀ x ∈ q, x.cls ≠ c) :
    ∃ before e rest, q = before ++ e :: rest ∧ (∀ x ∈ before, x.cls ≠ e.cls) ∧ e.cls = c := by
  push Not at h
  obtain ⟨x, hx, hc⟩ := h
  obtain ⟨e, before, rest, older, he, hq, -⟩ :=
    List.exists_of_eraseP (p := fun y : QueueEntry => decide (y.cls = c)) hx (by simpa using hc)
  have he : e.cls = c := by simpa using he
  exact ⟨before, e, rest, hq, fun y hy => by simpa [he] using older y hy, he⟩

theorem exists_oldestOf {q : List QueueEntry} (h : q ≠ []) : ∃ before e rest, OldestOf q before e rest := by
  by_cases urgent : ∀ x ∈ q, x.cls ≠ .urgent
  · by_cases normal : ∀ x ∈ q, x.cls ≠ .normal
    · have background : ¬ ∀ x ∈ q, x.cls ≠ .background := by
        obtain ⟨x, hx⟩ := List.exists_mem_of_ne_nil q h
        intro none
        cases c : x.cls
        · exact urgent x hx c
        · exact normal x hx c
        · exact none x hx c
      obtain ⟨before, e, rest, hq, older, -⟩ := exists_first_of_class background
      exact ⟨before, e, rest, hq, older, .inr ⟨urgent, .inr normal⟩⟩
    · obtain ⟨before, e, rest, hq, older, he⟩ := exists_first_of_class normal
      exact ⟨before, e, rest, hq, older, .inr ⟨urgent, .inl he⟩⟩
  · obtain ⟨before, e, rest, hq, older, he⟩ := exists_first_of_class urgent
    exact ⟨before, e, rest, hq, older, .inl he⟩

/-- The first notice of a class stands where the search for the class finds it. -/
theorem findIdx?_class {before : List QueueEntry} {e : QueueEntry} (rest : List QueueEntry) (older : ∀ x ∈ before, x.cls ≠ e.cls) :
    (before ++ e :: rest).findIdx? (fun x => decide (x.cls = e.cls)) = some before.length := by
  rw [List.findIdx?_append, List.findIdx?_eq_none_iff.mpr fun x hx => by simpa using older x hx]
  simp [List.findIdx?_cons]

theorem findIdx?_no_class {q : List QueueEntry} {c : TxClass} (h : ∀ x ∈ q, x.cls ≠ c) :
    q.findIdx? (fun x => decide (x.cls = c)) = none := List.findIdx?_eq_none_iff.mpr fun x hx => by simpa using h x hx

/-- The choice is the oldest notice of the highest class. -/
theorem OldestOf.chosen {q before : List QueueEntry} {e : QueueEntry} {rest : List QueueEntry} (h : OldestOf q before e rest) :
    chosenEntry q = some before.length := by
  have found := findIdx?_class rest h.older
  have member : e ∈ q := by rw [h.queue]; simp
  rw [← h.queue] at found
  unfold chosenEntry
  cases c : e.cls with
  | urgent =>
    rw [c] at found
    rw [found, Option.orElse_some]
  | normal =>
    rw [c] at found
    obtain urgent | ⟨urgent, -⟩ := h.highest
    · cases c.symm.trans urgent
    · rw [findIdx?_no_class urgent, found, Option.orElse_none, Option.orElse_some]
  | background =>
    rw [c] at found
    obtain urgent | ⟨urgent, normal | normal⟩ := h.highest
    · cases c.symm.trans urgent
    · cases c.symm.trans normal
    · rw [findIdx?_no_class urgent, findIdx?_no_class normal, found, Option.orElse_none, Option.orElse_none]

/-- The entry at a place comes into access, and every other leaves it. -/
theorem enterAccess_append (carrier : Bool) (before : List QueueEntry) (e : QueueEntry) (rest : List QueueEntry) :
    enterAccess carrier before.length (before ++ e :: rest) =
      before.map (fun x => { x with access := none }) ++
        (if e.access.isSome then e else { e with access := some (Access.begin e.cls carrier) }) ::
          rest.map fun x => { x with access := none } := by
  induction before with
  | nil => rfl
  | cons x before ih => rw [List.length_cons, List.cons_append, enterAccess, ih]; rfl

namespace State
variable {s : State}

/-- An access in progress on the notice to go next goes on. -/
theorem reselect_kept {before rest : List QueueEntry} {e : QueueEntry} (h : OldestOf s.slc.queue before e rest)
    (he : e.access.isSome = true) : s.reselect = s := by
  unfold State.reselect
  rw [h.chosen]
  have found : (s.slc.queue[before.length]?.bind (·.access)).isSome = true := by simpa [h.queue] using he
  dsimp only
  rw [if_pos found, ite_self]

/-- The notice to go next comes into access, and any other leaves it. -/
theorem reselect_begins (running : s.sup.start = .run) (idle : s.slc.transmitting = none) {before rest : List QueueEntry}
    {e : QueueEntry} (h : OldestOf s.slc.queue before e rest) (he : e.access = none) :
    s.reselect = s.setSlc { s.slc with
      queue := before.map (fun x => { x with access := none }) ++
        { e with access := some (Access.begin e.cls s.slc.carrier) } :: rest.map fun x => { x with access := none },
      slotStart := s.timebase } := by
  have found : (s.slc.queue[before.length]?.bind (·.access)).isSome = false := by simp [h.queue, he]
  have entered := enterAccess_append s.slc.carrier before e rest
  rw [← h.queue, he] at entered
  unfold State.reselect
  rw [if_pos ⟨running, idle⟩, h.chosen]
  dsimp only
  rw [found, entered]
  rfl

/-- Out of RUN, and while a frame is in flight, no choice is made. -/
theorem reselect_waits (h : s.sup.start ≠ .run ∨ s.slc.transmitting.isSome = true) : s.reselect = s := by
  unfold State.reselect
  rw [if_neg]
  rintro ⟨running, idle⟩
  rw [idle] at h
  exact h.elim (fun other => other running) (fun sends => by cases sends)

/-- In RUN, with nothing in flight, the oldest notice of the highest class queued is in access after the choice. -/
theorem reselect_oldestInAccess (running : s.sup.start = .run) (idle : s.slc.transmitting = none) (queued : s.slc.queue ≠ []) :
    s.reselect.OldestInAccess := by
  obtain ⟨before, e, rest, h⟩ := exists_oldestOf queued
  cases he : e.access with
  | some a =>
    have access : e.access.isSome = true := by rw [he]; rfl
    rw [reselect_kept h access]
    exact ⟨before, e, rest, h.queue, access, h.older, h.highest⟩
  | none =>
    have begun := congrArg (fun t => t.slc.queue) (reselect_begins running idle h he)
    refine ⟨_, _, _, begun, rfl, ?_, HighestOf.of_rows s.reselect_rows.symm h.highest⟩
    intro x hx
    obtain ⟨y, hy, rfl⟩ := List.mem_map.mp hx
    exact h.older y hy

/-- The choice touches the queue's accesses and the beginning of the slot, and nothing else. -/
theorem reselect_eq (s : State) : s.reselect = s.setSlc { s.slc with
    queue := s.reselect.slc.queue, slotStart := s.reselect.slc.slotStart } := by
  apply State.eq_of_blocks <;> simp
  exact s.reselect_slc

theorem draw_lt (s : State) {n : Nat} (h : 0 < n) : s.draw n < n := Nat.mod_lt _ h

end State

/-! ### The end of LISTEN (R182) -/

/-- In RUN the SETTLEMENT cause is set to its condition (R152). -/
theorem State.evaluateSettlement_running {s : State} (h : s.sup.start = .run) :
    s.evaluateSettlement = s.setKl { s.kl with raised := { s.kl.raised with settlement := s.settlementDue } } := by
  unfold State.evaluateSettlement
  rw [if_pos h]
  rfl

/-- Settles O30: the listen timer's command is the choice of R20 and the first evaluation of SETTLEMENT, made in RUN. -/
theorem listenEndsInRun : Obligations.ListenEndsInRun := by
  intro s awake listening idle
  let now := max s.timebase (s.sup.listenStart + 30000)
  let begun : State := { s with
    timebase := now, sup := { s.sup with start := .run }, draws := s.draws + 1,
    slc := { s.slc with beaconTimer := some (now + 0 + s.draw 1001) } }
  have taken : exec .listenTimerExpiry s = .next begun.reselect.evaluateSettlement := by
    have arm : exec .listenTimerExpiry s = .next (if s.inReset = false ∧ s.sup.start = .listen then
        begun.reselect.evaluateSettlement else s) := rfl
    rw [arm, if_pos ⟨awake, listening⟩]
  have evaluated := State.evaluateSettlement_running (s := begun.reselect) (by simp [begun])
  have slc : begun.reselect.evaluateSettlement.slc = begun.reselect.slc := by simp
  refine ⟨_, s.draw 1001, taken, Nat.le_of_lt_succ (s.draw_lt (by decide)), ?_, ?_, ?_, ?_, ?_, ?_, ?_⟩
  · simp [begun, now]
  · simp [begun]
  · rw [slc, begun.reselect_slc]
    simp [begun]
  · rw [slc]
    exact begun.reselect_rows
  · intro queued
    unfold State.OldestInAccess
    rw [slc]
    exact State.reselect_oldestInAccess rfl idle queued
  · rw [evaluated]
    exact Iff.rfl
  · have kl : begun.reselect.kl = s.kl := by simp [begun]
    apply State.eq_of_blocks
    case h9 => rw [evaluated, State.setKl_kl, kl]
    all_goals simp [begun]

end Sys2Proof.Machine
end

section
/-!
PROOFS. What joins the transmit queue, and what origination does (R18 to R22, R139).
-/
namespace Sys2Proof.Machine
open Sys2Proof

/-! ### Joining the transmit queue (R21) -/

section
variable {q : List QueueEntry} {e : QueueEntry}

theorem joinQueue_replaces (beacon : e.isBeacon = true) (queued : q.any QueueEntry.isBeacon = true) :
    joinQueue q e = (q.filter (fun x => !x.isBeacon) ++ [e], false) := by
  rw [joinQueue, beacon, queued, Bool.and_self, if_pos rfl]

theorem joinQueue_room (apart : (e.isBeacon && q.any QueueEntry.isBeacon) = false) (room : q.length < 12) :
    joinQueue q e = (q ++ [e], false) := by
  rw [joinQueue, apart, if_neg Bool.false_ne_true, if_pos room]

theorem joinQueue_evictsBeacon (other : e.isBeacon = false) (full : 12 ≤ q.length) (cls : e.cls ≠ .background)
    (queued : q.any QueueEntry.isBeacon = true) : joinQueue q e = (q.filter (fun x => !x.isBeacon) ++ [e], true) := by
  rw [joinQueue, other, Bool.false_and, if_neg Bool.false_ne_true, if_neg (Nat.not_lt.mpr full)]
  cases c : e.cls with
  | background => exact absurd c cls
  | normal => simp [queued]
  | urgent => simp [queued]

theorem joinQueue_evictsNormal (other : e.isBeacon = false) (full : 12 ≤ q.length) (cls : e.cls = .urgent)
    (none : q.any QueueEntry.isBeacon = false) (queued : q.any QueueEntry.isNormal = true) :
    joinQueue q e = (q.eraseP QueueEntry.isNormal ++ [e], true) := by
  rw [joinQueue, other, Bool.false_and, if_neg Bool.false_ne_true, if_neg (Nat.not_lt.mpr full), cls]
  simp [none, queued]

theorem joinQueue_drops (full : 12 ≤ q.length) (none : q.any QueueEntry.isBeacon = false)
    (cls : e.cls = .urgent → q.any QueueEntry.isNormal = false) : joinQueue q e = (q, true) := by
  rw [joinQueue, none, Bool.and_false, if_neg Bool.false_ne_true, if_neg (Nat.not_lt.mpr full)]
  cases c : e.cls with
  | background => rfl
  | normal => rfl
  | urgent => simp [cls c]

/-- What a join leaves in the queue, and what joins it. -/
theorem mem_joinQueue {x : QueueEntry} (h : x ∈ (joinQueue q e).1) : x ∈ q ∨ x = e := by
  have snoc {l : List QueueEntry} (hl : ∀ y ∈ l, y ∈ q) (hx : x ∈ l ++ [e]) : x ∈ q ∨ x = e := by
    obtain hx | hx := List.mem_append.mp hx
    · exact .inl (hl x hx)
    · exact .inr (List.mem_singleton.mp hx)
  have unbeaconed := snoc fun y hy => List.mem_of_mem_filter (p := fun x => !x.isBeacon) hy
  unfold joinQueue at h
  split at h
  · exact unbeaconed h
  · split at h
    · exact snoc (fun y hy => hy) h
    · split at h
      · exact .inl h
      · split at h
        · exact unbeaconed h
        · exact .inl h
      · split at h
        · exact unbeaconed h
        · split at h
          · exact snoc (fun y hy => List.mem_of_mem_eraseP hy) h
          · exact .inl h

/-- The queue is not empty after a join. -/
theorem joinQueue_ne_nil : (joinQueue q e).1 ≠ [] := by
  have full {l : List QueueEntry} (h : ¬ l.length < 12) : l ≠ [] := by
    rintro rfl
    simp at h
  unfold joinQueue
  split
  · simp
  · split
    · simp
    · (repeat' split) <;> simp [full ‹_›]

/-- A notice that is no beacon, and gives way to no urgent one, stays in its place when another joins. -/
theorem joinQueue_keeps {before rest : List QueueEntry} {x : QueueEntry} (beacon : x.isBeacon = false)
    (normal : x.cls = .normal → e.cls ≠ .urgent) :
    ∃ before' rest', (joinQueue (before ++ x :: rest) e).1 = before' ++ x :: rest' ∧ ∀ y ∈ before', y ∈ before := by
  have unbeaconed : (before ++ x :: rest).filter (fun x => !x.isBeacon) ++ [e] =
      before.filter (fun x => !x.isBeacon) ++ x :: (rest.filter (fun x => !x.isBeacon) ++ [e]) := by simp [beacon]
  have filtered : ∀ y ∈ before.filter (fun x => !x.isBeacon), y ∈ before := fun y hy => List.mem_of_mem_filter hy
  unfold joinQueue
  split
  · exact ⟨_, _, unbeaconed, filtered⟩
  · split
    · exact ⟨before, rest ++ [e], by simp, fun y hy => hy⟩
    · split
      · exact ⟨before, rest, rfl, fun y hy => hy⟩
      · split
        · exact ⟨_, _, unbeaconed, filtered⟩
        · exact ⟨before, rest, rfl, fun y hy => hy⟩
      · rename_i urgent
        have other : ¬ x.isNormal = true := fun h => normal (by simpa [QueueEntry.isNormal] using h) urgent
        split
        · exact ⟨_, _, unbeaconed, filtered⟩
        · split
          · rw [List.eraseP_append]
            split
            · exact ⟨before.eraseP QueueEntry.isNormal, rest ++ [e], by simp, fun y hy => List.mem_of_mem_eraseP hy⟩
            · exact ⟨before, rest.eraseP QueueEntry.isNormal ++ [e], by simp [other], fun y hy => hy⟩
          · exact ⟨before, rest, rfl, fun y hy => hy⟩

end

/-! ### Origination (R19) -/

theorem NoticeBody.cls_background_iff (b : NoticeBody) : b.cls = .background ↔ b.kindCode = 7 := by
  cases b <;> simp [NoticeBody.cls, NoticeBody.kindCode]

/-- The queue entry of a notice originated. -/
def State.originatedEntry (s : State) (body : NoticeBody) (dest : Node) : QueueEntry :=
  { notice := s.originated body dest, cls := body.cls, relayed := false, access := none }

/-- The state with a notice originated in its queue, before the access is chosen anew. -/
def State.joined (s : State) (body : NoticeBody) (dest : Node) : State :=
  let r := joinQueue s.slc.queue (s.originatedEntry body dest)
  s.setSlc { s.slc with
    originSerial := nextSerial s.slc.originSerial, queue := r.1,
    txDrops := if r.2 then saturate 65535 s.slc.txDrops else s.slc.txDrops }

theorem State.originate_slc_eq (s : State) (body : NoticeBody) (dest : Node) :
    (s.originate body dest).slc = (s.joined body dest).reselect.slc := by
  rw [State.originate_eq]
  exact State.reselect_congr rfl (by simp [State.joined]) (by simp [State.joined])

/-- The rows of the queue after origination, and the drop count. -/
theorem State.originate_rows (s : State) (body : NoticeBody) (dest : Node) {l : List QueueEntry} {counted : Bool}
    (h : joinQueue s.slc.queue (s.originatedEntry body dest) = (l, counted)) :
    (s.originate body dest).slc.queue.map QueueEntry.row = l.map QueueEntry.row ∧
      (s.originate body dest).slc.txDrops = if counted then saturate 65535 s.slc.txDrops else s.slc.txDrops := by
  rw [State.originate_slc_eq, State.reselect_rows, State.reselect_slc]
  simp [State.joined, h]

/-! ### The queue and the access after origination (R20 to R22) -/

theorem State.joined_queue (s : State) (body : NoticeBody) (dest : Node) :
    (s.joined body dest).slc.queue = (joinQueue s.slc.queue (s.originatedEntry body dest)).1 := rfl

/-- An access in progress goes on where its notice is still the one to go next (R20). -/
theorem State.originate_keeps {s : State} {body : NoticeBody} (dest : Node) {before rest : List QueueEntry} {e : QueueEntry}
    (queue : s.slc.queue = before ++ e :: rest) (access : e.access.isSome = true) (beacon : e.isBeacon = false)
    (older : ∀ x ∈ before, x.cls ≠ e.cls)
    (highest : e.cls = .urgent ∨ e.cls = .normal ∧ body.cls ≠ .urgent ∧ ∀ x ∈ s.slc.queue, x.cls ≠ .urgent) :
    e ∈ (s.originate body dest).slc.queue := by
  have gives : e.cls = .normal → (s.originatedEntry body dest).cls ≠ .urgent := by
    intro normal
    obtain urgent | ⟨-, other, -⟩ := highest
    · cases normal.symm.trans urgent
    · exact other
  obtain ⟨before', rest', joined, kept⟩ := joinQueue_keeps (before := before) (rest := rest) beacon gives
  rw [← queue] at joined
  have oldest : OldestOf (s.joined body dest).slc.queue before' e rest' := {
    queue := joined
    older := fun x hx => older x (kept x hx)
    highest := by
      refine highest.imp id fun ⟨normal, other, lower⟩ => ⟨fun x hx => ?_, .inl normal⟩
      obtain hx | rfl := mem_joinQueue hx
      · exact lower x hx
      · exact other }
  rw [State.originate_slc_eq, State.reselect_kept oldest access, oldest.queue]
  simp

/-- A new URGENT notice takes the access from one of a lower class, which keeps its place (R20, R22). -/
theorem State.originate_urgent {s : State} {body : NoticeBody} (dest : Node) (running : s.sup.start = .run)
    (idle : s.slc.transmitting = none) (urgent : body.cls = .urgent) (lower : ∀ x ∈ s.slc.queue, x.cls ≠ .urgent)
    (room : s.slc.queue.length < 12) :
    (s.originate body dest).slc.queue = s.slc.queue.map (fun e => { e with access := none }) ++
      [{ notice := s.originated body dest, cls := .urgent, relayed := false,
         access := some (Access.begin .urgent s.slc.carrier) }] := by
  have other : (s.originatedEntry body dest).isBeacon = false := by
    have : ¬ body.kindCode = 7 := fun code => by cases urgent.symm.trans ((body.cls_background_iff).mpr code)
    exact decide_eq_false this
  have joined := joinQueue_room (q := s.slc.queue) (e := s.originatedEntry body dest) (by rw [other, Bool.false_and]) room
  have oldest : OldestOf (s.joined body dest).slc.queue s.slc.queue (s.originatedEntry body dest) [] := {
    queue := by rw [State.joined_queue, joined]
    older := fun x hx => by rw [show (s.originatedEntry body dest).cls = .urgent from urgent]; exact lower x hx
    highest := .inl urgent }
  rw [State.originate_slc_eq, State.reselect_begins (s := s.joined body dest) running idle oldest rfl]
  simp only [State.setSlc_slc, List.map_nil, State.originatedEntry, urgent]
  rfl

/-- The choice made anew brings at most one notice into access, and that in RUN with nothing in flight (R20). -/
theorem State.originate_waits {s : State} (body : NoticeBody) (dest : Node)
    (h : s.sup.start ≠ .run ∨ s.slc.transmitting.isSome = true) :
    ∀ e ∈ (s.originate body dest).slc.queue, e ∈ s.slc.queue ∨ e.access = none := by
  intro e he
  rw [State.originate_slc_eq, State.reselect_waits (s := s.joined body dest) h] at he
  refine (mem_joinQueue he).imp id ?_
  rintro rfl
  rfl

/-- Settles O15, from the cases of the join, the choice of R20 and the frame of origination. -/
theorem originatedNoticesJoinTheQueue : Obligations.OriginatedNoticesJoinTheQueue := by
  intro s body dest t n isBeacon isNormal before after entry counted replaces
  have hasBeacon : before.any isBeacon = s.slc.queue.any QueueEntry.isBeacon := by rw [List.any_map]; rfl
  have hasNormal : before.any isNormal = s.slc.queue.any QueueEntry.isNormal := by rw [List.any_map]; rfl
  have length : before.length = s.slc.queue.length := List.length_map _
  have unbeaconed : (s.slc.queue.filter (fun x => !x.isBeacon) ++ [s.originatedEntry body dest]).map QueueEntry.row =
      before.filter (fun x => !isBeacon x) ++ [entry] := by
    rw [List.map_append, List.filter_map]
    rfl
  have isBeacon_iff : (s.originatedEntry body dest).isBeacon = decide (body.kindCode = 7) := rfl
  have other : body.cls ≠ .background → (s.originatedEntry body dest).isBeacon = false := fun cls => by
    rw [isBeacon_iff, decide_eq_false_iff_not, ← NoticeBody.cls_background_iff]
    exact cls
  rw [hasBeacon, hasNormal, length]
  refine ⟨?_, ?_, ?_, ?_, ?_, ?_, s.originate_waits body dest, ?_, ?_⟩
  · rintro ⟨beacon, queued⟩
    have rows := s.originate_rows body dest (joinQueue_replaces (by simpa [isBeacon_iff] using beacon) (hasBeacon ▸ queued))
    exact ⟨rows.1.trans unbeaconed, rows.2⟩
  · intro apart room
    have rows := s.originate_rows body dest (joinQueue_room (by
      rw [isBeacon_iff, ← hasBeacon, Bool.and_eq_false_iff, decide_eq_false_iff_not, ← Bool.not_eq_true]
      exact not_and_or.mp apart) room)
    exact ⟨rows.1.trans (List.map_append ..), rows.2⟩
  · intro full cls queued
    have rows := s.originate_rows body dest (joinQueue_evictsBeacon (other cls) full cls queued)
    exact ⟨rows.1.trans unbeaconed, rows.2⟩
  · intro full urgent none queued
    have rows := s.originate_rows body dest (joinQueue_evictsNormal (other (by rw [urgent]; decide)) full urgent none queued)
    refine ⟨rows.1.trans ?_, rows.2⟩
    rw [List.map_append, List.eraseP_map]
    rfl
  · intro full none cls
    exact s.originate_rows body dest (joinQueue_drops full none cls)
  · intro running idle
    refine ⟨?_, ?_, ?_⟩
    · unfold State.OldestInAccess
      rw [State.originate_slc_eq]
      exact State.reselect_oldestInAccess (s := s.joined body dest) running idle joinQueue_ne_nil
    · intro before e rest queue access beacon older highest
      exact State.originate_keeps dest queue access (decide_eq_false beacon) older highest
    · intro urgent lower room
      refine (State.originate_urgent dest running idle urgent lower room).trans ?_
      cases s.slc.carrier <;> rfl
  · rw [State.originate_jnl]
    exact Jnl.marked_mark _ _
  · have slc : t.slc = { s.slc with
        queue := t.slc.queue, originSerial := (s.slc.originSerial + 1) % 65536, txDrops := t.slc.txDrops,
        slotStart := t.slc.slotStart } := by
      rw [State.originate_slc_eq, State.reselect_slc]
      rfl
    have frame := s.originate_frame_eq body dest
    rw [State.touchVanSession_bu, slc, ← State.originate_jnl] at frame
    exact frame

end Sys2Proof.Machine
end

section
/-!
PROOFS. Frames from the air: assembled, buffered, checked and counted, and the end of a transmission (R20, R25 to R28).
-/
namespace Sys2Proof.Machine
open Sys2Proof

/-! ### Errors (R27) -/

/-- The state after an error counted in the street link c: it adds to the new-error sum, and a sum of 16 raises LINK. -/
def State.afterError (s : State) (c : Slc) : State := { s with
  slc := { c with newErrors := min 65535 (s.slc.newErrors + 1) },
  kl := { s.kl with raised := { s.kl.raised with
    link := s.kl.raised.link || decide (16 ≤ min 65535 (s.slc.newErrors + 1)) } } }

/-- An error counted adds to the new-error sum of the street link as it stands. -/
theorem State.countError_eq (s : State) : s.countError = s.afterError s.slc := by
  unfold State.countError State.afterError saturate
  dsimp only
  split
  · rename_i full
    rw [decide_eq_true full, Bool.or_true]
    rfl
  · rename_i few
    rw [decide_eq_false few, Bool.or_false]
    rfl

theorem State.checkError_eq (s : State) : s.checkError = s.afterError { s.slc with errCheck := min 65535 (s.slc.errCheck + 1) } :=
  State.countError_eq _

theorem State.lengthError_eq (s : State) :
    s.lengthError = s.afterError { s.slc with errLength := min 65535 (s.slc.errLength + 1) } := State.countError_eq _

theorem State.overrunError_eq (s : State) :
    s.overrunError = s.afterError { s.slc with errOverrun := min 65535 (s.slc.errOverrun + 1) } := State.countError_eq _

theorem State.truncatedError_eq (s : State) :
    s.truncatedError = s.afterError { s.slc with errTruncated := min 65535 (s.slc.errTruncated + 1) } := State.countError_eq _

/-! ### The commands -/

section
variable {s : State}

/-- Without a notice in access a carrier is no busy find (R22). -/
theorem State.findBusy_idle (h : ∀ e ∈ s.slc.queue, e.access = none) : s.findBusy = s := by
  have idle : s.inAccess = none := List.find?_eq_none.mpr fun e he => by simp [h e he]
  rw [State.findBusy, idle]

theorem exec_carrierRise (low : s.slc.carrier = false) : exec .carrierRise s = .next
    (if s.listening then
      ((s.setSlc { s.slc with carrier := true }).setAssembly (.receiving none)).findBusy
    else s.setSlc { s.slc with carrier := true }) := by
  have arm : exec .carrierRise s = .next (if s.slc.carrier then s else
    if s.listening then
      ((s.setSlc { s.slc with carrier := true }).setAssembly (.receiving none)).findBusy
    else s.setSlc { s.slc with carrier := true }) := rfl
  rw [arm, low, if_neg Bool.false_ne_true]

theorem exec_bodyLengthArrived (listening : s.listening = true) (begun : s.slc.assembly = .receiving none) (length : Nat) :
    exec (.bodyLengthArrived length) s = .next
      (if 255 < length then (s.setAssembly .ended).lengthError else s.setAssembly (.receiving (some length))) := by
  have arm : exec (.bodyLengthArrived length) s = .next (if s.listening ∧ s.slc.assembly = .receiving none then
      if 255 < length then (s.setAssembly .ended).lengthError else s.setAssembly (.receiving (some length))
    else s) := rfl
  rw [arm, if_pos ⟨listening, begun⟩]

theorem exec_frameCompleted (listening : s.listening = true) {frame : List Byte} (whole : wholeFrame frame = true)
    (completes : s.slc.assembly.completes (fieldAt frame 0 2) = true) : exec (.frameCompleted frame) s = .next
      (if s.slc.rxBuffer.length < 4 then
        (s.setAssembly .ended).setSlc { (s.setAssembly .ended).slc with rxBuffer := s.slc.rxBuffer ++ [frame] }
      else (s.setAssembly .ended).overrunError) := by
  have arm : exec (.frameCompleted frame) s = .next
    (if s.listening ∧ wholeFrame frame ∧ s.slc.assembly.completes (fieldAt frame 0 2) then
      if s.slc.rxBuffer.length < 4 then
        (s.setAssembly .ended).setSlc { (s.setAssembly .ended).slc with rxBuffer := s.slc.rxBuffer ++ [frame] }
      else (s.setAssembly .ended).overrunError
    else s) := rfl
  rw [arm, if_pos ⟨listening, whole, completes⟩]

/-- The street link after the carrier's fall. -/
def Slc.fallen (c : Slc) (now : Millis) : Slc := { c with carrier := false, slotStart := now }

theorem exec_carrierFall (high : s.slc.carrier = true) (gotByte : Bool) : exec (.carrierFall gotByte) s = .next
    (if s.listening then
      match s.slc.assembly with
      | .receiving none =>
        if gotByte then ((s.setSlc (s.slc.fallen s.timebase)).setAssembly .idle).truncatedError
        else (s.setSlc (s.slc.fallen s.timebase)).setAssembly .idle
      | .receiving (some _) => ((s.setSlc (s.slc.fallen s.timebase)).setAssembly .idle).truncatedError
      | .ended | .idle => (s.setSlc (s.slc.fallen s.timebase)).setAssembly .idle
    else s.setSlc (s.slc.fallen s.timebase)) := by
  have arm : exec (.carrierFall gotByte) s = execCarrierFall gotByte s := rfl
  rw [arm, execCarrierFall]
  exact congrArg Host.Outcome.next (if_pos high)

theorem exec_frameProcessed (awake : s.awake = true) {frame : List Byte} {rest : List (List Byte)}
    (buffer : s.slc.rxBuffer = frame :: rest) : exec .frameProcessed s = .next
      (match testFrame s.node frame with
      | .badCheck => (s.setSlc { s.slc with rxBuffer := rest }).checkError
      | .badLength => (s.setSlc { s.slc with rxBuffer := rest }).lengthError
      | .valid n => (s.setSlc { s.slc with rxBuffer := rest }).hear n) := by
  have arm : exec .frameProcessed s = execFrameProcessed s := rfl
  rw [arm, execFrameProcessed, buffer]
  exact congrArg Host.Outcome.next (if_pos awake)

end

/-- Settles O17, command by command, each error by what counting it does. -/
theorem framesAreAssembledAndChecked : Obligations.FramesAreAssembledAndChecked := by
  intro s sum after error
  refine ⟨fun listening => ⟨?_, ?_, ?_, ?_, ?_⟩, fun deaf => ⟨?_, ?_⟩, ?_, ?_⟩
  · intro low idle
    rw [exec_carrierRise low, if_pos listening, State.findBusy_idle (by exact idle)]
    rfl
  · intro length begun short
    rw [exec_bodyLengthArrived listening begun, if_neg (Nat.not_lt.mpr short)]
    rfl
  · intro length begun long
    rw [exec_bodyLengthArrived listening begun, if_pos long, State.lengthError_eq]
    rfl
  · intro frame length short whole begun
    have wholly : wholeFrame frame = true := by
      rw [wholeFrame, decide_eq_true short, decide_eq_true whole]
      rfl
    have completes : s.slc.assembly.completes length = true := by
      obtain e | e := begun <;> simp [e, Assembly.completes]
    rw [exec_frameCompleted listening wholly completes]
    refine ⟨fun room => ?_, fun full => ?_⟩
    · rw [if_pos room]
      rfl
    · rw [if_neg (Nat.not_lt.mpr full), State.overrunError_eq]
      rfl
  · intro gotByte high fall truncated
    rw [exec_carrierFall high, if_pos listening]
    refine ⟨fun begun => ?_, fun length begun => ?_, fun done => ?_⟩
    · rw [begun]
      dsimp only
      split
      · rw [State.truncatedError_eq]
        rfl
      · rfl
    · rw [begun]
      dsimp only
      rw [State.truncatedError_eq]
      rfl
    · obtain e | e := done <;> rw [e] <;> rfl
  · intro low
    rw [exec_carrierRise low, deaf]
    rfl
  · intro gotByte high
    rw [exec_carrierFall high, deaf]
    rfl
  · intro frame rest awake buffer
    rw [exec_frameProcessed awake buffer]
    refine ⟨fun bad => ?_, fun bad => ?_, fun n valid => ?_⟩
    · rw [bad]
      dsimp only
      rw [State.checkError_eq]
      rfl
    · rw [bad]
      dsimp only
      rw [State.lengthError_eq]
      rfl
    · rw [valid]
      rfl
  · intro sends awake
    let ended := s.setSlc { s.slc with transmitting := none }
    have taken : exec .transmissionEnd s = .next ended.reselect := by
      have arm : exec .transmissionEnd s = .next (if s.slc.transmitting.isSome ∧ s.inReset = false then ended.reselect else s) := rfl
      rw [arm, if_pos ⟨sends, awake⟩]
    exact ⟨_, taken, ended.reselect_eq, ended.reselect_rows, fun running queued =>
      State.reselect_oldestInAccess (s := ended) running rfl queued⟩

end Sys2Proof.Machine
end

section
/-!
PROOFS. Relays, quiet and the timers of the street link (R31 to R38).
-/
namespace Sys2Proof.Machine
open Sys2Proof

/-! ### What may be relayed (R31, R33, R36) -/

/-- The kind is HIRE CLOSE or HIRE SETTLED. -/
theorem NoticeBody.passesQuiet_iff (b : NoticeBody) : b.passesQuiet = true ↔ b.kindCode = 1 ∨ b.kindCode = 2 := by
  simp [NoticeBody.passesQuiet]

theorem relayPermitted_iff (supply : SupplyState) (body : NoticeBody) :
    relayPermitted supply body = true ↔ supply = .normal ∨ supply = .saving ∧ (body.kindCode = 1 ∨ body.kindCode = 2) := by
  cases supply <;> simp [relayPermitted]

theorem State.neighbourQuiet_eq_false_iff (s : State) : s.neighbourQuiet = false ↔ ∀ x ∈ s.slc.neighbours, x.quietUntil = none := by
  simp [State.neighbourQuiet]

/-- A kind may be relayed where the supply state permits it, and it is a hire's end or no neighbour is quiet. -/
theorem State.mayRelay_iff (s : State) (body : NoticeBody) : s.mayRelay body = true ↔
    (s.sup.supply = .normal ∨ s.sup.supply = .saving ∧ (body.kindCode = 1 ∨ body.kindCode = 2)) ∧
      ((∀ x ∈ s.slc.neighbours, x.quietUntil = none) ∨ body.kindCode = 1 ∨ body.kindCode = 2) := by
  rw [State.mayRelay, Bool.and_eq_true, Bool.or_eq_true, Bool.not_eq_true', relayPermitted_iff, State.neighbourQuiet_eq_false_iff,
    NoticeBody.passesQuiet_iff]

theorem State.mayRelay_congr {s t : State} (hs : t.sup = s.sup) (hn : t.slc.neighbours = s.slc.neighbours) (body : NoticeBody) :
    t.mayRelay body = s.mayRelay body := by
  rw [State.mayRelay, State.mayRelay, State.neighbourQuiet, State.neighbourQuiet, hs, hn]

/-! ### A change of the relay queue (R34) -/

/-- What a relay entry less does: the third one ends this node's own QUIET, or withdraws it. -/
theorem State.relaysChanged_fewer {s : State} {before : Nat} (h : s.slc.relays.length + 1 = before) :
    s.relaysChanged before =
      if before = 3 ∧ s.slc.ownQuiet.isSome = true then (s.setSlc { s.slc with ownQuiet := none }).flood .resume
      else if before = 3 ∧ s.quietQueued = true then s.withdrawQuiet
      else s := by
  unfold State.relaysChanged
  rw [if_neg (by omega)]
  by_cases third : before = 3
  · rw [if_pos ⟨third.ge, by omega⟩]
    simp only [third, true_and]
  · rw [if_neg (by omega), if_neg (fun e => third e.1), if_neg (fun e => third e.1)]

/-- What follows a change of the relay queue leaves the supply state and the neighbours as they were. -/
theorem State.relaysChanged_neighbours (s : State) (before : Nat) : (s.relaysChanged before).slc.neighbours = s.slc.neighbours := by
  unfold State.relaysChanged State.flood State.withdrawQuiet
  (repeat' split) <;> simp

/-- The beacon timer is set to a drawn offset after the moment it counts from (R38). -/
theorem State.setBeaconTimer_eq {s : State} {now : Millis} {draws : Nat} (ht : s.timebase = now) (hd : s.draws = draws) (n : Nat) :
    s.setBeaconTimer n = { s with
      slc := { s.slc with beaconTimer := some (now + n + Config.draw draws % 1001) }, draws := draws + 1 } := by
  rw [← ht, ← hd]
  rfl

/-! ### Timers (R32, R34, R35, R37, R38) -/

section
variable {s : State}

/-- The entry of a relay delay that ends, where it is the first of its identity. -/
theorem exec_relayDelayExpiry (awake : s.awake = true) {before rest : List RelayEntry} {e : RelayEntry}
    (relays : s.slc.relays = before ++ e :: rest) (first : ∀ x ∈ before, x.notice.ident ≠ e.notice.ident) :
    exec (.relayDelayExpiry e.notice.origin e.notice.serial) s = .next
      (let left := (s.reached (e.start + e.delay)).setRelays (before ++ rest)
       if left.mayRelay e.notice.body then left.enqueue e.notice (relayClass e.notice.body) true else left) := by
  have arm : exec (.relayDelayExpiry e.notice.origin e.notice.serial) s =
    execRelayDelayExpiry e.notice.origin e.notice.serial s := rfl
  have others : ∀ x ∈ before, x.isFor { node := e.notice.origin, serial := e.notice.serial } = false :=
    fun x hx => decide_eq_false (first x hx)
  have own : e.isFor { node := e.notice.origin, serial := e.notice.serial } = true := decide_eq_true rfl
  rw [arm, execRelayDelayExpiry, relays, find?_middle _ _ _ _ others own, eraseP_middle _ _ _ _ others own]
  dsimp only
  rw [if_pos awake]

theorem exec_ownQuietExpiry (awake : s.awake = true) {since : Millis} (quiet : s.slc.ownQuiet = some since) :
    exec .ownQuietExpiry s = .next
      (let lapsed := (s.reached (since + 20000)).setSlc { s.slc with ownQuiet := none }
       if 6 ≤ s.slc.relays.length then lapsed.flood (.quiet 20) else lapsed) := by
  have arm : exec .ownQuietExpiry s = execOwnQuietExpiry s := rfl
  rw [arm, execOwnQuietExpiry, quiet]
  dsimp only
  rw [if_pos awake]

theorem exec_neighbourQuietExpiry (awake : s.awake = true) {before rest : List Neighbour} {x : Neighbour}
    (neighbours : s.slc.neighbours = before ++ x :: rest) (first : ∀ y ∈ before, y.node ≠ x.node) {u : Millis}
    (quiet : x.quietUntil = some u) : exec (.neighbourQuietExpiry x.node) s = .next
      ((s.reached u).setNeighbours (before ++ { x with quietUntil := none } :: rest)) := by
  have arm : exec (.neighbourQuietExpiry x.node) s = execNeighbourQuietExpiry x.node s := rfl
  have others : ∀ y ∈ before, decide (y.node = x.node) = false := fun y hy => decide_eq_false (first y hy)
  rw [arm, execNeighbourQuietExpiry, neighbours, find?_middle _ _ _ _ others (decide_eq_true rfl), Option.bind_some, quiet]
  dsimp only
  rw [if_pos awake, State.updateNeighbour, show (s.reached u).slc.neighbours = _ from neighbours,
    updateFirst_middle _ _ _ _ _ others (decide_eq_true rfl)]

theorem exec_neighbourAgeExpiry (awake : s.awake = true) {before rest : List Neighbour} {x : Neighbour}
    (neighbours : s.slc.neighbours = before ++ x :: rest) (first : ∀ y ∈ before, y.node ≠ x.node) :
    exec (.neighbourAgeExpiry x.node) s = .next ((s.reached (x.ageStart + 300000)).setNeighbours (before ++ rest)) := by
  have arm : exec (.neighbourAgeExpiry x.node) s = execNeighbourAgeExpiry x.node s := rfl
  have others : ∀ y ∈ before, decide (y.node = x.node) = false := fun y hy => decide_eq_false (first y hy)
  rw [arm, execNeighbourAgeExpiry, neighbours, find?_middle _ _ _ _ others (decide_eq_true rfl),
    eraseP_middle _ _ _ _ others (decide_eq_true rfl)]
  dsimp only
  rw [if_pos awake]

theorem exec_beaconTimerExpiry (running : s.running = true) {deadline : Millis} (set : s.slc.beaconTimer = some deadline) :
    exec .beaconTimerExpiry s = .next
      (let later := s.reached deadline
       (if s.neighbourQuiet then later else later.flood (.beacon s.beaconBody)).setBeaconTimer (beaconPeriod s.sup.supply)) := by
  have arm : exec .beaconTimerExpiry s = execBeaconTimerExpiry s := rfl
  rw [arm, execBeaconTimerExpiry, set]
  dsimp only
  rw [if_pos running]
  rfl

end

/-- Settles O19, timer by timer. -/
theorem streetTimersAct : Obligations.StreetTimersAct := by
  intro s
  refine ⟨?_, ?_, ?_, ?_⟩
  · intro before e rest awake relays first hire passes left out
    have length : (before ++ rest).length + 1 = s.slc.relays.length := by simp [relays]; omega
    have taken : (s.reached (e.start + e.delay)).setRelays (before ++ rest) = out := by
      rw [State.setRelays, State.relaysChanged_fewer length]
      rfl
    have permitted : out.mayRelay e.notice.body = s.mayRelay e.notice.body := by
      rw [← taken, State.setRelays]
      exact State.mayRelay_congr (by simp) (State.relaysChanged_neighbours _ _) _
    have cls : relayClass e.notice.body = if hire then .urgent else .normal :=
      if_congr (NoticeBody.passesQuiet_iff _) rfl rfl
    rw [exec_relayDelayExpiry awake relays first, taken]
    dsimp only
    rw [permitted, cls]
    exact ⟨fun pass => by rw [if_pos ((s.mayRelay_iff _).mpr pass)],
      fun bar => by rw [if_neg fun may => bar ((s.mayRelay_iff _).mp may)]⟩
  · intro since awake quiet lapsed
    exact exec_ownQuietExpiry awake quiet
  · intro before x rest awake neighbours first
    exact ⟨fun u quiet => exec_neighbourQuietExpiry awake neighbours first quiet, exec_neighbourAgeExpiry awake neighbours first⟩
  · intro deadline running set now period
    have periods : beaconPeriod s.sup.supply = period := by cases e : s.sup.supply <;> simp [period, e, beaconPeriod]
    refine ⟨s.draw 1001, Nat.le_of_lt_succ (s.draw_lt (by decide)), fun awake => ?_, fun ⟨x, hx, quiet⟩ => ?_⟩
    · rw [exec_beaconTimerExpiry running set, (s.neighbourQuiet_eq_false_iff).mpr awake, periods]
      exact congrArg Host.Outcome.next (State.setBeaconTimer_eq (by simp; rfl) (by simp) period)
    · have some : s.neighbourQuiet = true := by
        by_contra none
        exact quiet ((s.neighbourQuiet_eq_false_iff).mp (by simpa using none) x hx)
      rw [exec_beaconTimerExpiry running set, some, periods]
      rfl

end Sys2Proof.Machine
end

section
/-!
PROOFS. Medium access: slots, the countdown, the beginning of a transmission, and busy finds (R22 to R25).
-/
namespace Sys2Proof.Machine
open Sys2Proof

/-! ### The notice in access -/

/-- The one notice in access is e, with the access a. -/
structure InAccess (s : State) (before : List QueueEntry) (e : QueueEntry) (a : Access) (rest : List QueueEntry) : Prop where
  queue : s.slc.queue = before ++ e :: rest
  access : e.access = some a
  others : ∀ x ∈ before, x.access = none

/-- The queue of a street link with another access for the notice e. -/
def Slc.put (c : Slc) (before : List QueueEntry) (e : QueueEntry) (rest : List QueueEntry) (a : Access) : Slc :=
  { c with queue := before ++ { e with access := some a } :: rest }

namespace InAccess
variable {s t : State} {before rest : List QueueEntry} {e : QueueEntry} {a : Access} (h : InAccess s before e a rest)
include h

theorem congr (hq : t.slc.queue = s.slc.queue) : InAccess t before e a rest := { h with queue := hq.trans h.queue }

theorem older : ∀ x ∈ before, x.access.isSome = false := fun x hx => by rw [h.others x hx]; rfl

theorem isSome : e.access.isSome = true := by rw [h.access]; rfl

theorem inAccess : s.inAccess = some e := by
  rw [State.inAccess, h.queue]
  exact find?_middle _ _ _ _ h.older h.isSome

theorem setAccess (b : Access) : s.setAccess b = s.setSlc (s.slc.put before e rest b) := by
  rw [State.setAccess, h.queue, updateFirst_middle _ _ _ _ _ h.older h.isSome]
  rfl

theorem removed : s.slc.queue.eraseP (fun x => x.access.isSome) = before ++ rest := by
  rw [h.queue]
  exact eraseP_middle _ _ _ _ h.older h.isSome

end InAccess

/-! ### The beginning of a transmission (R25, R34, R39) -/

/-- A notice other than a beacon goes on air as it stands in the queue. -/
theorem State.formed_other {s : State} {n : Notice} (h : n.body.kindCode ≠ 7) : s.formed n = n := by
  unfold State.formed
  split
  · rename_i b body
    rw [body] at h
    exact absurd rfl h
  · rfl

theorem NoticeBody.eq_beacon {body : NoticeBody} (h : body.kindCode = 7) : ∃ b, body = .beacon b := by
  cases body with
  | beacon b => exact ⟨b, rfl⟩
  | _ => cases h

theorem State.formed_beacon {s : State} {n : Notice} (h : n.body.kindCode = 7) :
    s.formed n = { n with body := .beacon s.beaconBody } := by
  obtain ⟨b, body⟩ := NoticeBody.eq_beacon h
  rw [State.formed, body]

/-- An identity enters the seen list when it is not in it, and a full list first loses its oldest (R29). -/
theorem enterSeen_eq (seen : List Ident) (i : Ident) : enterSeen seen i =
    if i ∈ seen then seen else (if seen.length < 64 then seen else seen.drop 1) ++ [i] := by
  unfold enterSeen pushBounded
  split
  · rfl
  · split <;> rfl

/-- The state after the notice in access has gone on air as n. -/
def State.onAir (s : State) (queue : List QueueEntry) (n : Notice) : State := { s with
  slc := { s.slc with
    queue := queue, transmitting := some n, radioOut := n.frame,
    seen := if n.body.scope = .flooded ∧ n.origin = s.node ∧ n.ident ∉ s.slc.seen then
      (if s.slc.seen.length < 64 then s.slc.seen else s.slc.seen.drop 1) ++ [n.ident] else s.slc.seen,
    ownQuiet := if n.body.kindCode = 8 then some s.timebase else s.slc.ownQuiet } }

theorem State.transmit_eq {s : State} {before rest : List QueueEntry} {e : QueueEntry} {a : Access}
    (h : InAccess s before e a rest) : s.transmit e = s.onAir (before ++ rest) (s.formed e.notice) := by
  have seen (n : Notice) : (if n.body.scope = .flooded ∧ n.origin = s.node then enterSeen s.slc.seen n.ident else s.slc.seen) =
      if n.body.scope = .flooded ∧ n.origin = s.node ∧ n.ident ∉ s.slc.seen then
        (if s.slc.seen.length < 64 then s.slc.seen else s.slc.seen.drop 1) ++ [n.ident] else s.slc.seen := by
    rw [enterSeen_eq]
    by_cases known : n.ident ∈ s.slc.seen
    · simp only [known, if_true, ite_self, not_true, and_false, if_false]
    · simp only [known, if_false, not_false_eq_true, and_true]
  unfold State.transmit
  dsimp only
  rw [h.removed, seen]
  rfl

/-! ### Slots (R22, R23) -/

/-- The state after an idle slot: the timebase has reached its end, and the next slot begins there. -/
def State.slotOver (s : State) : State := { s with
  timebase := max s.timebase (s.slc.slotStart + 10), slc := { s.slc with slotStart := s.slc.slotStart + 10 } }

section
variable {s : State} {before rest : List QueueEntry} {e : QueueEntry} {a : Access}

theorem exec_slotEnd (h : InAccess s before e a rest) (running : s.running = true) (idle : s.slc.transmitting = none)
    (low : s.slc.carrier = false) : exec .slotEnd s = .next (s.slotOver.slotEnds e a) := by
  have arm : exec .slotEnd s = execSlotEnd s := rfl
  rw [arm, execSlotEnd, h.inAccess]
  dsimp only
  rw [h.access]
  dsimp only
  rw [running, idle, low]
  rfl

/-- The countdown goes on while it is not at 0. -/
theorem State.countDown_pos (h : InAccess s before e a rest) {count : Nat} (hc : 1 ≤ count) :
    s.countDown e a count = s.setSlc (s.slc.put before e rest { a with phase := .count, held := some count, idleSlots := 0 }) := by
  rw [State.countDown, if_neg (by omega), h.setAccess]

/-- At 0 the notice leaves the queue and goes on air. -/
theorem State.countDown_zero (h : InAccess s before e a rest) :
    s.countDown e a 0 = s.onAir (before ++ rest) (s.formed e.notice) := by
  rw [State.countDown, if_pos rfl, State.transmit_eq h]

/-- A countdown draws nothing. -/
theorem State.countDown_draws (s : State) (e : QueueEntry) (a : Access) (n : Nat) :
    (s.countDown e a n).setDraws s.draws = s.countDown e a n := by
  unfold State.countDown
  split <;> rfl

/-- The first idle slot of SENSE is counted. -/
theorem State.slotEnds_first (sense : a.phase = .sense) (first : a.idleSlots = 0) :
    s.slotEnds e a = s.setAccess { a with idleSlots := 1 } := by
  rw [State.slotEnds, sense]
  dsimp only
  rw [first, if_pos (by decide)]

/-- The second one begins the countdown of the count held. -/
theorem State.slotEnds_held (sense : a.phase = .sense) (second : 1 ≤ a.idleSlots) {count : Nat} (held : a.held = some count) :
    s.slotEnds e a = s.countDown e a count := by
  rw [State.slotEnds, sense]
  dsimp only
  rw [if_neg (by omega), held]

/-- Without a count held one is drawn. -/
theorem State.slotEnds_drawn (sense : a.phase = .sense) (second : 1 ≤ a.idleSlots) (held : a.held = none) :
    s.slotEnds e a = (s.countDown e a (s.draw (2 ^ a.exponent))).drawn := by
  rw [State.slotEnds, sense]
  dsimp only
  rw [if_neg (by omega), held]

/-- Each idle slot of COUNT lowers the count. -/
theorem State.slotEnds_count (counting : a.phase = .count) {count : Nat} (held : a.held = some count) :
    s.slotEnds e a = s.countDown e a (count - 1) := by
  rw [State.slotEnds, counting, held]
  rfl

/-! ### Busy finds (R22 to R24) -/

theorem State.findBusy_again (h : InAccess s before e a rest) (few : a.busyFinds < 7) :
    s.findBusy = if a.held.isSome then (s.setSlc (s.slc.put before e rest (a.busyFind s.draw))).drawn
      else s.setSlc (s.slc.put before e rest (a.busyFind s.draw)) := by
  rw [State.findBusy, h.inAccess]
  dsimp only
  rw [h.access]
  dsimp only
  rw [if_neg (by omega), h.setAccess]

theorem State.findBusy_eighth (h : InAccess s before e a rest) (many : 7 ≤ a.busyFinds) :
    s.findBusy = (if e.cls = .background then
        s.setSlc { s.slc with queue := before ++ rest, txDrops := saturate 65535 s.slc.txDrops }
      else s.setSlc { s.slc with queue := before ++ rest ++ [{ e with access := none }] }).reselect := by
  rw [State.findBusy, h.inAccess]
  dsimp only
  rw [h.access]
  dsimp only
  rw [if_pos (by omega), State.abandonAccess, h.removed]

/-- The choice made anew leaves the drop count as it was. -/
theorem State.reselect_eq_drops (s : State) : s.reselect = s.setSlc { s.slc with
    queue := s.reselect.slc.queue, txDrops := s.reselect.slc.txDrops, slotStart := s.reselect.slc.slotStart } := by
  have drops : s.reselect.slc.txDrops = s.slc.txDrops := by simp
  rw [drops]
  exact s.reselect_eq

end

/-- Settles O16: the slots by the two outcomes of a countdown, the busy finds by their number. -/
theorem accessCountsSlotsAndBusyFinds : Obligations.AccessCountsSlotsAndBusyFinds := by
  intro s before rest e a running idle low queue access others put slot now goesOn rise k
  have h : InAccess s before e a rest := ⟨queue, access, others⟩
  have ended : InAccess s.slotOver before e a rest := h.congr rfl
  have counts (count draws : Nat) {t : State} (hd : t = (s.slotOver.countDown e a count).setDraws draws) :
      goesOn count draws t := by
    subst hd
    refine ⟨fun pos => ?_, fun zero => ⟨s.slotOver.formed e.notice, State.formed_other, State.formed_beacon, ?_⟩⟩
    · rw [State.countDown_pos ended pos]
      rfl
    · rw [zero, State.countDown_zero ended]
      rfl
  have listening : s.listening = true := by
    simp only [State.running, Bool.and_eq_true, decide_eq_true_eq] at running
    simp [State.listening, State.awake, idle, running]
  let risen : State := { s with slc := rise }
  have raised : InAccess risen before e a rest := h.congr rfl
  have carrierRise : exec .carrierRise s = .next risen.findBusy := by
    rw [exec_carrierRise low, if_pos listening]
    rfl
  have counted : (s.slotOver).draws = s.draws := rfl
  rw [exec_slotEnd h running idle low, carrierRise]
  refine ⟨?_, ?_, ?_, ?_, ?_, ?_, ?_⟩
  · intro sense first
    rw [State.slotEnds_first sense first, ended.setAccess]
    rfl
  · intro count sense second held
    refine ⟨_, rfl, counts count s.draws ?_⟩
    rw [State.slotEnds_held sense second held, ← counted, State.countDown_draws]
  · intro sense second held
    refine ⟨_, s.draw (2 ^ a.exponent), rfl, s.draw_lt (Nat.two_pow_pos _), counts _ _ ?_⟩
    rw [State.slotEnds_drawn sense second held, State.drawn, ← State.countDown_draws]
    rfl
  · intro count counting held
    refine ⟨_, rfl, counts (count - 1) s.draws ?_⟩
    rw [State.slotEnds_count counting held, ← counted, State.countDown_draws]
  · intro few held
    rw [State.findBusy_again raised few, Access.busyFind, held]
    rfl
  · intro count few held
    refine ⟨s.draw (2 ^ k), s.draw_lt (Nat.two_pow_pos _), ?_⟩
    rw [State.findBusy_again raised few, Access.busyFind, held]
    rfl
  · intro many
    refine ⟨_, rfl, ?_, fun background => ?_, fun other => ?_⟩
    · rw [State.findBusy_eighth raised many]
      split <;> exact State.reselect_eq_drops _
    · rw [State.findBusy_eighth raised many, if_pos background]
      refine ⟨State.reselect_rows _, ?_⟩
      simp
      rfl
    · rw [State.findBusy_eighth raised many, if_neg other]
      refine ⟨(State.reselect_rows _).trans ?_, ?_⟩
      · simp only [State.setSlc_slc, List.map_append]
        rfl
      · simp
        rfl

end Sys2Proof.Machine
end

section
/-!
PROOFS. The end of REPLAY: what LISTEN finds, and the SUPPLY fault held back to it (R59, R112, R113, R158, R160, R180, R182).
-/
namespace Sys2Proof.Machine
open Sys2Proof

/-! ### The SUPPLY fault (R112, R113, R180) -/

section
variable {s : State}

/-- A live entry of the station and kind SUPPLY. -/
theorem FaultEntry.matches_supply_iff (e : FaultEntry) :
    e.matches .station .supply = true ↔ e.subject = .station ∧ e.kind = .supply ∧ e.state ≠ .cleared := by
  simp [FaultEntry.matches, FaultEntry.live]
  tauto

/-- A fault of the station has no effect beyond the log (R114, R115). -/
theorem State.faultEffects_station {e : FaultEntry} (h : e.subject = .station) (old : Nat) : s.faultEffects e old = s := by
  rw [State.faultEffects, h]

/-- It merges into the live entry of its kind (R112). -/
theorem State.supplyFault_merges {before rest : List FaultEntry} {e : FaultEntry} (log : s.flt.log = before ++ e :: rest)
    (own : e.matches .station .supply = true) (others : ∀ x ∈ before, x.matches .station .supply = false) :
    s.supplyFault = s.setLog
      (before ++ { e with count := min 15 (e.count + 1), last := s.now, severity := max e.severity 1 } :: rest) := by
  have station : (e.merged (some 1) none s.now).subject = .station := ((e.matches_supply_iff).mp own).1
  rw [State.supplyFault, State.report, State.reportFault, log, find?_middle _ _ _ _ others own]
  dsimp only
  rw [State.faultEffects_station station, updateFirst_middle _ _ _ _ _ others own]
  rfl

theorem find?_no_supply (h : ∀ e ∈ s.flt.log, e.matches .station .supply = false) :
    s.flt.log.find? (fun e => e.matches .station .supply) = none := List.find?_eq_none.mpr fun e he => by simp [h e he]

/-- It makes a new entry where there is none and the log has room (R113). -/
theorem State.supplyFault_enters (new : ∀ e ∈ s.flt.log, e.matches .station .supply = false) (room : s.flt.log.length < 32) :
    s.supplyFault = (s.setFlt { s.flt with
      serial := (s.flt.serial + 1) % 65536,
      log := s.flt.log ++
        [{ id := { node := s.node, serial := s.flt.serial }, subject := .station, kind := .supply, severity := 1, count := 1,
           cards := [], first := s.now, last := s.now, state := .opened }] }).mark .counters := by
  rw [State.supplyFault, State.report, State.reportFault, find?_no_supply new]
  dsimp only
  rw [roomForFault, if_pos room]
  dsimp only
  rw [State.faultEffects_station rfl]
  rfl

/-- It touches the fault log, and marks slots, and does nothing else. -/
theorem State.supplyFault_rest (s : State) : ∃ f j slots, s.jnl.Marked j slots ∧ s.supplyFault = { s with flt := f, jnl := j } := by
  rw [State.supplyFault, State.report, State.reportFault]
  split
  · rename_i e found
    have own : e.matches .station .supply = true := List.find?_some (p := fun e : FaultEntry => e.matches .station .supply) found
    dsimp only
    rw [State.faultEffects_station (e := e.merged (some 1) none s.now) ((e.matches_supply_iff).mp own).1]
    exact ⟨_, _, [], Jnl.Marked.refl _, rfl⟩
  · dsimp only
    split
    · dsimp only
      rw [State.faultEffects_station rfl]
      exact ⟨_, _, _, Jnl.marked_mark _ _, rfl⟩
    · exact ⟨_, _, [], Jnl.Marked.refl _, rfl⟩

end

/-! ### The beginning of LISTEN (R15, R40, R59, R182) -/

/-- LISTEN as it begins: the listen timer, the channel, the docks and the windows. -/
def State.listenBegun (s : State) : State := { s with
  sup := { s.sup with start := .listen, listenStart := s.timebase },
  slc := { s.slc with channel := some s.sup.image.channel },
  du := { s.du with docks := Vector.replicate 24 (Dock.initial s.timebase), pollNext := 1 },
  clk := s.clk.evaluated }

theorem State.enterListen_eq (s : State) :
    s.enterListen = if s.sup.supply = .critical then s.listenBegun.supplyFault else s.listenBegun := rfl

/-- What REPLAY hands on to LISTEN (R158, R160). -/
theorem State.replayStore_eq (s : State) : ∃ j k, s.replayStore = { s.rebuilt with jnl := j, kl := k } ∧
    (j.store = s.jnl.store ∧ j.optionArea = s.jnl.optionArea ∧ Slot.counters ∈ j.writeList) ∧
    (s.replayFindsInvalid = true → j.degraded = true ∧ k = { s.kl with raised := { s.kl.raised with journal := true } }) ∧
    (s.replayFindsInvalid = false → j.degraded = s.jnl.degraded ∧ k = s.kl) := by
  obtain ⟨slots, j, marked, e⟩ := s.replayStore_spec
  have kept : j.store = s.jnl.store ∧ j.optionArea = s.jnl.optionArea ∧ j.degraded = s.jnl.degraded := by
    rw [marked.rest]
    exact ⟨rfl, rfl, rfl⟩
  obtain ⟨store, area, degraded⟩ := kept
  have counters : Slot.counters ∈ j.writeList := marked.listed _ (List.mem_cons_self ..)
  cases damaged : s.replayFindsInvalid with
  | true =>
    rw [damaged] at e
    exact ⟨{ j with degraded := true }, _, e, ⟨store, area, counters⟩, fun _ => ⟨rfl, rfl⟩, nofun⟩
  | false =>
    rw [damaged] at e
    exact ⟨j, _, e, ⟨store, area, counters⟩, nofun, fun _ => ⟨degraded, rfl⟩⟩

/-- The slots REPLAY reads hold an invalid one (R158, R160). -/
theorem State.replayFindsInvalid_iff (s : State) : s.replayFindsInvalid = true ↔
    ∃ p ∈ s.jnl.store, p.2 = .invalid ∧ (s.isVan = true → p.1 < 272 ∨ 320 ≤ p.1) := by
  rw [State.replayFindsInvalid, List.any_eq_true]
  refine exists_congr fun p => and_congr_right fun _ => ?_
  cases s.isVan
  · simp
  · simp

/-- Settles O29: what REPLAY rebuilds, what LISTEN begins with, and the SUPPLY fault held back. -/
theorem replayRebuildsAndListens : Obligations.ReplayRebuildsAndListens := by
  intro s awake replaying free stored
  obtain ⟨j, k, e, ⟨store, area, counters⟩, damaged, sound⟩ := s.replayStore_eq
  let begun : State := State.listenBegun { s.rebuilt with jnl := j, kl := k }
  let after : State := if s.sup.supply = .critical then begun.supplyFault else begun
  have taken : exec .replayComplete s = .next after := by
    have arm : exec .replayComplete s =
      .next (if s.inReset = false ∧ s.sup.start = .replay ∧ s.storeFree then s.replayStore.enterListen else s) := rfl
    rw [arm, if_pos ⟨awake, replaying, free⟩, e]
    rfl
  have rest : ∃ f j' slots, j.Marked j' slots ∧ after = { begun with flt := f, jnl := j' } := by
    by_cases critical : s.sup.supply = .critical
    · obtain ⟨f, j', slots, marked, e⟩ := begun.supplyFault_rest
      exact ⟨f, j', slots, marked, (if_pos critical).trans e⟩
    · exact ⟨_, j, [], Jnl.Marked.refl _, if_neg critical⟩
  have quiet : s.sup.supply ≠ .critical → after.flt = begun.flt := fun calm => by
    rw [show after = begun from if_neg calm]
  have merges : ∀ before x rest, s.sup.supply = .critical → s.flt.log = before ++ x :: rest →
      (x.subject = .station ∧ x.kind = .supply ∧ x.state ≠ .cleared) →
      (∀ y ∈ before, ¬ (y.subject = .station ∧ y.kind = .supply ∧ y.state ≠ .cleared)) →
      after.flt = { begun.flt with
        log := before ++ { x with count := min 15 (x.count + 1), last := s.now, severity := max x.severity 1 } :: rest } := by
    intro before x rest critical log own others
    rw [show after = begun.supplyFault from if_pos critical, State.supplyFault_merges (s := begun) log
      ((x.matches_supply_iff).mpr own) fun y hy => by
        rw [← Bool.not_eq_true, FaultEntry.matches_supply_iff]
        exact others y hy]
    rfl
  have enters : s.sup.supply = .critical →
      (∀ x ∈ s.flt.log, ¬ (x.subject = .station ∧ x.kind = .supply ∧ x.state ≠ .cleared)) → s.flt.log.length < 32 →
      after.flt = { begun.flt with
        serial := (begun.flt.serial + 1) % 65536,
        log := s.flt.log ++
          [{ id := { node := s.node, serial := begun.flt.serial }, subject := .station, kind := .supply, severity := 1, count := 1,
             cards := [], first := s.now, last := s.now, state := .opened }] } := by
    intro critical new room
    rw [show after = begun.supplyFault from if_pos critical, State.supplyFault_enters (s := begun) (fun x hx => by
        rw [← Bool.not_eq_true, FaultEntry.matches_supply_iff]
        exact new x hx) room]
    rfl
  obtain ⟨f, j', slots, marked, whole⟩ := rest
  have kept : j'.store = j.store ∧ j'.optionArea = j.optionArea ∧ j'.degraded = j.degraded := by
    rw [marked.rest]
    exact ⟨rfl, rfl, rfl⟩
  obtain ⟨store', area', degraded'⟩ := kept
  refine ⟨after, taken, ?_⟩
  rw [whole] at quiet merges enters ⊢
  refine ⟨rfl, rfl, rfl, ⟨quiet, merges, enters⟩, rfl, rfl, ?_, ?_, ?_, rfl, rfl, store'.trans store, area'.trans area,
    marked.placed.subset counters, ⟨?_, ?_⟩, rfl, rfl, rfl⟩
  · intro i
    simp [begun, State.listenBegun, State.rebuilt]
  · intro i
    simp [begun, State.listenBegun, State.rebuilt]
  · intro i
    by_cases van : s.isVan <;> simp [begun, State.listenBegun, State.rebuilt, Clk.evaluated, van]
  · intro found
    obtain ⟨degraded, kl⟩ := damaged ((s.replayFindsInvalid_iff).mpr found)
    exact ⟨degraded'.trans degraded, kl⟩
  · intro none
    obtain ⟨degraded, kl⟩ := sound (by rw [← Bool.not_eq_true, s.replayFindsInvalid_iff]; exact none)
    exact ⟨degraded'.trans degraded, kl⟩

end Sys2Proof.Machine
end

section
/-!
PROOFS. A valid notice heard: its sender's entry, the block that owns its kind, and its relay (R28, R30 to R37).
-/
namespace Sys2Proof.Machine
open Sys2Proof

/-! ### The sender's entry (R37) -/

section
variable {s : State} {node : Node} {before rest : List Neighbour} {x : Neighbour}

theorem State.hearSender_known (neighbours : s.slc.neighbours = before ++ x :: rest) (own : x.node = node)
    (first : ∀ y ∈ before, y.node ≠ node) : s.hearSender node =
      s.setNeighbours (before ++ { x with lastHeard := s.now, ageStart := s.timebase } :: rest) := by
  have found : (s.slc.neighbours.any fun e => decide (e.node = node)) = true := by simp [neighbours, own]
  rw [State.hearSender, if_pos found, neighbours, updateFirst_middle _ _ _ _ _ (fun y hy => decide_eq_false (first y hy))
    (decide_eq_true own)]

theorem no_neighbour (new : ∀ y ∈ s.slc.neighbours, y.node ≠ node) :
    ¬ (s.slc.neighbours.any fun e => decide (e.node = node)) = true := by simpa using new

theorem State.hearSender_entered (new : ∀ y ∈ s.slc.neighbours, y.node ≠ node) (room : s.slc.neighbours.length < 16) :
    s.hearSender node = s.setNeighbours (s.slc.neighbours ++ [s.newNeighbour node]) := by
  rw [State.hearSender, if_neg (no_neighbour new), if_pos room]

theorem oldestStart_ge (l : List Neighbour) (t : Millis) (h : ∀ y ∈ l, t ≤ y.ageStart) :
    ∀ u, oldestStart l = some u → t ≤ u := by
  induction l with
  | nil => intro u e; cases e
  | cons y l ih =>
    intro u e
    have hy := h y (by simp)
    cases e
    cases o : oldestStart l with
    | none => exact hy
    | some v => exact Nat.le_min.mpr ⟨hy, ih (fun z hz => h z (by simp [hz])) v o⟩

/-- The age timer of the oldest entry started first. -/
theorem oldestStart_middle (older : ∀ y ∈ before, x.ageStart < y.ageStart) (newer : ∀ y ∈ rest, x.ageStart ≤ y.ageStart) :
    oldestStart (before ++ x :: rest) = some x.ageStart := by
  induction before with
  | nil =>
    rw [List.nil_append, oldestStart]
    cases o : oldestStart rest with
    | none => rfl
    | some u => exact congrArg some (Nat.min_eq_left (oldestStart_ge rest _ newer u o))
  | cons y before ih =>
    rw [List.cons_append, oldestStart, ih fun z hz => older z (by simp [hz])]
    exact congrArg some (Nat.min_eq_right (older y (by simp)).le)

/-- A new sender that meets a full table takes the place of the oldest entry, where that is more than 60 s old. -/
theorem State.hearSender_full (new : ∀ y ∈ s.slc.neighbours, y.node ≠ node) (full : 16 ≤ s.slc.neighbours.length)
    (neighbours : s.slc.neighbours = before ++ x :: rest) (older : ∀ y ∈ before, x.ageStart < y.ageStart)
    (newer : ∀ y ∈ rest, x.ageStart ≤ y.ageStart) : s.hearSender node =
      if x.ageStart + 60000 < s.timebase then s.setNeighbours (before ++ s.newNeighbour node :: rest)
      else s.setSlc { s.slc with neighbourDrops := saturate 65535 s.slc.neighbourDrops } := by
  have others : ∀ y ∈ before, decide (y.ageStart = x.ageStart) = false := fun y hy => decide_eq_false (older y hy).ne'
  rw [State.hearSender, if_neg (no_neighbour new), if_neg (Nat.not_lt.mpr full), neighbours, oldestStart_middle older newer]
  dsimp only
  rw [updateFirst_middle _ _ _ _ _ others (decide_eq_true rfl)]

end

/-! ### What the owner of a flooded kind leaves (R28) -/

/-- What the relaying of a notice looks at: the relay queue, the seen list, the neighbours, the relay drops, the supply state, the
timebase and the draws. -/
def State.relayView (s : State) : List RelayEntry × List Ident × List Neighbour × Nat × Sup × Millis × Nat :=
  (s.slc.relays, s.slc.seen, s.slc.neighbours, s.slc.relayDrops, s.sup, s.timebase, s.draws)

theorem State.closeOwned_relayView (s : State) (o : OwnedHire) (t : Time) (n : Node) (g : Nat) :
    (s.closeOwned o t n g).relayView = s.relayView := by
  simp [State.closeOwned, State.flood, State.relayView]

theorem State.lateClose_relayView (s : State) (e : SettledHire) (p : SettledHire → Bool) (t : Time) (n : Node) (g : Nat) :
    (s.lateClose e p t n g).relayView = s.relayView := by
  unfold State.lateClose
  dsimp only
  split <;> simp [State.flood, State.relayView]

theorem State.takeHireOpen_relayView (s : State) (i : Ident) (c : Card) (b : Bike) (t : Time) :
    (s.takeHireOpen i c b t).relayView = s.relayView := by
  unfold State.takeHireOpen
  dsimp only
  (repeat' split) <;> simp [State.relayView]

theorem State.remoteClose_relayView (s : State) (n : Node) (b : Bike) (t : Time) (g : Nat) (i : Option Serial) :
    (s.remoteClose n b t g i).relayView = s.relayView := by
  unfold State.remoteClose
  split
  · simp [State.flood, State.relayView]
  · split
    · exact s.closeOwned_relayView _ _ _ _
    · dsimp only
      split
      · exact s.lateClose_relayView _ _ _ _ _
      · rfl

theorem State.takeHireClose_relayView (s : State) (n : Node) (b : Bike) (t : Time) (g : Nat) (i : Option Ident) :
    (s.takeHireClose n b t g i).relayView = s.relayView := by
  unfold State.takeHireClose
  split
  · rfl
  · dsimp only
    split
    · exact State.remoteClose_relayView _ _ _ _ _ _
    · rfl

theorem State.takeHireSettled_relayView (s : State) (i : Ident) (b : Bike) (n : Node) (t : Time) (o : HireOutcome) :
    (s.takeHireSettled i b n t o).relayView = s.relayView := by
  unfold State.takeHireSettled
  dsimp only
  (repeat' split) <;> simp [State.relayView]

theorem State.takeCardHold_relayView (s : State) (i : Ident) (c : Card) (r : HoldReason) :
    (s.takeCardHold i c r).relayView = s.relayView := by
  unfold State.takeCardHold
  split <;> simp [State.relayView]

theorem State.takeFault_relayView (s : State) (i : Ident) (b : Bike) (k : FaultKind) (v : Nat) :
    (s.takeFault i b k v).relayView = s.relayView := by
  unfold State.takeFault
  dsimp only
  (repeat' split) <;> simp [State.relayView]

theorem State.takeFaultClear_relayView (s : State) (b : Bike) (t : Time) : (s.takeFaultClear b t).relayView = s.relayView := by
  unfold State.takeFaultClear
  dsimp only
  split <;> simp [State.relayView]

/-- A flooded notice handed on leaves what its relaying looks at. -/
theorem State.deliver_relayView (s : State) {n : Notice} (flooded : n.body.scope = .flooded) :
    (s.deliver n).relayView = s.relayView := by
  unfold State.deliver
  cases body : n.body with
  | hireOpen => exact s.takeHireOpen_relayView _ _ _ _
  | hireClose => exact s.takeHireClose_relayView _ _ _ _ _
  | hireSettled => exact s.takeHireSettled_relayView _ _ _ _ _
  | cardHold => exact s.takeCardHold_relayView _ _ _
  | cardLift => simp [State.relayView]
  | fault => exact s.takeFault_relayView _ _ _ _
  | faultClear => exact s.takeFaultClear_relayView _ _
  | _ => rw [body] at flooded; cases flooded

end Sys2Proof.Machine
end

section
/-!
PROOFS. Relaying and suppression of a flooded notice, and all that hearing a valid notice does (R28, R30 to R37).
-/
namespace Sys2Proof.Machine
open Sys2Proof

/-! ### The relay queue changed (R34) -/

/-- A notice not addressed restarts no idle timer. -/
theorem State.flood_bu {s : State} {body : NoticeBody} (h : body.scope ≠ .addressed) : (s.flood body).bu = s.bu := by
  have kept := congrArg State.bu (s.originate_frame_eq body 0)
  refine kept.trans ((s.touchVanSession_bu body 0).trans ?_)
  simp [h]

/-- What follows a change of the relay queue changes the transmit side of the street link, marks slots, and does nothing else. -/
theorem State.relaysChanged_rest (s : State) (before : Nat) : ∃ c j, s.relaysChanged before = { s with slc := c, jnl := j } ∧
    c.relays = s.slc.relays ∧ c.seen = s.slc.seen ∧ c.relayDrops = s.slc.relayDrops ∧ c.neighbours = s.slc.neighbours := by
  have flooded (t : State) (body : NoticeBody) (h : body.scope ≠ .addressed) :
      t.flood body = { t with slc := (t.flood body).slc, jnl := (t.flood body).jnl } := by
    apply State.eq_of_blocks <;> simp [State.flood_bu h]
  unfold State.relaysChanged
  split
  · exact ⟨_, _, flooded s _ (by decide), by simp [State.flood]⟩
  · split
    · split
      · exact ⟨_, _, flooded _ .resume (by decide), by simp [State.flood]⟩
      · split
        · exact ⟨s.withdrawQuiet.slc, s.jnl, by apply State.eq_of_blocks <;> simp, by simp [State.withdrawQuiet]⟩
        · exact ⟨s.slc, s.jnl, rfl, rfl, rfl, rfl, rfl⟩
    · exact ⟨s.slc, s.jnl, rfl, rfl, rfl, rfl, rfl⟩

theorem State.setRelays_rest (s : State) (l : List RelayEntry) : ∃ c j, s.setRelays l = { s with slc := c, jnl := j } ∧
    c.relays = l ∧ c.seen = s.slc.seen ∧ c.relayDrops = s.slc.relayDrops ∧ c.neighbours = s.slc.neighbours :=
  (s.setSlc { s.slc with relays := l }).relaysChanged_rest _

/-- No QUIET and no RESUME follows where the number of relays does not pass its marks. -/
theorem State.setRelays_calm {s : State} {l : List RelayEntry} (rise : s.slc.relays.length < 6 → l.length < 6)
    (fall : 3 ≤ s.slc.relays.length → 3 ≤ l.length) : s.setRelays l = s.setSlc { s.slc with relays := l } := by
  unfold State.setRelays State.relaysChanged
  simp only [State.setSlc_slc]
  rw [if_neg (by omega), if_neg (by omega)]

/-! ### Suppression (R32) -/

section
variable {s : State} {id : Ident} {before rest : List RelayEntry} {e : RelayEntry}

theorem State.suppress_none (h : ∀ x ∈ s.slc.relays, x.isFor id = false) : s.suppress id = s := by
  have none : s.slc.relays.find? (fun x => x.isFor id) = none := List.find?_eq_none.mpr fun x hx => by simp [h x hx]
  rw [State.suppress, none]

theorem State.suppress_first (relays : s.slc.relays = before ++ e :: rest) (own : e.isFor id = true)
    (others : ∀ x ∈ before, x.isFor id = false) (first : e.hearings = 0) :
    s.suppress id = s.setSlc { s.slc with relays := before ++ { e with hearings := 1 } :: rest } := by
  rw [State.suppress, relays, find?_middle _ _ _ _ others own]
  dsimp only
  rw [first, if_neg (by decide), updateFirst_middle _ _ _ _ _ others own, State.setRelays_calm (by simp [relays])
    (by simp [relays]), first]

theorem State.suppress_again (relays : s.slc.relays = before ++ e :: rest) (own : e.isFor id = true)
    (others : ∀ x ∈ before, x.isFor id = false) (again : 1 ≤ e.hearings) : s.suppress id = s.setRelays (before ++ rest) := by
  rw [State.suppress, relays, find?_middle _ _ _ _ others own]
  dsimp only
  rw [if_pos (by omega), eraseP_middle _ _ _ _ others own]

end

/-! ### A relay entry made (R31) -/

section
variable {s : State} {n : Notice}

theorem State.relay_barred (h : ¬ (s.sup.start = .run ∧ 1 ≤ n.hops ∧ s.mayRelay n.body = true)) : s.relay n = s := by
  rw [State.relay, if_neg h]

theorem State.relay_full (h : s.sup.start = .run ∧ 1 ≤ n.hops ∧ s.mayRelay n.body = true) (full : 8 ≤ s.slc.relays.length) :
    s.relay n = s.setSlc { s.slc with relayDrops := min 65535 (s.slc.relayDrops + 1) } := by
  rw [State.relay, if_pos h, if_pos full]
  rfl

theorem State.relay_room (h : s.sup.start = .run ∧ 1 ≤ n.hops ∧ s.mayRelay n.body = true) (room : s.slc.relays.length < 8) :
    s.relay n = s.drawn.setRelays (s.slc.relays ++
      [{ notice := { n with hops := n.hops - 1, sender := s.node }, start := s.timebase, delay := s.draw 2001, hearings := 0 }]) := by
  rw [State.relay, if_pos h, if_neg (Nat.not_le.mpr room)]
  rfl

/-! ### Hearing (R28, R30) -/

theorem State.hear_flooded (h : n.body.scope = .flooded) : s.hear n = (s.hearSender n.sender).hearFlooded n := by
  rw [State.hear, h]

theorem State.hear_broadcast (h : n.body.scope = .broadcast) : s.hear n = (s.hearSender n.sender).deliver n := by
  rw [State.hear, h]

theorem State.hear_addressed (h : n.body.scope = .addressed) :
    s.hear n = if n.dest = s.node then (s.hearSender n.sender).deliver n else s.hearSender n.sender := by
  rw [State.hear, h]

theorem State.hearFlooded_known (h : n.ident ∈ s.slc.seen) : s.hearFlooded n = s.suppress n.ident := by
  rw [State.hearFlooded, if_pos h]

/-- The state with the identity of a notice first heard in the seen list. -/
def State.sees (s : State) (i : Ident) : State := { s with
  slc := { s.slc with seen := (if s.slc.seen.length < 64 then s.slc.seen else s.slc.seen.drop 1) ++ [i] } }

theorem State.hearFlooded_new (h : n.ident ∉ s.slc.seen) : s.hearFlooded n =
    if n.origin = s.node then s.sees n.ident
    else if ((s.sees n.ident).deliver n).slc.relays.any fun e => e.isFor n.ident then
      ((s.sees n.ident).deliver n).suppress n.ident
    else ((s.sees n.ident).deliver n).relay n := by
  rw [State.hearFlooded, if_neg h, enterSeen_eq, if_neg h]
  rfl

/-- The sender's entry made or refreshed leaves the relays, the seen list and the rest of the part as they were. -/
theorem State.hearSender_frame (s : State) (node : Node) :
    (s.hearSender node).slc.relays = s.slc.relays ∧ (s.hearSender node).slc.seen = s.slc.seen ∧
    (s.hearSender node).slc.relayDrops = s.slc.relayDrops ∧ (s.hearSender node).sup = s.sup ∧
    (s.hearSender node).timebase = s.timebase := by
  unfold State.hearSender
  (repeat' split) <;> exact ⟨rfl, rfl, rfl, rfl, rfl⟩

/-- A neighbour's entry changed, where it is in the table. -/
theorem State.updateNeighbour_middle {before rest : List Neighbour} {x : Neighbour} {node : Node}
    (neighbours : s.slc.neighbours = before ++ x :: rest) (own : x.node = node) (first : ∀ y ∈ before, y.node ≠ node)
    (f : Neighbour → Neighbour) : s.updateNeighbour node f = s.setNeighbours (before ++ f x :: rest) := by
  rw [State.updateNeighbour, neighbours, updateFirst_middle _ _ _ _ _ (fun y hy => decide_eq_false (first y hy))
    (decide_eq_true own)]

end

/-- Settles O18, scope by scope, and for a flooded notice by whether it was heard before and whether its relay waits. -/
theorem floodedNoticesAreRelayedOnce : Obligations.FloodedNoticesAreRelayedOnce := by
  intro s n heard known waits hire passes seen tabled fresh
  obtain ⟨relaysKept, seenKept, dropsKept, supKept, timeKept⟩ : heard.slc.relays = s.slc.relays ∧
    heard.slc.seen = s.slc.seen ∧ heard.slc.relayDrops = s.slc.relayDrops ∧ heard.sup = s.sup ∧
    heard.timebase = s.timebase := s.hearSender_frame n.sender
  have nodeKept : heard.node = s.node := congrArg (fun u : Sup => u.image.node) supKept
  have seesKept : heard.sees n.ident = { heard with slc := { heard.slc with seen := seen } } := by
    rw [State.sees, seenKept]
  let owned : State := State.deliver { heard with slc := { heard.slc with seen := seen } } n
  have ownerKeeps : n.body.scope = .flooded → owned.slc.relays = s.slc.relays ∧ owned.slc.seen = seen ∧
      owned.slc.neighbours = heard.slc.neighbours ∧ owned.slc.relayDrops = s.slc.relayDrops ∧ owned.sup = s.sup ∧
      owned.timebase = s.timebase := by
    intro flooded
    have view := State.deliver_relayView { heard with slc := { heard.slc with seen := seen } } flooded
    simp only [State.relayView, Prod.mk.injEq] at view
    obtain ⟨relays, seenOwned, neighbours, drops, sup, time, -⟩ := view
    exact ⟨relays.trans relaysKept, seenOwned, neighbours, drops.trans dropsKept, sup.trans supKept, time.trans timeKept⟩
  have heardFirst : n.body.scope = .flooded → ¬ known → n.origin ≠ s.node → s.hear n =
      if owned.slc.relays.any fun e => e.isFor n.ident then owned.suppress n.ident else owned.relay n := by
    intro flooded new foreign
    rw [State.hear_flooded flooded, State.hearFlooded_new (seenKept ▸ new), seesKept,
      if_neg fun own => foreign (own.trans nodeKept)]
  refine ⟨?_, ?_, ?_, ?_, ?_, ?_, ?_, ?_, ?_, ?_⟩
  · intro before x rest neighbours own first
    exact State.hearSender_known neighbours own first
  · intro new
    refine ⟨fun room => State.hearSender_entered new room, fun before x rest full neighbours older newer => ?_⟩
    have replaced := State.hearSender_full new full neighbours older newer
    refine ⟨fun old => ?_, fun young => ?_⟩
    · exact replaced.trans (if_pos (lt_tsub_iff_left.mp old))
    · exact replaced.trans (if_neg fun old => absurd (lt_tsub_iff_left.mpr old) (Nat.not_lt.mpr young))
  · intro addressed other
    rw [State.hear_addressed addressed, if_neg other]
  · rintro (broadcast | ⟨addressed, own⟩)
    · exact State.hear_broadcast broadcast
    · rw [State.hear_addressed addressed, if_pos own]
  · intro before x rest neighbours own first with_
    have changed := State.updateNeighbour_middle (s := heard) neighbours own first
    refine ⟨fun seconds body => ?_, fun body => ?_, fun b body => ?_⟩
    · rw [State.hear_broadcast (by rw [body]; rfl), State.deliver, body]
      exact (changed _).trans (by rw [timeKept]; rfl)
    · rw [State.hear_broadcast (by rw [body]; rfl), State.deliver, body]
      exact changed _
    · intro until_ part
      rw [State.hear_broadcast (by rw [body]; rfl), State.deliver, body]
      dsimp only
      rw [State.hearBeacon, changed, timeKept]
      have quiet : (if b.quiet then quietFromBeacon s.timebase x.quietUntil else x.quietUntil) = until_ := by
        cases q : b.quiet <;> cases u : x.quietUntil <;> simp [until_, q, u, quietFromBeacon]
      rw [quiet]
      rfl
  · intro flooded again none
    rw [State.hear_flooded flooded, State.hearFlooded_known (seenKept ▸ again), State.suppress_none (relaysKept ▸ none)]
  · intro flooded again before e rest relays own others
    rw [State.hear_flooded flooded, State.hearFlooded_known (seenKept ▸ again)]
    refine ⟨fun first => State.suppress_first (relaysKept.trans relays) own others first, fun twice => ?_⟩
    rw [State.suppress_again (relaysKept.trans relays) own others twice]
    obtain ⟨c, j, e, left, -⟩ := heard.setRelays_rest (before ++ rest)
    rw [e]
    exact left
  · intro flooded new own
    rw [State.hear_flooded flooded, State.hearFlooded_new (seenKept ▸ new), if_pos (own.trans nodeKept.symm)]
    exact seesKept
  · intro flooded new foreign before e rest relays own others t owned
    obtain ⟨relaysOwned, seenOwned, -, dropsOwned, -⟩ := ownerKeeps flooded
    have again : owned.slc.relays.any (fun e => e.isFor n.ident) = true := by
      rw [relaysOwned, relays]
      simp [show e.isFor n.ident = true from own]
    have suppressed : t = owned.suppress n.ident := by
      rw [show t = _ from heardFirst flooded new foreign, if_pos again]
    refine ⟨fun first => suppressed.trans (State.suppress_first (relaysOwned.trans relays) own others first), fun twice => ?_⟩
    rw [suppressed, State.suppress_again (relaysOwned.trans relays) own others twice]
    obtain ⟨c, j, e, left, seenLeft, dropsLeft, -⟩ := owned.setRelays_rest (before ++ rest)
    rw [e]
    exact ⟨left, seenLeft.trans seenOwned, dropsLeft.trans dropsOwned, rfl⟩
  · intro flooded new foreign fresh t owned
    obtain ⟨relaysOwned, seenOwned, neighboursOwned, dropsOwned, supOwned, timeOwned⟩ := ownerKeeps flooded
    have alone : owned.slc.relays.any (fun e => e.isFor n.ident) = false := by
      rw [relaysOwned, List.any_eq_false]
      exact fun e he => ne_true_of_eq_false (fresh e he)
    have relayed : t = owned.relay n := by
      rw [show t = _ from heardFirst flooded new foreign, alone]
      rfl
    have permitted : (owned.sup.start = .run ∧ 1 ≤ n.hops ∧ owned.mayRelay n.body = true) ↔
        (s.sup.start = .run ∧ 1 ≤ n.hops ∧ passes) := by
      rw [State.mayRelay_iff, neighboursOwned, supOwned]
    rw [relayed]
    by_cases pass : s.sup.start = .run ∧ 1 ≤ n.hops ∧ passes
    · by_cases room : s.slc.relays.length < 8
      · rw [State.relay_room (permitted.mpr pass) (relaysOwned ▸ room)]
        obtain ⟨c, j, e, left, seenLeft, -, neighboursLeft⟩ := owned.drawn.setRelays_rest (owned.slc.relays ++
          [{ notice := { n with hops := n.hops - 1, sender := owned.node }, start := owned.timebase, delay := owned.draw 2001,
             hearings := 0 }])
        refine ⟨?_, ?_, ?_, fun calm => ?_, fun _ _ => ⟨owned.draw 2001, ?_, ?_⟩, fun _ full => absurd room (Nat.not_lt.mpr full),
          fun bar => absurd pass bar⟩
        · rw [e]
          exact seenLeft.trans seenOwned
        · rw [e]
          rfl
        · rw [e]
          exact neighboursLeft
        · have five : owned.slc.relays.length ≠ 5 := relaysOwned ▸ calm
          rw [State.setRelays_calm (s := owned.drawn) (by simp; omega) (by simp; omega)]
          exact ⟨rfl, rfl⟩
        · exact Nat.le_of_lt_succ (owned.draw_lt (by decide))
        · rw [e]
          refine left.trans ?_
          rw [relaysOwned, timeOwned, show owned.node = s.node from congrArg (fun u : Sup => u.image.node) supOwned]
      · rw [State.relay_full (permitted.mpr pass) (by rw [relaysOwned]; omega)]
        exact ⟨seenOwned, rfl, rfl, fun _ => ⟨rfl, rfl⟩, fun _ few => absurd few room,
          fun _ _ => ⟨relaysOwned, by rw [← dropsOwned]; rfl⟩, fun bar => absurd pass bar⟩
    · rw [State.relay_barred fun may => pass (permitted.mp may)]
      exact ⟨seenOwned, rfl, rfl, fun _ => ⟨rfl, rfl⟩, fun may => absurd may pass, fun may => absurd may pass,
        fun _ => ⟨relaysOwned, dropsOwned⟩⟩

end Sys2Proof.Machine
end

section
/-!
PROOFS. The rules of the dock table that the dock unit's proofs use: a dock read without its lamp, and what the operations on docks and
bikes leave of the balance unit.
-/
namespace Sys2Proof.Machine
open Sys2Proof

/-! ### A dock without its lamp (R44) -/

/-- A dock's entry without its lamp: the resting pattern, the lamp slot and the pattern placed last. -/
def Dock.base (k : Dock) : Dock := { k with resting := none, lampSlot := none, lampLast := none }

@[simp] theorem Dock.base_placeLamp (k : Dock) (p : Lamp) : (k.placeLamp p).base = k.base := rfl

@[simp] theorem Dock.base_placeResting (k : Dock) : k.placeResting.base = k.base := by
  unfold Dock.placeResting
  split <;> rfl

@[simp] theorem Dock.base_refresh (du : Du) (k : Dock) : (k.refresh du).base = k.base := by
  unfold Dock.refresh
  dsimp only
  split
  · rfl
  · split
    · rfl
    · rw [Dock.base_placeResting]; rfl

/-- Two docks with one base agree in every field that is not the lamp's. -/
theorem Dock.fields_of_base {k l : Dock} (h : k.base = l.base) :
    k.state = l.state ∧ k.bike = l.bike ∧ k.faultMark = l.faultMark ∧ k.release = l.release ∧ k.untaken = l.untaken ∧
    k.lastRefusal = l.lastRefusal ∧ k.window = l.window ∧ k.silenceStart = l.silenceStart ∧ k.silent = l.silent ∧
    k.heard = l.heard ∧ k.lastHeard = l.lastHeard ∧ k.hostDisabled = l.hostDisabled ∧ k.transient = l.transient ∧
    k.lockSlot = l.lockSlot := by
  simp only [Dock.base, Dock.mk.injEq] at h
  tauto

/-- A dock changed is read back without its lamp as the change left it; every other dock is as it was. -/
theorem State.base_updateDock (s : State) (n m : Nat) (f : Dock → Dock) :
    ((s.updateDock n f).dock m).base = if m = n ∧ 1 ≤ n ∧ n ≤ 24 then (f (s.dock n)).base else (s.dock m).base := by
  by_cases same : m = n
  · subst same
    by_cases inside : 1 ≤ m ∧ m ≤ 24
    · rw [s.dock_updateDock m f inside, if_pos ⟨rfl, inside⟩, Dock.base_refresh]
    · rw [State.dock_outside _ _ inside, State.dock_outside _ _ inside, if_neg fun h => inside h.2]
  · rw [s.dock_updateDock_ne n m f same, if_neg fun h => same h.1]

theorem State.base_updateDock_self (s : State) {n : Nat} (f : Dock → Dock) (h : 1 ≤ n ∧ n ≤ 24) :
    ((s.updateDock n f).dock n).base = (f (s.dock n)).base := by
  rw [s.base_updateDock, if_pos ⟨rfl, h⟩]

/-- The bike status list changed leaves every dock as it was, but for its lamp. -/
@[simp] theorem State.base_setBikes (s : State) (l : List BikeStatus) (drops : Nat) (n : Nat) :
    ((s.setBikes l drops).dock n).base = (s.dock n).base := by
  by_cases inside : 1 ≤ n ∧ n ≤ 24
  · rw [s.dock_setBikes l drops n inside, Dock.base_refresh]
  · rw [State.dock_outside _ _ inside, State.dock_outside _ _ inside]

@[simp] theorem State.base_setBikePart (s : State) (b : Bike) (f : BikeStatus → BikeStatus) (n : Nat) :
    ((s.setBikePart b f).dock n).base = (s.dock n).base := by
  unfold State.setBikePart
  split <;> simp

@[simp] theorem State.base_clearBikePart (s : State) (b : Bike) (f : BikeStatus → BikeStatus) (n : Nat) :
    ((s.clearBikePart b f).dock n).base = (s.dock n).base := by
  simp [State.clearBikePart]

@[simp] theorem State.base_setMissing (s : State) (b : Bike) (o : Node) (t : Time) (n : Nat) :
    ((s.setMissing b o t).dock n).base = (s.dock n).base := by
  simp [State.setMissing]

@[simp] theorem State.base_removeMissing (s : State) (b : Bike) (n : Nat) :
    ((s.removeMissing b).dock n).base = (s.dock n).base := by
  simp [State.removeMissing]

@[simp] theorem State.base_removeQuarantine (s : State) (b : Bike) (n : Nat) :
    ((s.removeQuarantine b).dock n).base = (s.dock n).base := by
  simp [State.removeQuarantine]

/-! ### What the need score's inputs leave of the balance unit (R63, R125, R126) -/

@[simp] theorem State.recomputeNeed_bu (s : State) :
    s.recomputeNeed.bu.session = s.bu.session ∧ s.recomputeNeed.bu.summary = s.bu.summary ∧
    s.recomputeNeed.bu.claims = s.bu.claims ∧ s.recomputeNeed.bu.ring = s.bu.ring := by
  unfold State.recomputeNeed
  split <;> simp

@[simp] theorem State.announced_bu (s t : State) :
    (s.announced t).bu.session = s.bu.session ∧ (s.announced t).bu.summary = s.bu.summary ∧
    (s.announced t).bu.claims = s.bu.claims ∧ (s.announced t).bu.ring = s.bu.ring := by
  unfold State.announced
  split <;> simp

@[simp] theorem State.updateDock_bu (s : State) (n : Nat) (f : Dock → Dock) :
    (s.updateDock n f).bu.session = s.bu.session ∧ (s.updateDock n f).bu.summary = s.bu.summary ∧
    (s.updateDock n f).bu.claims = s.bu.claims ∧ (s.updateDock n f).bu.ring = s.bu.ring := by
  simp [State.updateDock]

@[simp] theorem State.setBikes_bu (s : State) (l : List BikeStatus) (drops : Nat) :
    (s.setBikes l drops).bu.session = s.bu.session ∧ (s.setBikes l drops).bu.summary = s.bu.summary ∧
    (s.setBikes l drops).bu.claims = s.bu.claims ∧ (s.setBikes l drops).bu.ring = s.bu.ring := by
  simp [State.setBikes]

@[simp] theorem State.setBikePart_bu (s : State) (b : Bike) (f : BikeStatus → BikeStatus) :
    (s.setBikePart b f).bu.session = s.bu.session ∧ (s.setBikePart b f).bu.summary = s.bu.summary ∧
    (s.setBikePart b f).bu.claims = s.bu.claims ∧ (s.setBikePart b f).bu.ring = s.bu.ring := by
  unfold State.setBikePart
  split <;> simp

@[simp] theorem State.clearBikePart_bu (s : State) (b : Bike) (f : BikeStatus → BikeStatus) :
    (s.clearBikePart b f).bu.session = s.bu.session ∧ (s.clearBikePart b f).bu.summary = s.bu.summary ∧
    (s.clearBikePart b f).bu.claims = s.bu.claims ∧ (s.clearBikePart b f).bu.ring = s.bu.ring := by
  simp [State.clearBikePart]

@[simp] theorem State.setMissing_bu (s : State) (b : Bike) (o : Node) (t : Time) :
    (s.setMissing b o t).bu.session = s.bu.session ∧ (s.setMissing b o t).bu.summary = s.bu.summary ∧
    (s.setMissing b o t).bu.claims = s.bu.claims ∧ (s.setMissing b o t).bu.ring = s.bu.ring := by
  simp [State.setMissing]

@[simp] theorem State.removeMissing_bu (s : State) (b : Bike) :
    (s.removeMissing b).bu.session = s.bu.session ∧ (s.removeMissing b).bu.summary = s.bu.summary ∧
    (s.removeMissing b).bu.claims = s.bu.claims ∧ (s.removeMissing b).bu.ring = s.bu.ring := by
  simp [State.removeMissing]

@[simp] theorem State.removeQuarantine_bu (s : State) (b : Bike) :
    (s.removeQuarantine b).bu.session = s.bu.session ∧ (s.removeQuarantine b).bu.summary = s.bu.summary ∧
    (s.removeQuarantine b).bu.claims = s.bu.claims ∧ (s.removeQuarantine b).bu.ring = s.bu.ring := by
  simp [State.removeQuarantine]

@[simp] theorem State.abandonForQuarantine_bu (s : State) (b : Bike) (n : Nat) :
    (s.abandonForQuarantine b n).bu.session = s.bu.session ∧ (s.abandonForQuarantine b n).bu.summary = s.bu.summary ∧
    (s.abandonForQuarantine b n).bu.claims = s.bu.claims ∧ (s.abandonForQuarantine b n).bu.ring = s.bu.ring := by
  unfold State.abandonForQuarantine
  split <;> simp

@[simp] theorem State.setQuarantine_bu (s : State) (b : Bike) (i : Ident) (v : Nat) :
    (s.setQuarantine b i v).bu.session = s.bu.session ∧ (s.setQuarantine b i v).bu.summary = s.bu.summary ∧
    (s.setQuarantine b i v).bu.claims = s.bu.claims ∧ (s.setQuarantine b i v).bu.ring = s.bu.ring := by
  have kept := foldl_kept (fun t : State => (t.bu.session, t.bu.summary, t.bu.claims, t.bu.ring))
    (fun t n => t.abandonForQuarantine b n) (fun t n => by simp) dockNumbers
    (s.setBikePart b fun e => { e with quarantine := some { id := i, severity := v } })
  simp only [Prod.mk.injEq, State.setBikePart_bu] at kept
  unfold State.setQuarantine
  exact kept

@[simp] theorem State.release_bu (s : State) (n : Nat) (p : Purpose) (c : Option CardRecord) :
    (s.release n p c).bu.session = s.bu.session ∧ (s.release n p c).bu.summary = s.bu.summary ∧
    (s.release n p c).bu.claims = s.bu.claims ∧ (s.release n p c).bu.ring = s.bu.ring := by
  simp [State.release]

@[simp] theorem State.dockFaultsCleared_bu (s : State) (n : Nat) :
    (s.dockFaultsCleared n).bu.session = s.bu.session ∧ (s.dockFaultsCleared n).bu.summary = s.bu.summary ∧
    (s.dockFaultsCleared n).bu.claims = s.bu.claims ∧ (s.dockFaultsCleared n).bu.ring = s.bu.ring := by
  simp [State.dockFaultsCleared]

/-- What joins the transmit queue restarts at most the van session's idle timer. -/
@[simp] theorem State.originate_bu (s : State) (b : NoticeBody) (n : Node) :
    (s.originate b n).bu.session = s.bu.session ∧ (s.originate b n).bu.summary = s.bu.summary ∧
    (s.originate b n).bu.claims = s.bu.claims ∧ (s.originate b n).bu.ring = s.bu.ring := by
  have touched : (s.originate b n).bu = (s.touchVanSession b n).bu := by simp [State.originate]
  rw [touched]
  unfold State.touchVanSession
  repeat' split
  all_goals simp

@[simp] theorem State.flood_bu_fields (s : State) (b : NoticeBody) :
    (s.flood b).bu.session = s.bu.session ∧ (s.flood b).bu.summary = s.bu.summary ∧
    (s.flood b).bu.claims = s.bu.claims ∧ (s.flood b).bu.ring = s.bu.ring := by
  simp [State.flood]

@[simp] theorem State.setClaims_bu (s : State) (l : List StationClaim) :
    (s.setClaims l).bu.session = s.bu.session ∧ (s.setClaims l).bu.summary = s.bu.summary ∧
    (s.setClaims l).bu.claims = l ∧ (s.setClaims l).bu.ring = s.bu.ring := by
  simp [State.setClaims]

@[simp] theorem State.countActivity_bu (s : State) (out : Bool) :
    (s.countActivity out).bu.session = s.bu.session ∧ (s.countActivity out).bu.summary = s.bu.summary ∧
    (s.countActivity out).bu.claims = s.bu.claims := by
  unfold State.countActivity
  split <;> simp

end Sys2Proof.Machine
end

section
/-!
PROOFS. The bike status list changed (R60 to R62), and the member releases a quarantine abandons (R61).
-/
namespace Sys2Proof.Machine
open Sys2Proof

/-! ### The bike status list (R60, R62) -/

theorem mem_roomForBike {l : List BikeStatus} {e : BikeStatus} (h : e ∈ roomForBike l) : e ∈ l := by
  unfold roomForBike at h
  split at h
  · exact h
  · split at h
    · exact List.mem_of_mem_eraseP h
    · exact List.mem_of_mem_drop h

/-- An entry after a part was set is one from before, or the bike's with the part. -/
theorem State.mem_setBikePart {s : State} {b : Bike} {f : BikeStatus → BikeStatus} {e : BikeStatus}
    (h : e ∈ (s.setBikePart b f).du.bikes) :
    e ∈ s.du.bikes ∨ (∃ x ∈ s.du.bikes, x.bike = b ∧ e = f x) ∨ e = f { bike := b, quarantine := none, missing := none } := by
  unfold State.setBikePart at h
  split at h
  · rw [(s.setBikes_du _ _).1] at h
    obtain h | ⟨x, hx, hb, rfl⟩ := mem_updateFirst _ _ h
    · exact .inl h
    · exact .inr (.inl ⟨x, hx, of_decide_eq_true hb, rfl⟩)
  · rw [(s.setBikes_du _ _).1] at h
    obtain h | h := List.mem_append.mp h
    · exact .inl (mem_roomForBike h)
    · exact .inr (.inr (List.mem_singleton.mp h))

/-- An entry after a part was removed is one from before, or the bike's without the part. -/
theorem State.mem_clearBikePart {s : State} {b : Bike} {f : BikeStatus → BikeStatus} {e : BikeStatus}
    (h : e ∈ (s.clearBikePart b f).du.bikes) : e ∈ s.du.bikes ∨ ∃ x ∈ s.du.bikes, x.bike = b ∧ e = f x := by
  rw [State.clearBikePart, (s.setBikes_du _ _).1] at h
  obtain h | ⟨x, hx, hb, rfl⟩ := mem_updateFirst _ _ (List.mem_filter.mp h).1
  · exact .inl h
  · exact .inr ⟨x, hx, of_decide_eq_true hb, rfl⟩

theorem Du.quarantined_iff (d : Du) (b : Bike) :
    d.quarantined b = true ↔ ∃ e ∈ d.bikes, e.bike = b ∧ e.quarantine.isSome = true := by
  simp [Du.quarantined]

theorem Du.quarantined_eq_false_iff (d : Du) (b : Bike) :
    d.quarantined b = false ↔ ∀ e ∈ d.bikes, e.bike = b → e.quarantine = none := by
  simp [Du.quarantined]

/-- A bike quarantined after a part was set was so before, where the part is not the quarantine part. -/
theorem State.quarantined_setBikePart {s : State} {b x : Bike} {f : BikeStatus → BikeStatus} (hb : ∀ e, (f e).bike = e.bike)
    (hq : ∀ e, (f e).quarantine = e.quarantine) (h : (s.setBikePart b f).du.quarantined x = true) : s.du.quarantined x = true := by
  obtain ⟨e, he, rfl, q⟩ := ((s.setBikePart b f).du.quarantined_iff x).mp h
  obtain he | ⟨y, hy, -, rfl⟩ | rfl := State.mem_setBikePart he
  · exact (s.du.quarantined_iff _).mpr ⟨e, he, rfl, q⟩
  · exact (s.du.quarantined_iff _).mpr ⟨y, hy, (hb y).symm, hq y ▸ q⟩
  · rw [hq] at q; cases q

theorem State.quarantined_clearBikePart {s : State} {b x : Bike} {f : BikeStatus → BikeStatus} (hb : ∀ e, (f e).bike = e.bike)
    (hq : ∀ e, (f e).quarantine.isSome = true → e.quarantine.isSome = true)
    (h : (s.clearBikePart b f).du.quarantined x = true) : s.du.quarantined x = true := by
  obtain ⟨e, he, rfl, q⟩ := ((s.clearBikePart b f).du.quarantined_iff x).mp h
  obtain he | ⟨y, hy, -, rfl⟩ := State.mem_clearBikePart he
  · exact (s.du.quarantined_iff _).mpr ⟨e, he, rfl, q⟩
  · exact (s.du.quarantined_iff _).mpr ⟨y, hy, (hb y).symm, hq y q⟩

/-! ### Member releases abandoned by a quarantine (R61) -/

/-- The dock is released to a member with this bike recorded. -/
def Dock.releasesToMember (k : Dock) (b : Bike) : Prop :=
  k.state = .releasing ∧ k.releasesFor .member = true ∧ k.records b = true

theorem Dock.enter_eq (k : Dock) (st : DockState) :
    k.enter st = { k with
      state := st
      transient := if st ≠ k.state ∧ (st = .releasing ∨ st = .faulted ∨ st = .offline) then none else k.transient } := by
  unfold Dock.enter
  split <;> rfl

/-- The dock after its member release was abandoned for a quarantine (R61). -/
def Dock.quarantineAbandoned (k : Dock) (t : Millis) : Dock :=
  Dock.show { k.endRelease .holding with lastRefusal := some .bikeQuarantined } .red t

theorem Dock.quarantineAbandoned_eq (k : Dock) (t : Millis) :
    k.quarantineAbandoned t = { k with
      state := .holding, release := none, lockSlot := some .lock, lastRefusal := some .bikeQuarantined
      transient := some { lamp := .red, start := t }, lampSlot := some .red, lampLast := some .red } := by
  rw [Dock.quarantineAbandoned, Dock.endRelease, Dock.enter_eq]
  rfl

theorem State.abandonForQuarantine_of {s : State} {b : Bike} {n : Nat} (h : (s.dock n).releasesToMember b) :
    s.abandonForQuarantine b n = s.updateDock n fun k => k.quarantineAbandoned s.timebase := by
  unfold State.abandonForQuarantine
  exact if_pos h

theorem State.abandonForQuarantine_not {s : State} {b : Bike} {n : Nat} (h : ¬ (s.dock n).releasesToMember b) :
    s.abandonForQuarantine b n = s := by
  unfold State.abandonForQuarantine
  exact if_neg h

theorem State.inTable_of_state {s : State} {n : Nat} (h : (s.dock n).state ≠ .offline) : 1 ≤ n ∧ n ≤ 24 := by
  by_contra outside
  rw [s.dock_outside n outside] at h
  exact h rfl

theorem State.inTable_of_bike {s : State} {n : Nat} {x : DockedBike} (h : (s.dock n).bike = some x) : 1 ≤ n ∧ n ≤ 24 := by
  by_contra outside
  rw [s.dock_outside n outside] at h
  cases h

/-- The dock at which a member release was abandoned. -/
theorem State.dock_quarantineAbandoned {s : State} {n : Nat} (h : (s.dock n).state = .releasing) :
    ((s.updateDock n fun k => k.quarantineAbandoned s.timebase).dock n).base =
      ((s.dock n).quarantineAbandoned s.timebase).base ∧
    ((s.updateDock n fun k => k.quarantineAbandoned s.timebase).dock n).lampSlot = some .red := by
  have inside := State.inTable_of_state (s := s) (n := n) (by rw [h]; decide)
  refine ⟨s.base_updateDock_self _ inside, ?_⟩
  rw [s.dock_updateDock n _ inside, Dock.refresh_lampSlot _ _ rfl]
  rfl

/-- Docks visited one after another: each member release of the bike is abandoned, and no other dock changes. -/
theorem State.foldl_abandonForQuarantine (b : Bike) (l : List Nat) (s : State) (m : Nat) :
    (m ∈ l ∧ (s.dock m).releasesToMember b →
      ((l.foldl (fun s n => s.abandonForQuarantine b n) s).dock m).base = ((s.dock m).quarantineAbandoned s.timebase).base ∧
      ((l.foldl (fun s n => s.abandonForQuarantine b n) s).dock m).lampSlot = some .red) ∧
    (¬ (m ∈ l ∧ (s.dock m).releasesToMember b) →
      (l.foldl (fun s n => s.abandonForQuarantine b n) s).dock m = s.dock m) := by
  induction l generalizing s with
  | nil => exact ⟨fun h => absurd h.1 List.not_mem_nil, fun _ => rfl⟩
  | cons n l ih =>
    rw [List.foldl_cons]
    by_cases here : (s.dock n).releasesToMember b
    · rw [State.abandonForQuarantine_of here]
      obtain ⟨base, lamp⟩ := State.dock_quarantineAbandoned here.1
      by_cases same : m = n
      · subst same
        have once : ¬ (m ∈ l ∧ ((s.updateDock m fun k => k.quarantineAbandoned s.timebase).dock m).releasesToMember b) :=
          fun h => by
            have state := (Dock.fields_of_base base).1.symm.trans h.2.1
            rw [Dock.quarantineAbandoned_eq] at state
            cases state
        rw [(ih _).2 once]
        exact ⟨fun _ => ⟨base, lamp⟩, fun h => absurd ⟨List.mem_cons_self, here⟩ h⟩
      · have kept := s.dock_updateDock_ne n m (fun k => k.quarantineAbandoned s.timebase) same
        have := ih (s.updateDock n fun k => k.quarantineAbandoned s.timebase)
        rw [kept] at this
        simpa [same] using this
    · rw [State.abandonForQuarantine_not here]
      by_cases same : m = n
      · subst same
        simpa [here] using (ih s).2 fun h => here h.2
      · simpa [same] using ih s

theorem mem_dockNumbers (n : Nat) : n ∈ dockNumbers ↔ 1 ≤ n ∧ n ≤ 24 := by
  simp only [dockNumbers, List.mem_map, List.mem_range]
  exact ⟨fun ⟨a, ha, e⟩ => by omega, fun h => ⟨n - 1, by omega, by omega⟩⟩

theorem Dock.releasesToMember_congr {k l : Dock} (h : k.base = l.base) (b : Bike) : k.releasesToMember b ↔ l.releasesToMember b := by
  obtain ⟨state, bike, -, release, -⟩ := Dock.fields_of_base h
  simp [Dock.releasesToMember, Dock.releasesFor, Dock.records, state, bike, release]

theorem Dock.base_quarantineAbandoned {k l : Dock} (h : k.base = l.base) (t : Millis) :
    (k.quarantineAbandoned t).base = (l.quarantineAbandoned t).base := by
  have lift : ∀ k : Dock, (k.quarantineAbandoned t).base = (k.base.quarantineAbandoned t).base := by
    intro k
    rw [Dock.quarantineAbandoned_eq, Dock.quarantineAbandoned_eq]
    rfl
  rw [lift k, lift l, h]

/-- The docks after a quarantine part was set: a member release of the bike is abandoned. -/
theorem State.dock_setQuarantine_member {s : State} {b : Bike} {n : Nat} (h : (s.dock n).releasesToMember b) (i : Ident) (v : Nat) :
    ((s.setQuarantine b i v).dock n).base = ((s.dock n).quarantineAbandoned s.timebase).base ∧
    ((s.setQuarantine b i v).dock n).lampSlot = some .red := by
  have base := s.base_setBikePart b (fun e => { e with quarantine := some { id := i, severity := v } }) n
  have inside := State.inTable_of_state (s := s) (n := n) (by rw [h.1]; decide)
  obtain ⟨left, lamp⟩ := (State.foldl_abandonForQuarantine b dockNumbers
    (s.setBikePart b fun e => { e with quarantine := some { id := i, severity := v } }) n).1
    ⟨(mem_dockNumbers n).mpr inside, (Dock.releasesToMember_congr base b).mpr h⟩
  refine ⟨?_, lamp⟩
  unfold State.setQuarantine
  rw [left, (State.setBikePart_frame _ _ _).2.2.2.2.2.2.2.2.2.1]
  exact Dock.base_quarantineAbandoned base _

/-- The docks after a quarantine part was set: a dock not released to a member with the bike is as it was, but for its lamp. -/
theorem State.dock_setQuarantine_other {s : State} {b : Bike} {n : Nat} (h : ¬ (s.dock n).releasesToMember b) (i : Ident) (v : Nat) :
    ((s.setQuarantine b i v).dock n).base = (s.dock n).base := by
  have base := s.base_setBikePart b (fun e => { e with quarantine := some { id := i, severity := v } }) n
  unfold State.setQuarantine
  rw [(State.foldl_abandonForQuarantine b dockNumbers _ n).2 fun m => h ((Dock.releasesToMember_congr base b).mp m.2), base]

@[simp] theorem State.abandonForQuarantine_du (s : State) (b : Bike) (n : Nat) :
    (s.abandonForQuarantine b n).du.bikes = s.du.bikes ∧ (s.abandonForQuarantine b n).du.statusDrops = s.du.statusDrops ∧
    (s.abandonForQuarantine b n).du.polled = s.du.polled := by
  unfold State.abandonForQuarantine
  split <;> simp

@[simp] theorem State.setBikePart_polled (s : State) (b : Bike) (f : BikeStatus → BikeStatus) :
    (s.setBikePart b f).du.polled = s.du.polled := by
  unfold State.setBikePart
  split <;> simp

@[simp] theorem State.clearBikePart_polled (s : State) (b : Bike) (f : BikeStatus → BikeStatus) :
    (s.clearBikePart b f).du.polled = s.du.polled := by
  simp [State.clearBikePart]

/-- The bike status list after a quarantine part was set is the one with the part set. -/
theorem State.setQuarantine_du (s : State) (b : Bike) (i : Ident) (v : Nat) :
    (s.setQuarantine b i v).du.bikes =
      (s.setBikePart b fun e => { e with quarantine := some { id := i, severity := v } }).du.bikes ∧
    (s.setQuarantine b i v).du.statusDrops =
      (s.setBikePart b fun e => { e with quarantine := some { id := i, severity := v } }).du.statusDrops ∧
    (s.setQuarantine b i v).du.polled = s.du.polled := by
  have kept := foldl_kept (fun t : State => (t.du.bikes, t.du.statusDrops, t.du.polled))
    (fun t n => t.abandonForQuarantine b n) (fun t n => by simp) dockNumbers
    (s.setBikePart b fun e => { e with quarantine := some { id := i, severity := v } })
  simp only [Prod.mk.injEq, State.setBikePart_polled] at kept
  unfold State.setQuarantine
  exact kept

end Sys2Proof.Machine
end

section
/-!
PROOFS. What the form of the dock table speaks of, and what leaves it as it was: the core of each dock, the bikes in quarantine, the
takes in flight, and the bikes of the owned hires (R43, R61, R72, R131).
-/
namespace Sys2Proof.Machine
open Sys2Proof

/-! ### The form of one dock -/

/-- What the form of the dock table speaks of in a dock. -/
def Dock.core (k : Dock) : DockState × Option DockedBike × Option Release × Bool := (k.state, k.bike, k.release, k.heard)

theorem Dock.core_of_base {k l : Dock} (h : k.base = l.base) : k.core = l.core := by
  obtain ⟨state, bike, -, release, -, -, -, -, -, heard, -⟩ := Dock.fields_of_base h
  simp only [Dock.core, state, bike, release, heard]

@[simp] theorem Dock.core_refresh (du : Du) (k : Dock) : (k.refresh du).core = k.core := Dock.core_of_base (by simp)
@[simp] theorem Dock.core_placeResting (k : Dock) : k.placeResting.core = k.core := Dock.core_of_base (by simp)
@[simp] theorem Dock.core_show (k : Dock) (p : Lamp) (t : Millis) : (k.show p t).core = k.core := rfl

@[simp] theorem Dock.core_enter (k : Dock) (st : DockState) : (k.enter st).core = (st, k.bike, k.release, k.heard) := by
  simp [Dock.core]

/-- The dock table's form at one dock (R43, R44, R46, R59, R70). -/
structure Dock.Formed (k : Dock) : Prop where
  releasing : k.state = .releasing ↔ k.release.isSome = true
  pending : ∀ r, k.release = some r → (r.purpose = .member ↔ r.card.isSome = true)
  recorded : k.state = .holding ∨ k.state = .releasing → k.bike.isSome = true
  empty : k.state = .empty → k.bike = none
  heard : k.bike.isSome = true → k.heard = true

/-- Two docks with one core are both formed, or neither. -/
theorem Dock.Formed.congr {k l : Dock} (h : k.Formed) (e : l.core = k.core) : l.Formed := by
  simp only [Dock.core, Prod.mk.injEq] at e
  obtain ⟨state, bike, release, heard⟩ := e
  exact ⟨by rw [state, release]; exact h.releasing, by rw [release]; exact h.pending, by rw [state, bike]; exact h.recorded,
    by rw [state, bike]; exact h.empty, by rw [bike, heard]; exact h.heard⟩

theorem Dock.releasesFor_congr {k l : Dock} (e : l.core = k.core) (p : Purpose) : l.releasesFor p = k.releasesFor p := by
  simp only [Dock.core, Prod.mk.injEq] at e
  rw [Dock.releasesFor, e.2.2.1, Dock.releasesFor]

theorem Dock.releasesFor_iff (k : Dock) (p : Purpose) : k.releasesFor p = true ↔ ∃ r, k.release = some r ∧ r.purpose = p := by
  simp [Dock.releasesFor, Option.any_eq_true]

/-- The core of a changed dock, and of every other. -/
theorem State.core_updateDock (s : State) (n m : Nat) (f : Dock → Dock) :
    ((s.updateDock n f).dock m).core = if m = n ∧ 1 ≤ n ∧ n ≤ 24 then (f (s.dock n)).core else (s.dock m).core := by
  have base := s.base_updateDock n m f
  split
  · rw [if_pos ‹_›] at base
    exact Dock.core_of_base base
  · rw [if_neg ‹_›] at base
    exact Dock.core_of_base base

/-! ### The takes in flight -/

/-- The docks the session has a take in flight for (R130). -/
def Bu.takeDocks (b : Bu) : List Nat := (b.session.map fun ss => ss.inFlight.map (·.dock)).getD []

theorem Bu.mem_takeDocks (b : Bu) (d : Nat) : d ∈ b.takeDocks ↔ ∃ ss, b.session = some ss ∧ d ∈ ss.inFlight.map (·.dock) := by
  unfold Bu.takeDocks
  cases b.session <;> simp

theorem Bu.takeDocks_congr {b c : Bu} (h : c.session = b.session) : c.takeDocks = b.takeDocks := by
  rw [Bu.takeDocks, h, Bu.takeDocks]

/-! ### What an operation leaves of all that -/

/-- t differs from s, in what the form of the dock table and the owned hires' place beside it speak of, at one dock and its take at most,
and otherwise by fewer quarantines, fewer owned hires, a poll that is over and a start that has gone on. -/
structure State.DocksKept (s t : State) (changed : Option Nat) : Prop where
  docks : ∀ d, changed ≠ some d → (t.dock d).core = (s.dock d).core
  quarantined : ∀ b, t.du.quarantined b = true → s.du.quarantined b = true
  polled : t.du.polled = s.du.polled ∨ t.du.polled = none
  takes : ∀ d, changed ≠ some d → (d ∈ t.bu.takeDocks ↔ d ∈ s.bu.takeDocks)
  takesOnce : s.bu.takeDocks.Nodup → t.bu.takeDocks.Nodup
  start : t.sup.start = .options ∨ t.sup.start = .replay → s.sup.start = .options ∨ s.sup.start = .replay
  session : t.sup.start = .options ∨ t.sup.start = .replay → s.bu.session = none → t.bu.session = none
  owned : (t.hu.owned.map (·.fields.bike)).Sublist (s.hu.owned.map (·.fields.bike))

namespace State.DocksKept
variable {s t u : State} {c : Option Nat}

theorem refl (s : State) : s.DocksKept s c :=
  ⟨fun _ _ => rfl, fun _ h => h, .inl rfl, fun _ _ => .rfl, id, id, fun _ => id, List.Sublist.refl _⟩

theorem trans (h : s.DocksKept t c) (k : t.DocksKept u c) : s.DocksKept u c where
  docks d hd := (k.docks d hd).trans (h.docks d hd)
  quarantined b hb := h.quarantined b (k.quarantined b hb)
  polled := by
    obtain e | e := k.polled
    · rw [e]; exact h.polled
    · exact .inr e
  takes d hd := (k.takes d hd).trans (h.takes d hd)
  takesOnce := k.takesOnce ∘ h.takesOnce
  start := h.start ∘ k.start
  session e := k.session e ∘ h.session (k.start e)
  owned := k.owned.trans h.owned

/-- An operation that touches neither the dock unit, the session, the start state nor the owned hires. -/
theorem of_frame (h : t.du = s.du ∧ t.bu.session = s.bu.session ∧ t.sup.start = s.sup.start ∧ t.hu.owned = s.hu.owned) :
    s.DocksKept t c := by
  obtain ⟨du, session, start, owned⟩ := h
  exact {
    docks := fun d _ => by rw [State.dock_congr du]
    quarantined := fun b => by rw [du]; exact id
    polled := .inl (by rw [du])
    takes := fun d _ => by rw [Bu.takeDocks_congr session]
    takesOnce := by rw [Bu.takeDocks_congr session]; exact id
    start := by rw [start]; exact id
    session := fun _ => by rw [session]; exact id
    owned := by rw [owned] }

end State.DocksKept

/-! ### The form of the dock table kept -/

theorem State.DocksFormed.formed {s : State} (h : s.DocksFormed) (d : Nat) : (s.dock d).Formed :=
  ⟨h.releasing d, h.pending d, h.recorded d, h.empty d, h.heard d⟩

theorem State.DocksFormed.notQuarantined {s : State} (h : s.DocksFormed) {d : Nat} {r : Release} {x : DockedBike}
    (hr : (s.dock d).release = some r) (hp : r.purpose = .member) (hx : (s.dock d).bike = some x) :
    s.du.quarantined x.bike = false :=
  (Du.quarantined_eq_false_iff _ _).mpr (h.quarantined d r x hr hp hx)

theorem State.DocksFormed.takes_iff {s : State} (h : s.DocksFormed) (d : Nat) :
    (s.dock d).releasesFor .van = true ↔ d ∈ s.bu.takeDocks := by
  rw [Dock.releasesFor_iff, Bu.mem_takeDocks]
  exact h.takes d

theorem State.DocksFormed.takeDocks_nodup {s : State} (h : s.DocksFormed) : s.bu.takeDocks.Nodup := by
  unfold Bu.takeDocks
  cases e : s.bu.session with
  | none => exact .nil
  | some ss => exact h.takesOnce ss e

/-- The form of the dock table, read through the core of each dock and the list of the takes. -/
theorem State.DocksFormed.of_cores {s : State} (formed : ∀ d, (s.dock d).Formed)
    (quarantined : ∀ d r x, (s.dock d).release = some r → r.purpose = .member → (s.dock d).bike = some x →
      s.du.quarantined x.bike = false)
    (polled : ∀ d, s.du.polled = some (d, .event) → 1 ≤ d → d ≤ 24 → (s.dock d).heard = true)
    (takes : ∀ d, (s.dock d).releasesFor .van = true ↔ d ∈ s.bu.takeDocks) (takesOnce : s.bu.takeDocks.Nodup)
    (unstarted : s.sup.start = .options ∨ s.sup.start = .replay → s.bu.session = none ∧ s.du.polled = none) : s.DocksFormed where
  releasing d := (formed d).releasing
  pending d := (formed d).pending
  recorded d := (formed d).recorded
  empty d := (formed d).empty
  quarantined d r x hr hp hx := (Du.quarantined_eq_false_iff _ _).mp (quarantined d r x hr hp hx)
  heard d := (formed d).heard
  polled := polled
  takes d := by
    rw [← Dock.releasesFor_iff, ← Bu.mem_takeDocks]
    exact takes d
  takesOnce ss e := by
    have once := takesOnce
    rwa [Bu.takeDocks, e] at once
  unstarted := unstarted

/-- The dock table stays formed where the changed dock is formed. -/
theorem State.DocksFormed.changed {s t : State} {c : Option Nat} (h : s.DocksFormed) (k : s.DocksKept t c)
    (here : ∀ d, c = some d → (t.dock d).Formed ∧
      (∀ r x, (t.dock d).release = some r → r.purpose = .member → (t.dock d).bike = some x → t.du.quarantined x.bike = false) ∧
      ((s.dock d).heard = true → (t.dock d).heard = true) ∧
      ((t.dock d).releasesFor .van = true ↔ d ∈ t.bu.takeDocks)) : t.DocksFormed := by
  have core {d : Nat} (hd : c ≠ some d) := k.docks d hd
  refine .of_cores (fun d => ?_) (fun d r x hr hp hx => ?_) (fun d hp low high => ?_) (fun d => ?_) (k.takesOnce h.takeDocks_nodup)
    fun e => ⟨k.session e (h.unstarted (k.start e)).1, ?_⟩
  · by_cases hd : c = some d
    · exact (here d hd).1
    · exact (h.formed d).congr (core hd)
  · by_cases hd : c = some d
    · exact (here d hd).2.1 r x hr hp hx
    · have same := core hd
      simp only [Dock.core, Prod.mk.injEq] at same
      obtain ⟨-, bike, release, -⟩ := same
      have free := h.notQuarantined (release ▸ hr) hp (bike ▸ hx)
      by_contra bad
      rw [k.quarantined _ (Bool.eq_true_of_not_eq_false bad)] at free
      cases free
  · have polled : s.du.polled = some (d, .event) := by
      obtain e | e := k.polled
      · rw [← e, hp]
      · rw [e] at hp; cases hp
    have heard := h.polled d polled low high
    by_cases hd : c = some d
    · exact (here d hd).2.2.1 heard
    · have same := core hd
      simp only [Dock.core, Prod.mk.injEq] at same
      rw [same.2.2.2, heard]
  · by_cases hd : c = some d
    · exact (here d hd).2.2.2
    · rw [Dock.releasesFor_congr (core hd), k.takes d hd]
      exact h.takes_iff d
  · obtain e' | e' := k.polled
    · rw [e', (h.unstarted (k.start e)).2]
    · exact e'

theorem State.DocksFormed.kept {s t : State} (h : s.DocksFormed) (k : s.DocksKept t none) : t.DocksFormed :=
  h.changed k nofun

/-! ### The owned hires' place beside the docks -/

/-- No bike is recorded at two docks, and the owned hires hold a bike of their own each, recorded at none. -/
def State.Apart (s : State) : Prop := s.DockedOnce ∧ s.HiresApart

/-- t records no bike at a dock where s does not, and has no owned hire more. -/
structure State.BikesKept (s t : State) : Prop where
  docked : ∀ d x, (t.dock d).bike = some x → (s.dock d).bike = some x
  owned : (t.hu.owned.map (·.fields.bike)).Sublist (s.hu.owned.map (·.fields.bike))

namespace State.BikesKept
variable {s t u : State}

theorem refl (s : State) : s.BikesKept s := ⟨fun _ _ h => h, List.Sublist.refl _⟩

theorem trans (h : s.BikesKept t) (k : t.BikesKept u) : s.BikesKept u :=
  ⟨fun d x hx => h.docked d x (k.docked d x hx), k.owned.trans h.owned⟩

theorem dockedOnce (k : s.BikesKept t) (h : s.DockedOnce) : t.DockedOnce :=
  fun d e x y hx hy => h d e x y (k.docked d x hx) (k.docked e y hy)

theorem hiresApart (k : s.BikesKept t) (h : s.HiresApart) : t.HiresApart where
  bikesOnce := k.owned.nodup h.bikesOnce
  away d x hx o ho same := by
    obtain ⟨p, hp, e⟩ := List.mem_map.mp (k.owned.subset (List.mem_map_of_mem ho))
    exact h.away d x (k.docked d x hx) p hp (e.trans same)

theorem apart (k : s.BikesKept t) (h : s.Apart) : t.Apart := ⟨k.dockedOnce h.1, k.hiresApart h.2⟩

/-- A dock changed, its bike at most removed. -/
theorem updateDock (s : State) (n : Nat) {f : Dock → Dock} (h : ∀ x, (f (s.dock n)).bike = some x → (s.dock n).bike = some x) :
    s.BikesKept (s.updateDock n f) := by
  refine ⟨fun d x hx => ?_, by simp⟩
  have core := s.core_updateDock n d f
  simp only [Dock.core] at core
  split at core
  · rename_i here
    obtain ⟨rfl, -⟩ := here
    rw [Prod.mk.injEq, Prod.mk.injEq] at core
    exact h x (core.2.1 ▸ hx)
  · rw [Prod.mk.injEq, Prod.mk.injEq] at core
    exact core.2.1 ▸ hx

end State.BikesKept

theorem State.DocksKept.bikesKept {s t : State} (k : s.DocksKept t none) : s.BikesKept t where
  docked d x hx := by
    have core := k.docks d nofun
    simp only [Dock.core, Prod.mk.injEq] at core
    exact core.2.1 ▸ hx
  owned := k.owned

end Sys2Proof.Machine
end

section
/-!
PROOFS. The operations that leave the cores of the docks, the takes in flight and the bikes of the owned hires as they were, one after
another.
-/
namespace Sys2Proof.Machine
open Sys2Proof

namespace State.DocksKept
variable {s t : State} {c : Option Nat}

/-! ### Blocks that the form does not speak of -/

theorem setClk (h : s.DocksKept t c) (b : Clk) : s.DocksKept (t.setClk b) c := h.trans (.of_frame (by simp))
theorem setSlc (h : s.DocksKept t c) (b : Slc) : s.DocksKept (t.setSlc b) c := h.trans (.of_frame (by simp))
theorem setFu (h : s.DocksKept t c) (b : Fu) : s.DocksKept (t.setFu b) c := h.trans (.of_frame (by simp))
theorem setFlt (h : s.DocksKept t c) (b : Flt) : s.DocksKept (t.setFlt b) c := h.trans (.of_frame (by simp))
theorem setSq (h : s.DocksKept t c) (b : Sq) : s.DocksKept (t.setSq b) c := h.trans (.of_frame (by simp))
theorem setJnl (h : s.DocksKept t c) (b : Jnl) : s.DocksKept (t.setJnl b) c := h.trans (.of_frame (by simp))
theorem setKl (h : s.DocksKept t c) (b : Kl) : s.DocksKept (t.setKl b) c := h.trans (.of_frame (by simp))
theorem setPending (h : s.DocksKept t c) (l : List Instr) : s.DocksKept (t.setPending l) c := h.trans (.of_frame (by simp))

/-- An operation that changes docks, bikes' entries and the poll alone. -/
theorem of_docks
    (rest : t.du.polled = s.du.polled ∧ t.bu.session = s.bu.session ∧ t.sup.start = s.sup.start ∧ t.hu.owned = s.hu.owned)
    (docks : ∀ d, c ≠ some d → (t.dock d).core = (s.dock d).core)
    (quarantined : ∀ b, t.du.quarantined b = true → s.du.quarantined b = true) : s.DocksKept t c := by
  obtain ⟨polled, session, start, owned⟩ := rest
  exact {
    docks := docks
    quarantined := quarantined
    polled := .inl polled
    takes := fun d _ => by rw [Bu.takeDocks_congr session]
    takesOnce := by rw [Bu.takeDocks_congr session]; exact id
    start := by rw [start]; exact id
    session := fun _ => by rw [session]; exact id
    owned := by rw [owned] }

theorem setBu (h : s.DocksKept t c) {b : Bu} (hb : b.session = t.bu.session) : s.DocksKept (t.setBu b) c :=
  h.trans (.of_frame ⟨rfl, hb, rfl, rfl⟩)

/-- The session may change where its takes in flight are the same. -/
theorem setBu_takes (h : s.DocksKept t c) {b : Bu} (hb : b.takeDocks = t.bu.takeDocks)
    (hn : t.sup.start = .options ∨ t.sup.start = .replay → t.bu.session = none → b.session = none) : s.DocksKept (t.setBu b) c :=
  h.trans {
    docks := fun _ _ => rfl
    quarantined := fun _ h => h
    polled := .inl rfl
    takes := fun d _ => by show d ∈ b.takeDocks ↔ _; rw [hb]
    takesOnce := by show _ → b.takeDocks.Nodup; rw [hb]; exact id
    start := id
    session := hn
    owned := List.Sublist.refl _ }

theorem setHu (h : s.DocksKept t c) {b : Hu} (hb : (b.owned.map (·.fields.bike)).Sublist (t.hu.owned.map (·.fields.bike))) :
    s.DocksKept (t.setHu b) c :=
  h.trans { State.DocksKept.refl t with owned := hb }

/-- A poll that is over. -/
theorem unpolled (h : s.DocksKept t c) : s.DocksKept (t.setDu { t.du with polled := none }) c :=
  h.trans { State.DocksKept.refl t with polled := .inr rfl }

/-- A start state that goes on. -/
theorem setSup (h : s.DocksKept t c) {b : Sup}
    (hb : b.start = .options ∨ b.start = .replay → t.sup.start = .options ∨ t.sup.start = .replay) : s.DocksKept (t.setSup b) c :=
  h.trans { State.DocksKept.refl t with start := hb, session := fun _ e => e }

theorem mark (h : s.DocksKept t c) (x : Slot) : s.DocksKept (t.mark x) c := h.trans (.of_frame (by simp))
theorem putCause (h : s.DocksKept t c) (x : Cause) (v : Bool) : s.DocksKept (t.putCause x v) c := h.trans (.of_frame (by simp))
theorem raise (h : s.DocksKept t c) (x : Cause) : s.DocksKept (t.raise x) c := h.trans (.of_frame (by simp))
theorem answer (h : s.DocksKept t c) (x : Status) (l : List Byte) : s.DocksKept (t.answer x l) c := h.trans (.of_frame (by simp))
theorem reply (h : s.DocksKept t c) (x : Status) : s.DocksKept (t.reply x) c := h.trans (.of_frame (by simp))
theorem reached (h : s.DocksKept t c) (x : Millis) : s.DocksKept (t.reached x) c := h.trans (.of_frame (by simp))
theorem drawn (h : s.DocksKept t c) : s.DocksKept t.drawn c := h.trans (.of_frame (by simp))
theorem evaluateSettlement (h : s.DocksKept t c) : s.DocksKept t.evaluateSettlement c := h.trans (.of_frame (by simp))
theorem postNote (h : s.DocksKept t c) (b : RecordBody) : s.DocksKept (t.postNote b) c := h.trans (.of_frame (by simp))
theorem postMoney (h : s.DocksKept t c) (b : RecordBody) (n : Nat) : s.DocksKept (t.postMoney b n) c := h.trans (.of_frame (by simp))
theorem noteRise (h : s.DocksKept t c) (e : FaultEntry) : s.DocksKept (t.noteRise e) c := h.trans (.of_frame (by simp))
theorem setLog (h : s.DocksKept t c) (l : List FaultEntry) : s.DocksKept (t.setLog l) c := h.trans (.of_frame (by simp))
theorem useFaultSerial (h : s.DocksKept t c) : s.DocksKept t.useFaultSerial c := h.trans (.of_frame (by simp))
theorem reselect (h : s.DocksKept t c) : s.DocksKept t.reselect c := h.trans (.of_frame (by simp))
theorem evaluateWindows (h : s.DocksKept t c) : s.DocksKept t.evaluateWindows c := h.setClk _
theorem degrade (h : s.DocksKept t c) : s.DocksKept t.degrade c := (h.setJnl _).raise _
theorem setDom (h : s.DocksKept t c) (d : BackupDomain) : s.DocksKept (t.setDom d) c := h.setClk _
theorem anchor (h : s.DocksKept t c) (g : Nat) : s.DocksKept (t.anchor g) c := h.setDom _
theorem clearTrim (h : s.DocksKept t c) : s.DocksKept t.clearTrim c := h.setClk _

/-- One step after another that each leave it. -/
theorem foldl {α : Type} {f : State → α → State} (hf : ∀ (u : State) a, u.DocksKept (f u a) c) (l : List α) (h : s.DocksKept t c) :
    s.DocksKept (l.foldl f t) c := by
  induction l generalizing t with
  | nil => exact h
  | cons a l ih => exact ih (h.trans (hf t a))

theorem failedWrite (h : s.DocksKept t c) (w : WriteInProgress) : s.DocksKept (t.failedWrite w) c := by
  unfold State.failedWrite
  split
  · exact h.drawn
  · exact (h.setJnl _).drawn
  · exact (h.setJnl _).drawn

/-! ### The street link -/

theorem enqueue (h : s.DocksKept t c) (n : Notice) (x : TxClass) (r : Bool) : s.DocksKept (t.enqueue n x r) c := h.trans (.of_frame (by simp))
theorem originate (h : s.DocksKept t c) (b : NoticeBody) (n : Node) : s.DocksKept (t.originate b n) c := h.trans (.of_frame (by simp))
theorem flood (h : s.DocksKept t c) (b : NoticeBody) : s.DocksKept (t.flood b) c := h.trans (.of_frame (by simp))
theorem withdrawQuiet (h : s.DocksKept t c) : s.DocksKept t.withdrawQuiet c := h.trans (.of_frame (by simp))

theorem setRelays (h : s.DocksKept t c) (l : List RelayEntry) : s.DocksKept (t.setRelays l) c := by
  obtain ⟨x, j, e, -⟩ := t.setRelays_rest l
  rw [e]
  exact (h.setSlc x).setJnl j

theorem setBeaconTimer (h : s.DocksKept t c) (n : Nat) : s.DocksKept (t.setBeaconTimer n) c := (h.setSlc _).drawn
theorem setNeighbours (h : s.DocksKept t c) (l : List Neighbour) : s.DocksKept (t.setNeighbours l) c := h.setSlc _
theorem updateNeighbour (h : s.DocksKept t c) (n : Node) (f : Neighbour → Neighbour) : s.DocksKept (t.updateNeighbour n f) c :=
  h.setSlc _
theorem setAccess (h : s.DocksKept t c) (a : Access) : s.DocksKept (t.setAccess a) c := h.setSlc _
theorem setAssembly (h : s.DocksKept t c) (a : Assembly) : s.DocksKept (t.setAssembly a) c := h.setSlc _

theorem countError (h : s.DocksKept t c) : s.DocksKept t.countError c := by
  have counted := h.setSlc { t.slc with newErrors := saturate 65535 t.slc.newErrors }
  unfold State.countError
  dsimp only
  split
  · exact counted.raise _
  · exact counted

theorem abandonAccess (h : s.DocksKept t c) (e : QueueEntry) : s.DocksKept (t.abandonAccess e) c := by
  unfold State.abandonAccess
  dsimp only
  refine reselect ?_
  split
  · exact h.setSlc _
  · exact h.setSlc _

theorem findBusy (h : s.DocksKept t c) : s.DocksKept t.findBusy c := by
  unfold State.findBusy
  split
  · split
    · split
      · exact h.abandonAccess _
      · dsimp only
        split
        · exact (h.setAccess _).drawn
        · exact h.setAccess _
    · exact h
  · exact h

theorem countDown (h : s.DocksKept t c) (e : QueueEntry) (a : Access) (n : Nat) : s.DocksKept (t.countDown e a n) c := by
  unfold State.countDown
  split
  · exact h.setSlc _
  · exact h.setAccess _

theorem slotEnds (h : s.DocksKept t c) (e : QueueEntry) (a : Access) : s.DocksKept (t.slotEnds e a) c := by
  unfold State.slotEnds
  split
  · split
    · exact h.setAccess _
    · split
      · exact h.countDown _ _ _
      · exact (h.countDown _ _ _).drawn
  · exact h.countDown _ _ _

theorem suppress (h : s.DocksKept t c) (i : Ident) : s.DocksKept (t.suppress i) c := by
  unfold State.suppress
  split
  · exact h
  · split
    · exact h.setRelays _
    · exact h.setRelays _

theorem relay (h : s.DocksKept t c) (n : Notice) : s.DocksKept (t.relay n) c := by
  unfold State.relay
  split
  · split
    · exact h.setSlc _
    · exact h.drawn.setRelays _
  · exact h

theorem hearSender (h : s.DocksKept t c) (n : Node) : s.DocksKept (t.hearSender n) c := by
  unfold State.hearSender
  split
  · exact h.setNeighbours _
  · split
    · exact h.setNeighbours _
    · split
      · split
        · exact h.setNeighbours _
        · exact h.setSlc _
      · exact h

theorem supplyChanged (h : s.DocksKept t c) : s.DocksKept t.supplyChanged c := by
  have kept (l : Slc) (r : List RelayEntry) := ((h.setSlc l).reselect).setRelays r
  unfold State.supplyChanged
  dsimp only
  split
  · exact (kept _ _).setBeaconTimer _
  · exact kept _ _

theorem supplyFault (h : s.DocksKept t c) : s.DocksKept t.supplyFault c := by
  obtain ⟨f, j, slots, -, e⟩ := t.supplyFault_rest
  rw [e]
  exact (h.setFlt f).setJnl j

theorem announceSupply (h : s.DocksKept t c) : s.DocksKept t.announceSupply c := by
  have changed := (h.raise .supply).supplyChanged
  unfold State.announceSupply
  dsimp only
  split
  · exact changed.supplyFault
  · exact changed

/-! ### Holds, heard hires and settled hires -/

theorem setHu_owned (h : s.DocksKept t c) {b : Hu} (hb : b.owned = t.hu.owned) : s.DocksKept (t.setHu b) c :=
  h.setHu (by rw [hb])

theorem setHeard (h : s.DocksKept t c) (l : List HeardHire) : s.DocksKept (t.setHeard l) c := h.setHu_owned rfl
theorem forgetHeard (h : s.DocksKept t c) (b : Bike) : s.DocksKept (t.forgetHeard b) c := h.setHeard _
theorem setPendingClose (h : s.DocksKept t c) (l : List PendingClose) : s.DocksKept (t.setPendingClose l) c := h.setHu_owned rfl
theorem setSettled (h : s.DocksKept t c) (l : List SettledHire) : s.DocksKept (t.setSettled l) c := h.setHu_owned rfl
theorem pushSettled (h : s.DocksKept t c) (o : OwnedFields) (e : Option (Node × Time)) (r : HireOutcome) :
    s.DocksKept (t.pushSettled o e r) c := h.setSettled _
theorem setHolds (h : s.DocksKept t c) (l : List Hold) : s.DocksKept (t.setHolds l) c := h.setHu_owned rfl

theorem roomForHold (h : s.DocksKept t c) : s.DocksKept t.roomForHold c := by
  unfold State.roomForHold
  split
  · split
    · exact h
    · exact mark (h.setHu_owned (by exact rfl)) _
  · exact h

theorem makeHold (h : s.DocksKept t c) (x : Card) (r : HoldReason) (i : Ident) : s.DocksKept (t.makeHold x r i) c :=
  (h.roomForHold.setHolds _).mark _

theorem refreshHold (h : s.DocksKept t c) (x : Hold) : s.DocksKept (t.refreshHold x) c := (h.setHolds _).mark _

theorem placeHold (h : s.DocksKept t c) (x : Card) (r : HoldReason) : s.DocksKept (t.placeHold x r).1 c := by
  have serial : s.DocksKept t.useHoldSerial c := mark (h.setHu_owned (by exact rfl)) _
  unfold State.placeHold
  split
  · exact (h.refreshHold _).flood _
  · exact (serial.makeHold _ _ _).flood _

theorem takeCardHold (h : s.DocksKept t c) (i : Ident) (x : Card) (r : HoldReason) : s.DocksKept (t.takeCardHold i x r) c := by
  unfold State.takeCardHold
  split
  · exact h.refreshHold _
  · exact h.makeHold _ _ _

theorem liftHolds (h : s.DocksKept t c) (x : Card) (r : Option HoldReason) : s.DocksKept (t.liftHolds x r) c :=
  foldl (fun u _ => (State.DocksKept.refl u).mark _) _ (h.setHolds _)

theorem makePendingClose (h : s.DocksKept t c) (b : Bike) (i : Option Ident) : s.DocksKept (t.makePendingClose b i) c := by
  unfold State.makePendingClose
  dsimp only
  split
  · split
    · exact h.setPendingClose _
    · exact (h.setPendingClose _).postNote _
  · exact h.setPendingClose _

theorem repeatClose (h : s.DocksKept t c) (b : Bike) (e : Time) : s.DocksKept (t.repeatClose b e) c := by
  unfold State.repeatClose
  split
  · exact h
  · dsimp only
    split
    · exact ((h.reached _).setPendingClose _).flood _
    · exact ((h.reached _).setPendingClose _).postNote _

theorem takeHireOpen (h : s.DocksKept t c) (i : Ident) (x : Card) (b : Bike) (e : Time) : s.DocksKept (t.takeHireOpen i x b e) c := by
  unfold State.takeHireOpen
  split
  · exact h
  · split
    · exact h.setPendingClose _
    · split
      · exact h
      · dsimp only
        split
        · exact h.setHeard _
        · exact h.setHeard _

/-! ### The bike status list and lamps -/

/-- The bike status list changed so that no bike is quarantined that was not. -/
theorem setBikePart (h : s.DocksKept t c) (b : Bike) {f : BikeStatus → BikeStatus} (hb : ∀ e, (f e).bike = e.bike)
    (hq : ∀ e, (f e).quarantine = e.quarantine) : s.DocksKept (t.setBikePart b f) c :=
  h.trans (.of_docks (by simp) (fun _ _ => Dock.core_of_base (by simp)) fun _ => State.quarantined_setBikePart hb hq)

theorem clearBikePart (h : s.DocksKept t c) (b : Bike) {f : BikeStatus → BikeStatus} (hb : ∀ e, (f e).bike = e.bike)
    (hq : ∀ e, (f e).quarantine.isSome = true → e.quarantine.isSome = true) : s.DocksKept (t.clearBikePart b f) c :=
  h.trans (.of_docks (by simp) (fun _ _ => Dock.core_of_base (by simp)) fun _ => State.quarantined_clearBikePart hb hq)

theorem setMissing (h : s.DocksKept t c) (b : Bike) (n : Node) (e : Time) : s.DocksKept (t.setMissing b n e) c :=
  h.setBikePart b (fun _ => rfl) fun _ => rfl

theorem removeMissing (h : s.DocksKept t c) (b : Bike) : s.DocksKept (t.removeMissing b) c :=
  h.clearBikePart b (fun _ => rfl) fun _ => id

theorem removeQuarantine (h : s.DocksKept t c) (b : Bike) : s.DocksKept (t.removeQuarantine b) c :=
  h.clearBikePart b (fun _ => rfl) fun _ => nofun

/-- A dock changed in what the form does not speak of. -/
theorem updateDock_core (h : s.DocksKept t c) (n : Nat) {f : Dock → Dock} (hf : (f (t.dock n)).core = (t.dock n).core) :
    s.DocksKept (t.updateDock n f) c := by
  refine h.trans (.of_docks (by simp) (fun d _ => ?_) fun b => ?_)
  · rw [State.core_updateDock]
    split
    · rename_i here
      rw [hf, here.1]
    · rfl
  · rw [Du.quarantined, (t.updateDock_du n f).1, Du.quarantined]
    exact id

/-- The dock that may change is changed. -/
theorem updateDock_changed (n : Nat) (h : s.DocksKept t (some n)) (f : Dock → Dock) : s.DocksKept (t.updateDock n f) (some n) := by
  refine h.trans (.of_docks (by simp) (fun d other => ?_) fun b => ?_)
  · rw [State.dock_updateDock_ne _ _ _ _ fun e => other (by rw [e])]
  · rw [Du.quarantined, (t.updateDock_du n f).1, Du.quarantined]
    exact id

/-! ### Hires that end, convert and shift (R78, R85, R87, R88) -/

/-- An owned hire that ends, here or at another station. -/
theorem closeOwned (h : s.DocksKept t c) (o : OwnedHire) (e : Time) (n : Node) (g : Nat) : s.DocksKept (t.closeOwned o e n g) c := by
  have fewer (u : State) : s.DocksKept u c →
      s.DocksKept (u.setOwned (u.hu.owned.filter fun x => !decide (x.fields.serial = o.fields.serial))) c :=
    fun k => k.setHu (List.filter_sublist.map _)
  unfold State.closeOwned
  exact ((fewer _ (((h.setFu _).postMoney _ _).pushSettled _ _ _)).mark _).flood _

theorem lateClose (h : s.DocksKept t c) (e : SettledHire) (p : SettledHire → Bool) (x : Time) (n : Node) (g : Nat) :
    s.DocksKept (t.lateClose e p x n g) c := by
  have closed (amount : Cents) (l : List SettledHire) :=
    ((((h.postNote (.lateReturn e.hire e.card e.bike n x amount)).setSettled l).flood
      (.hireSettled e.hire e.bike n x .late)).removeMissing e.bike)
  unfold State.lateClose
  dsimp only
  split
  · exact closed _ _
  · exact ((closed _ _).liftHolds _ _).flood _

theorem convertOverdue (h : s.DocksKept t c) (o : OwnedHire) : s.DocksKept (t.convertOverdue o) c := by
  have fewer (u : State) : s.DocksKept u c →
      s.DocksKept (u.setOwned (u.hu.owned.filter fun x => !decide (x.fields.serial = o.fields.serial))) c :=
    fun k => k.setHu (List.filter_sublist.map _)
  unfold State.convertOverdue
  exact (fewer _ ((((h.postMoney _ _).placeHold _ _).setMissing _ _ _).pushSettled _ _ _)).mark _

theorem hireBoundary (h : s.DocksKept t c) : s.DocksKept t.hireBoundary c := by
  unfold State.hireBoundary
  split
  · exact (foldl (fun u o => (State.DocksKept.refl u).convertOverdue o) _ h).setHeard _
  · exact h

theorem shiftHires (h : s.DocksKept t c) (a : Int) : s.DocksKept (t.shiftHires a) c := by
  have shifted : s.DocksKept (t.setOwned (t.hu.owned.map fun o =>
      { o with durable := false, fields := { o.fields with start := shiftTime o.fields.start a, stepped := true } })) c :=
    h.setHu (by rw [List.map_map]; exact List.Sublist.refl _)
  exact foldl (fun u (o : OwnedHire) => (State.DocksKept.refl u).mark (.owned o.slot)) _ shifted

theorem recomputeNeed (h : s.DocksKept t c) : s.DocksKept t.recomputeNeed c := h.trans (.of_frame (by simp))
theorem countActivity (h : s.DocksKept t c) (out : Bool) : s.DocksKept (t.countActivity out) c := h.trans (.of_frame (by simp))
theorem setClaims (h : s.DocksKept t c) (l : List StationClaim) : s.DocksKept (t.setClaims l) c := h.trans (.of_frame (by simp))

theorem stepTo (h : s.DocksKept t c) (v : Time) (source : Option Node) : s.DocksKept (t.stepTo v source) c := by
  have zeroed (u : State) (k : s.DocksKept u c) : s.DocksKept u.zeroRing c := recomputeNeed (k.setBu (by exact rfl))
  unfold State.stepTo
  refine evaluateWindows (postNote (zeroed _ ?_) _)
  split
  · exact setFu (((h.clearTrim).setClk _).shiftHires _) _
  · exact ((h.clearTrim).setClk _).shiftHires _

theorem setTime (h : s.DocksKept t c) (v : Time) : s.DocksKept (t.setTime v) c := by
  unfold State.setTime
  dsimp only
  split
  · exact (h.anchor 0).clearTrim
  · exact (h.anchor 0).clearTrim.stepTo _ _

theorem takeBeaconTime (h : s.DocksKept t c) (n : Node) (v : Time) (g : Nat) : s.DocksKept (t.takeBeaconTime n v g) c := by
  unfold State.takeBeaconTime
  split
  · have anchored := h.anchor (g + 1)
    dsimp only
    split
    · exact (anchored.stepTo _ _).raise _
    · split
      · exact anchored
      · exact anchored.setClk _
  · exact h

theorem takeBoundary (h : s.DocksKept t c) (x : Time) : s.DocksKept (t.takeBoundary x) c := by
  have rotated (u : State) (k : s.DocksKept u c) : s.DocksKept u.rotateRing c := by
    unfold State.rotateRing
    split
    · exact k
    · exact k.setBu rfl
  have emptied : s.DocksKept (if x % 86400 = 0 then t.evaluateWindows.emptySpend else t.evaluateWindows) c := by
    split
    · exact h.evaluateWindows.setFu _
    · exact h.evaluateWindows
  unfold State.takeBoundary
  refine recomputeNeed ?_
  split
  · exact rotated _ emptied.hireBoundary
  · exact emptied.hireBoundary

theorem writeCompleted (h : s.DocksKept t c) (w : WriteInProgress) : s.DocksKept (t.writeCompleted w) c := by
  unfold State.writeCompleted
  refine evaluateSettlement (((h.setHu ?_).setSq _).setJnl _)
  unfold Hu.written
  split
  · dsimp only
    rw [List.map_map]
    refine (List.map_congr_left fun o _ => ?_ : List.map _ t.hu.owned = _) ▸ List.Sublist.refl _
    simp only [Function.comp_apply]
    split <;> rfl
  · exact List.Sublist.refl _

/-! ### Notices from other stations (R83 to R86) -/

theorem remoteClose (h : s.DocksKept t c) (n : Node) (b : Bike) (x : Time) (g : Nat) (i : Option Serial) :
    s.DocksKept (t.remoteClose n b x g i) c := by
  unfold State.remoteClose
  split
  · exact h.flood _
  · split
    · exact h.closeOwned _ _ _ _
    · dsimp only
      split
      · exact h.lateClose _ _ _ _ _
      · exact h

theorem takeHireClose (h : s.DocksKept t c) (n : Node) (b : Bike) (x : Time) (g : Nat) (i : Option Ident) :
    s.DocksKept (t.takeHireClose n b x g i) c := by
  unfold State.takeHireClose
  split
  · exact h
  · dsimp only
    split
    · exact (h.setHeard _).remoteClose _ _ _ _ _
    · exact h.setHeard _

theorem takeHireSettled (h : s.DocksKept t c) (i : Ident) (b : Bike) (n : Node) (x : Time) (o : HireOutcome) :
    s.DocksKept (t.takeHireSettled i b n x o) c := by
  have settled (l : List HeardHire) (p : List PendingClose) :
      s.DocksKept (if n = t.node then (t.setHeard l).setPendingClose p else t.setHeard l) c := by
    split
    · exact (h.setHeard _).setPendingClose _
    · exact h.setHeard _
  unfold State.takeHireSettled
  split
  · exact h
  · dsimp only
    split
    · exact (settled _ _).removeMissing b
    · exact settled _ _

theorem takeFaultClear (h : s.DocksKept t c) (b : Bike) (x : Time) : s.DocksKept (t.takeFaultClear b x) c := by
  unfold State.takeFaultClear
  dsimp only
  split
  · exact h.setLog _
  · exact (h.setLog _).removeQuarantine b

end State.DocksKept
end Sys2Proof.Machine
end

section
/-!
PROOFS. What the session's operations leave of the takes in flight (R128 to R133).
-/
namespace Sys2Proof.Machine
open Sys2Proof

/-! ### The session's operations on the takes in flight -/

theorem Bu.takeDocks_of {b : Bu} {ss : Session} (h : b.session = some ss) : b.takeDocks = ss.inFlight.map (·.dock) := by
  rw [Bu.takeDocks, h]
  rfl

/-- The first take for a dock left out of the docks of the takes. -/
theorem map_dock_eraseP (l : List TakeInFlight) (d : Nat) :
    (l.eraseP fun t => decide (t.dock = d)).map (·.dock) = (l.map (·.dock)).erase d := by
  induction l with
  | nil => rfl
  | cons t l ih =>
    by_cases here : t.dock = d
    · simp [here]
    · simp [here, ih]

@[simp] theorem State.collectFaults_session (s : State) (b : Bike) : (s.collectFaults b).bu.session = s.bu.session := rfl

/-- The end of a session leaves the session record empty (R133). -/
@[simp] theorem State.endSession_session (s : State) (ss : Session) : (s.endSession ss).bu.session = none := rfl

/-- A session ends of itself only when no take is in flight (R131). -/
theorem State.endIfDone_takeDocks (s : State) : s.endIfDone.bu.takeDocks = s.bu.takeDocks := by
  unfold State.endIfDone
  split
  · rename_i ss held
    split
    · rename_i last
      have empty : ss.inFlight = [] := by simp_all
      rw [Bu.takeDocks_of held, empty]
      rfl
    · rfl
  · rfl

/-- A release to the van that lapses takes its take with it (R131). -/
theorem State.releaseLapsed_takeDocks (s : State) (d : Nat) : (s.releaseLapsed d).bu.takeDocks = s.bu.takeDocks.erase d := by
  unfold State.releaseLapsed
  split
  · rename_i none
    rw [Bu.takeDocks, none]
    rfl
  · rename_i ss held
    split
    · rename_i unknown
      rw [Bu.takeDocks_of held, List.erase_of_not_mem]
      intro m
      obtain ⟨t, ht, e⟩ := List.mem_map.mp m
      exact absurd (decide_eq_true e) (List.find?_eq_none.mp unknown t ht)
    · rw [State.endIfDone_takeDocks, Bu.takeDocks_congr (State.originate_bu _ _ _).1, Bu.takeDocks_of rfl, map_dock_eraseP,
        Bu.takeDocks_of held]

/-- A bike taken ends its take (R131). -/
theorem State.takeRecorded_takeDocks (s : State) (d : Nat) (b : Bike) :
    (s.takeRecorded d b).bu.takeDocks = s.bu.takeDocks.erase d := by
  unfold State.takeRecorded
  split
  · rename_i none
    rw [Bu.takeDocks, none]
    rfl
  · rename_i ss held
    split
    · rename_i unknown
      rw [Bu.takeDocks_of held, List.erase_of_not_mem]
      intro m
      obtain ⟨t, ht, e⟩ := List.mem_map.mp m
      exact absurd (decide_eq_true e) (List.find?_eq_none.mp unknown t ht)
    · dsimp only
      rw [State.endIfDone_takeDocks, Bu.takeDocks_congr (State.originate_bu _ _ _).1, Bu.takeDocks_of held, ← map_dock_eraseP]
      split <;> rfl

/-- The takes of a session lapse, and are recorded, only while there is one. -/
theorem State.releaseLapsed_unheld {s : State} (h : s.bu.session = none) (d : Nat) : s.releaseLapsed d = s := by
  rw [State.releaseLapsed, h]

theorem State.takeRecorded_unheld {s : State} (h : s.bu.session = none) (d : Nat) (b : Bike) : s.takeRecorded d b = s := by
  rw [State.takeRecorded, h]

/-- A station that serves is in RUN (R134). -/
theorem State.Started.of_serves {s : State} (h : s.serves = true) : s.Started := by
  simp only [State.serves, Bool.and_eq_true, decide_eq_true_eq] at h
  rintro (e | e) <;> cases h.2.symm.trans e

namespace State.DocksKept
variable {s t : State} {c : Option Nat}

/-- The take for the dock that may change ends. -/
theorem of_take {d : Nat} (rest : t.du = s.du ∧ t.sup.start = s.sup.start ∧ t.hu.owned = s.hu.owned)
    (takes : t.bu.takeDocks = s.bu.takeDocks.erase d) (session : s.bu.session = none → t.bu.session = none) :
    s.DocksKept t (some d) := by
  obtain ⟨du, start, owned⟩ := rest
  exact {
    docks := fun e _ => by rw [State.dock_congr du]
    quarantined := fun b => by rw [du]; exact id
    polled := .inl (by rw [du])
    takes := fun e other => by rw [takes, List.mem_erase_of_ne fun h => other (by rw [h])]
    takesOnce := by rw [takes]; exact List.Nodup.erase d
    start := by rw [start]; exact id
    session := fun _ => session
    owned := by rw [owned] }

theorem releaseLapsed (d : Nat) (h : s.DocksKept t (some d)) : s.DocksKept (t.releaseLapsed d) (some d) :=
  h.trans (.of_take (by simp) (t.releaseLapsed_takeDocks d) (fun e => by rw [State.releaseLapsed_unheld e, e]))

theorem takeRecorded (d : Nat) (h : s.DocksKept t (some d)) (b : Bike) : s.DocksKept (t.takeRecorded d b) (some d) :=
  h.trans (.of_take (by simp) (t.takeRecorded_takeDocks d b) (fun e => by rw [State.takeRecorded_unheld e, e]))

/-- The session record changed but for its takes in flight. -/
theorem setSession (h : s.DocksKept t c) {ss new : Session} (held : t.bu.session = some ss) (takes : new.inFlight = ss.inFlight) :
    s.DocksKept (t.setSession new) c :=
  h.setBu_takes (by rw [Bu.takeDocks_of held, ← takes]; rfl) fun _ e => by rw [held] at e; cases e

theorem endSession (h : s.DocksKept t c) {ss : Session} (held : t.bu.session = some ss) (empty : ss.inFlight = []) :
    s.DocksKept (t.endSession ss) c := by
  have takes : t.bu.takeDocks = [] := by rw [Bu.takeDocks_of held, empty]; rfl
  unfold State.endSession
  exact setBu_takes (((h.originate _ _).postNote _).setClaims _) ((Bu.takeDocks_congr (by simp)).trans takes).symm fun _ _ => rfl

theorem endIfDone (h : s.DocksKept t c) : s.DocksKept t.endIfDone c := by
  unfold State.endIfDone
  split
  · split
    · exact h.endSession ‹_› (by simp_all)
    · exact h
  · exact h

theorem touchSession (h : s.DocksKept t c) (van : Node) : s.DocksKept (t.touchSession van) c := by
  unfold State.touchSession
  split
  · split
    · exact h.setSession ‹_› (by exact rfl)
    · exact h
  · exact h

theorem delivery (h : s.DocksKept t c) {b : Bike} {u : State} (hu : t.delivery b = some u) : s.DocksKept u c := by
  unfold State.delivery at hu
  split at hu
  · cases hu
  · split at hu
    · cases hu
      exact h.setSession ‹_› (by exact rfl)
    · cases hu

theorem takeClaim (h : s.DocksKept t c) (van : Node) (n : Serial) (a : ClaimAction) (m life : Nat) :
    s.DocksKept (t.takeClaim van n a m life) c := by
  unfold State.takeClaim
  have touched := h.touchSession van
  split
  · dsimp only
    split
    · exact touched.originate _ _
    · split
      · exact touched.originate _ _
      · split
        · exact touched.originate _ _
        · exact (touched.setClaims _).originate _ _
  · exact h.originate _ _

theorem takeSessionOpen (h : s.DocksKept t c) (van : Node) : s.DocksKept (t.takeSessionOpen van) c := by
  unfold State.takeSessionOpen
  split
  · rename_i serves
    split
    · rename_i none
      refine originate (h.setBu_takes ?_ fun e => absurd e (State.Started.of_serves serves)) _ _
      rw [Bu.takeDocks, Bu.takeDocks, none]
      rfl
    · split
      · exact (h.setSession ‹_› (by exact rfl)).originate _ _
      · exact (h.touchSession van).originate _ _
  · exact h.originate _ _

theorem takeDeliveryNote (h : s.DocksKept t c) (van : Node) (l : List Bike) : s.DocksKept (t.takeDeliveryNote van l) c := by
  unfold State.takeDeliveryNote
  split
  · exact h
  · split
    · exact h.setSession ‹_› (by exact rfl)
    · exact h

theorem closeUnheld (h : s.DocksKept t c) (van : Node) : s.DocksKept (t.closeUnheld van) c := by
  unfold State.closeUnheld
  split
  · split
    · exact h.originate _ _
    · exact h.originate _ _
  · exact h.originate _ _

theorem takeSessionClose (h : s.DocksKept t c) (van : Node) : s.DocksKept (t.takeSessionClose van) c := by
  unfold State.takeSessionClose
  split
  · split
    · exact (h.setSession ‹_› (by exact rfl)).endIfDone
    · exact h.closeUnheld van
  · exact h.closeUnheld van

theorem claimExpiry (h : s.DocksKept t c) (i : Ident) : s.DocksKept (t.claimExpiry i) c := by
  unfold State.claimExpiry
  split
  · exact h
  · dsimp only
    split
    · exact h.reached _
    · exact (h.reached _).setClaims _

theorem sessionIdle (h : s.DocksKept t c) : s.DocksKept t.sessionIdle c := by
  unfold State.sessionIdle
  split
  · exact h
  · split
    · exact h
    · exact (h.reached _).endSession ‹_› (by simp_all)

/-! ### Arrivals (R77 to R80) -/

theorem returnHere (h : s.DocksKept t c) (d : Nat) (b : Bike) : s.DocksKept (t.returnHere d b).1 c :=
  ((((h.forgetHeard b).postNote _).flood _).makePendingClose b _).countActivity false

theorem arrival (h : s.DocksKept t c) (d : Nat) (b : Bike) (startUp : Bool) : s.DocksKept (t.arrival d b startUp).1 c := by
  unfold State.arrival
  split
  · have closed (o : OwnedHire) := (h.forgetHeard b).closeOwned o t.now t.node t.clk.dom.grade
    dsimp only
    split
    · exact closed _
    · exact (closed _).countActivity false
  · split
    · exact h.forgetHeard b
    · split
      · exact (h.delivery ‹_›).forgetHeard b
      · split
        · exact ((h.forgetHeard b).lateClose _ _ _ _ _).countActivity false
        · exact h.returnHere d b

end State.DocksKept
end Sys2Proof.Machine
end

section
/-!
PROOFS. Releases, faults and quarantines keep the dock table formed, and bring no bike to a dock and no hire into the table of owned
hires (R46 to R62).
-/
namespace Sys2Proof.Machine
open Sys2Proof

/-! ### One dock that stays formed -/

theorem Dock.Formed.free {k : Dock} (h : k.Formed) (still : k.state ≠ .releasing) : k.release = none := by
  by_contra held
  exact still (h.releasing.mpr (Option.isSome_iff_ne_none.mpr held))

/-- A dock in no working state and without a release is formed. -/
theorem Dock.Formed.of_withdrawn {k : Dock} (state : k.state = .faulted ∨ k.state = .offline ∨ k.state = .disabled)
    (free : k.release = none) (heard : k.bike.isSome = true → k.heard = true) : k.Formed where
  releasing := by rw [free]; rcases state with e | e | e <;> simp [e]
  pending := by rw [free]; nofun
  recorded := by rcases state with e | e | e <;> simp [e]
  empty := by rcases state with e | e | e <;> simp [e]
  heard := heard

/-- A dock that holds a bike and is not being released is formed. -/
theorem Dock.Formed.of_holding {k : Dock} (state : k.state = .holding) (free : k.release = none) (bike : k.bike.isSome = true)
    (heard : k.heard = true) : k.Formed where
  releasing := by rw [free, state]; simp
  pending := by rw [free]; nofun
  recorded _ := bike
  empty := by rw [state]; nofun
  heard _ := heard

theorem Dock.Formed.of_empty {k : Dock} (state : k.state = .empty) (free : k.release = none) (bike : k.bike = none) : k.Formed where
  releasing := by rw [free, state]; simp
  pending := by rw [free]; nofun
  recorded := by rw [state]; simp
  empty _ := bike
  heard := by rw [bike]; nofun

@[simp] theorem Dock.settle_frame (k : Dock) :
    k.settle.state = k.settledState ∧ k.settle.bike = k.bike ∧ k.settle.release = k.release ∧ k.settle.heard = k.heard := by
  simp [Dock.settle]

/-- A settled dock without a release is formed (R44). -/
theorem Dock.Formed.of_settled {k : Dock} (free : k.release = none) (heard : k.bike.isSome = true → k.heard = true) :
    k.settle.Formed := by
  have state := k.settle_frame.1
  unfold Dock.settledState at state
  split at state
  · exact .of_withdrawn (.inr (.inr state)) (by simpa using free) (by simpa using heard)
  · split at state
    · exact .of_withdrawn (.inl state) (by simpa using free) (by simpa using heard)
    · split at state
      · exact .of_withdrawn (.inr (.inl state)) (by simpa using free) (by simpa using heard)
      · split at state
        · exact .of_holding state (by simpa using free) (by simpa) (by simpa using heard ‹_›)
        · exact .of_empty state (by simpa using free) (by simp_all)

/-! ### The changed dock without a release -/

theorem State.DocksFormed.notTaken {s : State} (h : s.DocksFormed) {d : Nat} (free : (s.dock d).release = none) :
    d ∉ s.bu.takeDocks := by
  rw [← h.takes_iff, Dock.releasesFor, free]
  nofun

/-- The dock table stays formed where the changed dock is formed and has neither a release nor a take. -/
theorem State.DocksFormed.changed_free {s t : State} {n : Nat} (h : s.DocksFormed) (k : s.DocksKept t (some n))
    (formed : (t.dock n).Formed) (free : (t.dock n).release = none) (heard : (s.dock n).heard = true → (t.dock n).heard = true)
    (gone : n ∉ t.bu.takeDocks) : t.DocksFormed :=
  h.changed k fun d e => by
    cases e
    refine ⟨formed, fun r x hr => ?_, heard, ?_⟩
    · rw [free] at hr; cases hr
    · simp [Dock.releasesFor, free, gone]

/-- A dock number outside the table names no dock that could change. -/
theorem State.DocksKept.updateDock_outside {s : State} {n : Nat} (outside : ¬ (1 ≤ n ∧ n ≤ 24)) (f : Dock → Dock) :
    s.DocksKept (s.updateDock n f) none := by
  refine .of_docks (by simp) (fun d _ => ?_) fun b => ?_
  · rw [State.core_updateDock, if_neg fun e => outside e.2]
  · rw [Du.quarantined, (s.updateDock_du n f).1, Du.quarantined]
    exact id

theorem State.core_updateDock_self (s : State) {n : Nat} (f : Dock → Dock) (inside : 1 ≤ n ∧ n ≤ 24) :
    ((s.updateDock n f).dock n).core = (f (s.dock n)).core := by
  rw [State.core_updateDock, if_pos ⟨rfl, inside⟩]

/-- A dock that is not being released is changed into one that is formed and is not. -/
theorem State.DocksFormed.updateDock {s : State} (h : s.DocksFormed) (n : Nat) {f : Dock → Dock} (still : (s.dock n).release = none)
    (formed : (f (s.dock n)).Formed) (free : (f (s.dock n)).release = none)
    (heard : (s.dock n).heard = true → (f (s.dock n)).heard = true) : (s.updateDock n f).DocksFormed := by
  by_cases inside : 1 ≤ n ∧ n ≤ 24
  · have core := s.core_updateDock_self f inside
    refine h.changed_free (State.DocksKept.updateDock_changed n (.refl s) f) (formed.congr core) ?_ ?_ ?_
    · simp only [Dock.core, Prod.mk.injEq] at core
      rw [core.2.2.1, free]
    · simp only [Dock.core, Prod.mk.injEq] at core
      rw [core.2.2.2]
      exact heard
    · rw [Bu.takeDocks_congr (s.updateDock_bu n f).1]
      exact h.notTaken still
  · exact h.kept (.updateDock_outside inside f)

/-! ### The dock table formed after an operation that brings no bike and no hire -/

/-- The dock table of t is formed, and t records no bike and no owned hire that s does not. -/
structure State.DocksLead (s t : State) : Prop where
  formed : t.DocksFormed
  bikes : s.BikesKept t

namespace State.DocksLead
variable {s t u : State}

theorem refl (h : s.DocksFormed) : s.DocksLead s := ⟨h, .refl s⟩

theorem trans (h : s.DocksLead t) (k : t.DocksLead u) : s.DocksLead u := ⟨k.formed, h.bikes.trans k.bikes⟩

theorem kept (h : s.DocksLead t) (k : t.DocksKept u none) : s.DocksLead u := ⟨h.formed.kept k, h.bikes.trans k.bikesKept⟩

theorem updateDock (h : s.DocksLead t) (n : Nat) {f : Dock → Dock} (still : (t.dock n).release = none) (formed : (f (t.dock n)).Formed)
    (free : (f (t.dock n)).release = none) (heard : (t.dock n).heard = true → (f (t.dock n)).heard = true)
    (bike : ∀ x, (f (t.dock n)).bike = some x → (t.dock n).bike = some x) : s.DocksLead (t.updateDock n f) :=
  h.trans ⟨h.formed.updateDock n still formed free heard, .updateDock t n bike⟩

/-- A dock changed in what the form does not speak of. -/
theorem updateDock_core (h : s.DocksLead t) (n : Nat) {f : Dock → Dock} (hf : (f (t.dock n)).core = (t.dock n).core) :
    s.DocksLead (t.updateDock n f) := h.kept ((State.DocksKept.refl t).updateDock_core n hf)

end State.DocksLead

/-! ### Releases that end without their bike (R49, R54, R131) -/

/-- After a release has been ended at a dock, the take for the dock is gone: it has lapsed, or there was none. -/
theorem State.DocksFormed.takeGone {s t : State} (h : s.DocksFormed) (n : Nat) (same : t.bu.session = s.bu.session) :
    n ∉ (if (s.dock n).releasesFor .van then t.releaseLapsed n else t).bu.takeDocks := by
  split
  · rw [State.releaseLapsed_takeDocks, Bu.takeDocks_congr same]
    exact h.takeDocks_nodup.not_mem_erase
  · rename_i other
    rw [Bu.takeDocks_congr same, ← h.takes_iff]
    exact other

/-- A release ended with its bike still recorded. -/
theorem State.DocksLead.releaseEnded {s : State} (h : s.DocksFormed) {n : Nat} {f : Dock → Dock} (st : DockState)
    (releasing : (s.dock n).state = .releasing)
    (core : (f (s.dock n)).core = (st, (s.dock n).bike, none, (s.dock n).heard))
    (ends : st = .holding ∨ st = .faulted ∨ st = .offline ∨ st = .disabled) :
    s.DocksLead (if (s.dock n).releasesFor .van then (s.updateDock n f).releaseLapsed n else s.updateDock n f) := by
  have inside := State.inRange_of_releasing releasing
  have bike := h.recorded n (.inr releasing)
  have heard := h.heard n bike
  have kept : s.DocksKept (if (s.dock n).releasesFor .van then (s.updateDock n f).releaseLapsed n else s.updateDock n f) (some n) := by
    split
    · exact (State.DocksKept.updateDock_changed n (.refl s) f).releaseLapsed n
    · exact State.DocksKept.updateDock_changed n (.refl s) f
  have here : ((if (s.dock n).releasesFor .van then (s.updateDock n f).releaseLapsed n else s.updateDock n f).dock n).core =
      (st, (s.dock n).bike, none, (s.dock n).heard) := by
    rw [← core, ← s.core_updateDock_self f inside]
    split
    · rw [State.dock_congr (State.releaseLapsed_frame _ _).2.1]
    · rfl
  have gone := h.takeGone (t := s.updateDock n f) n (s.updateDock_bu n f).1
  generalize (if (s.dock n).releasesFor .van then (s.updateDock n f).releaseLapsed n else s.updateDock n f) = t at *
  simp only [Dock.core, Prod.mk.injEq] at here
  obtain ⟨state, same, free, known⟩ := here
  refine ⟨h.changed_free kept ?_ free (fun _ => known.trans heard) gone, fun d x hx => ?_, kept.owned⟩
  · rcases ends with rfl | rfl | rfl | rfl
    · exact .of_holding state free (by rw [same, bike]) (known.trans heard)
    · exact .of_withdrawn (.inl state) free fun _ => known.trans heard
    · exact .of_withdrawn (.inr (.inl state)) free fun _ => known.trans heard
    · exact .of_withdrawn (.inr (.inr state)) free fun _ => known.trans heard
  · by_cases hd : d = n
    · subst hd
      rw [← same, hx]
    · have other := kept.docks d fun e => hd (Option.some.inj e).symm
      simp only [Dock.core, Prod.mk.injEq] at other
      rw [← other.2.1, hx]

theorem State.DocksLead.abandonRelease {s : State} (h : s.DocksFormed) (n : Nat) {st : DockState}
    (ends : st = .holding ∨ st = .faulted ∨ st = .offline ∨ st = .disabled) : s.DocksLead (s.abandonRelease n st) := by
  unfold State.abandonRelease
  split
  · exact State.DocksLead.releaseEnded h st ‹_› (by simp [Dock.endRelease]) ends
  · exact .refl h

/-! ### Dock faults (R55) -/

theorem State.DocksLead.dockFaultRaised {s : State} (h : s.DocksFormed) (n : Nat) : s.DocksLead (s.dockFaultRaised n) := by
  have marked : s.DocksLead (s.updateDock n fun k => { k with faultMark := true }) := (State.DocksLead.refl h).updateDock_core n rfl
  have core : ((s.updateDock n fun k => { k with faultMark := true }).dock n).core = (s.dock n).core := by
    rw [State.core_updateDock]
    split <;> rfl
  have faulted (still : (s.dock n).state ≠ .releasing) :
      s.DocksLead ((s.updateDock n fun k => { k with faultMark := true }).updateDock n fun k => k.enter .faulted) := by
    simp only [Dock.core, Prod.mk.injEq] at core
    have free := (marked.formed.formed n).free (by rw [core.1]; exact still)
    exact marked.updateDock n free (.of_withdrawn (by simp) (by simpa using free) (by simpa using marked.formed.heard n)) (by simpa)
      (by simp) (by simp)
  unfold State.dockFaultRaised
  dsimp only
  split
  · exact marked.trans (.abandonRelease marked.formed n (by simp))
  · exact faulted (by simp [*])
  · exact faulted (by simp [*])
  · exact marked
  · exact marked
  · exact marked

theorem State.DocksLead.dockFaultsCleared {s : State} (h : s.DocksFormed) (n : Nat) : s.DocksLead (s.dockFaultsCleared n) := by
  unfold State.dockFaultsCleared
  by_cases faulted : (s.dock n).state = .faulted
  · have free := (h.formed n).free (by rw [faulted]; nofun)
    refine (State.DocksLead.refl h).updateDock n free ?_ ?_ ?_ ?_
    · rw [if_pos faulted]
      exact .of_settled free (h.heard n)
    · rw [if_pos faulted]; simpa
    · rw [if_pos faulted]; simp
    · rw [if_pos faulted]; simp
  · exact (State.DocksLead.refl h).updateDock_core n (by rw [if_neg faulted]; rfl)

/-! ### Quarantines (R60, R61) -/

theorem Dock.core_quarantineAbandoned (k : Dock) (t : Millis) : (k.quarantineAbandoned t).core = (.holding, k.bike, none, k.heard) := by
  rw [Dock.quarantineAbandoned_eq]
  rfl

/-- A bike quarantined after a quarantine was set was so before, or is the bike. -/
theorem State.quarantined_setQuarantine {s : State} {b x : Bike} {i : Ident} {v : Nat}
    (h : (s.setQuarantine b i v).du.quarantined x = true) : s.du.quarantined x = true ∨ x = b := by
  rw [Du.quarantined, (s.setQuarantine_du b i v).1] at h
  obtain ⟨e, he, rfl, q⟩ := (Du.quarantined_iff _ x).mp h
  obtain he | ⟨y, -, hb, rfl⟩ | rfl := State.mem_setBikePart he
  · exact .inl ((s.du.quarantined_iff _).mpr ⟨e, he, rfl, q⟩)
  · exact .inr hb
  · exact .inr rfl

/-- The core of each dock after a quarantine: a member release of the bike is over, and nothing else changes. -/
theorem State.core_setQuarantine (s : State) (b : Bike) (i : Ident) (v : Nat) (d : Nat) :
    (s.dock d).releasesToMember b ∧ ((s.setQuarantine b i v).dock d).core = (.holding, (s.dock d).bike, none, (s.dock d).heard) ∨
    ¬ (s.dock d).releasesToMember b ∧ ((s.setQuarantine b i v).dock d).core = (s.dock d).core := by
  by_cases member : (s.dock d).releasesToMember b
  · exact .inl ⟨member, (Dock.core_of_base (State.dock_setQuarantine_member member i v).1).trans (Dock.core_quarantineAbandoned _ _)⟩
  · exact .inr ⟨member, Dock.core_of_base (State.dock_setQuarantine_other member i v)⟩

theorem Dock.records_iff (k : Dock) (b : Bike) : k.records b = true ↔ ∃ x, k.bike = some x ∧ x.bike = b := by
  simp [Dock.records, Option.any_eq_true]

theorem State.DocksLead.setQuarantine {s : State} (h : s.DocksFormed) (b : Bike) (i : Ident) (v : Nat) :
    s.DocksLead (s.setQuarantine b i v) := by
  have cores := s.core_setQuarantine b i v
  have du := s.setQuarantine_du b i v
  have session := (s.setQuarantine_bu b i v).1
  have quarantined (x : Bike) := State.quarantined_setQuarantine (s := s) (b := b) (x := x) (i := i) (v := v)
  have sup : (s.setQuarantine b i v).sup = s.sup := by simp
  have hu : (s.setQuarantine b i v).hu = s.hu := by simp
  generalize s.setQuarantine b i v = t at *
  refine ⟨.of_cores (fun d => ?_) (fun d r x hr hp hx => ?_) (fun d hp low high => ?_) (fun d => ?_) ?_ (fun e => ?_),
    fun d x hx => ?_, by rw [hu]⟩
  · obtain ⟨⟨releasing, -⟩, core⟩ | ⟨-, core⟩ := cores d
    · have bike := h.recorded d (.inr releasing)
      simp only [Dock.core, Prod.mk.injEq] at core
      obtain ⟨state, same, free, known⟩ := core
      exact .of_holding state free (by rw [same, bike]) (by rw [known, h.heard d bike])
    · exact (h.formed d).congr core
  · obtain ⟨-, core⟩ | ⟨other, core⟩ := cores d
    · simp only [Dock.core, Prod.mk.injEq] at core
      rw [core.2.2.1] at hr
      cases hr
    · simp only [Dock.core, Prod.mk.injEq] at core
      obtain ⟨-, same, release, -⟩ := core
      by_contra bad
      obtain before | rfl := quarantined _ (Bool.eq_true_of_not_eq_false bad)
      · rw [h.notQuarantined (release ▸ hr) hp (same ▸ hx)] at before
        cases before
      · refine other ⟨(h.releasing d).mpr ?_, ?_, ?_⟩
        · rw [← release, hr]; rfl
        · exact (Dock.releasesFor_iff _ _).mpr ⟨r, release ▸ hr, hp⟩
        · exact (Dock.records_iff _ _).mpr ⟨x, same ▸ hx, rfl⟩
  · have heard := h.polled d (du.2.2 ▸ hp) low high
    obtain ⟨-, core⟩ | ⟨-, core⟩ := cores d <;> simp only [Dock.core, Prod.mk.injEq] at core
    · rw [core.2.2.2, heard]
    · rw [core.2.2.2, heard]
  · rw [Bu.takeDocks_congr session, ← h.takes_iff]
    obtain ⟨⟨-, member, -⟩, core⟩ | ⟨-, core⟩ := cores d
    · simp only [Dock.core, Prod.mk.injEq] at core
      obtain ⟨r, hr, hp⟩ := (Dock.releasesFor_iff _ _).mp member
      simp [Dock.releasesFor, core.2.2.1, hr, hp]
    · rw [Dock.releasesFor_congr core]
  · rw [Bu.takeDocks_congr session]
    exact h.takeDocks_nodup
  · rw [session, du.2.2]
    exact h.unstarted (sup ▸ e)
  · obtain ⟨-, core⟩ | ⟨-, core⟩ := cores d <;> simp only [Dock.core, Prod.mk.injEq] at core
    · rw [← core.2.1, hx]
    · rw [← core.2.1, hx]

/-! ### Reports and notices of faults (R112 to R119) -/

namespace State.DocksLead
variable {s : State}

theorem faultEffects (h : s.DocksFormed) (e : FaultEntry) (old : Nat) : s.DocksLead (s.faultEffects e old) := by
  unfold State.faultEffects
  split
  · rename_i b _
    have quarantined := State.DocksLead.setQuarantine h b e.id e.severity
    split
    · dsimp only
      split
      · exact quarantined.kept (((State.DocksKept.refl _).flood _).noteRise e)
      · exact quarantined
    · exact .refl h
  · rename_i d _
    have raised : s.DocksLead (if e.kind = .postSilent then s else s.dockFaultRaised d) := by
      split
      · exact .refl h
      · exact .dockFaultRaised h d
    split
    · dsimp only
      split
      · exact raised.kept ((State.DocksKept.refl _).noteRise e)
      · exact raised
    · exact .refl h
  · exact .refl h

theorem refusedEffects (h : s.DocksFormed) (x : Subject) (k : FaultKind) (v : Nat) : s.DocksLead (s.refusedEffects x k v) := by
  unfold State.refusedEffects
  split
  · split
    · have used := (State.DocksLead.refl h).kept ((State.DocksKept.refl s).useFaultSerial)
      exact used.trans (.setQuarantine used.formed _ _ _)
    · exact .refl h
  · split
    · exact .dockFaultRaised h _
    · exact .refl h
  · exact .refl h

theorem reportFault (h : s.DocksFormed) (r : FaultReport) : s.DocksLead (s.reportFault r).1 := by
  have from_kept {t u : State} (k : s.DocksKept t none) (lead : t.DocksFormed → t.DocksLead u) : s.DocksLead u :=
    ((State.DocksLead.refl h).kept k).trans (lead (h.kept k))
  unfold State.reportFault
  split
  · exact from_kept ((State.DocksKept.refl s).setLog _) fun f => .faultEffects f _ _
  · dsimp only
    split
    · exact from_kept (((State.DocksKept.refl s).setLog _).useFaultSerial) fun f => .faultEffects f _ _
    · exact from_kept ((State.DocksKept.refl s).setFlt _) fun f => .refusedEffects f _ _ _

theorem report (h : s.DocksFormed) (x : Subject) (k : FaultKind) (v : Nat) : s.DocksLead (s.report x k v) := reportFault h _

theorem memberReport (h : s.DocksFormed) (b : Bike) (c : Option Card) : s.DocksLead (s.memberReport b c) := reportFault h _

theorem takeFault (h : s.DocksFormed) (i : Ident) (b : Bike) (k : FaultKind) (v : Nat) : s.DocksLead (s.takeFault i b k v) := by
  have from_kept {t u : State} (k : s.DocksKept t none) (lead : t.DocksFormed → t.DocksLead u) : s.DocksLead u :=
    ((State.DocksLead.refl h).kept k).trans (lead (h.kept k))
  unfold State.takeFault
  split
  · exact .refl h
  · split
    · exact from_kept ((State.DocksKept.refl s).setLog _) fun f => .setQuarantine f _ _ _
    · split
      · exact from_kept ((State.DocksKept.refl s).setLog _) fun f => .setQuarantine f _ _ _
      · split
        · exact from_kept ((State.DocksKept.refl s).setLog _) fun f => .setQuarantine f _ _ _
        · exact from_kept ((State.DocksKept.refl s).setFlt _) fun f => .setQuarantine f _ _ _

theorem clearFaultsOf (h : s.DocksFormed) (x : Subject) : s.DocksLead (s.clearFaultsOf x) := by
  have cleared : s.DocksLead (s.setLog (clearSubject x s.flt.log)) := (State.DocksLead.refl h).kept ((State.DocksKept.refl s).setLog _)
  unfold State.clearFaultsOf
  cases x with
  | bike b => exact cleared.kept (((State.DocksKept.refl _).removeQuarantine b).flood _)
  | dock d => exact cleared.trans (.dockFaultsCleared cleared.formed d)
  | station => exact cleared

end State.DocksLead
end Sys2Proof.Machine
end

section
/-!
PROOFS. Releases begun and completed, arrivals, heartbeats and the dock timers keep the dock table formed; and bikes that leave and arrive
keep the owned hires apart from the docks (R46 to R59, R77).
-/
namespace Sys2Proof.Machine
open Sys2Proof

/-! ### Releases begun (R46, R47, R130) -/

/-- What a granted checkout finds at its dock (R70). -/
theorem State.checkout_granted_dock {s : State} {d : Nat} {c : CardRecord} (h : s.checkout d c = none) :
    (s.dock d).state = .holding ∧ ((s.dock d).bike.any fun b => s.du.quarantined b.bike) = false := by
  unfold State.checkout at h
  (repeat' split at h) <;> simp_all

theorem State.takeOutcome_granted_dock {s : State} {van : Node} {d : Nat} (h : s.takeOutcome van d = .granted) :
    (s.dock d).state = .holding := by
  unfold State.takeOutcome at h
  (repeat' split at h) <;> simp_all

/-- The core of a dock that is released. -/
theorem State.core_release (s : State) {n : Nat} (inside : 1 ≤ n ∧ n ≤ 24) (p : Purpose) (c : Option CardRecord) :
    ((s.release n p c).dock n).core =
      (.releasing, (s.dock n).bike, some { purpose := p, card := c, start := s.timebase }, (s.dock n).heard) := by
  rw [State.release, s.core_updateDock_self _ inside, Dock.core_enter]

/-- A dock that is released with its bike, and stays formed. -/
theorem Dock.Formed.of_released {k : Dock} {r : Release} (state : k.state = .releasing) (release : k.release = some r)
    (pending : r.purpose = .member ↔ r.card.isSome = true) (bike : k.bike.isSome = true) (heard : k.heard = true) : k.Formed where
  releasing := by rw [state, release]; simp
  pending x hx := by rw [release] at hx; cases hx; exact pending
  recorded _ := bike
  empty := by rw [state]; nofun
  heard _ := heard

theorem State.BikesKept.release (s : State) (n : Nat) (p : Purpose) (c : Option CardRecord) : s.BikesKept (s.release n p c) :=
  .updateDock s n (by simp)

/-- A dock in HOLDING whose bike is not quarantined may be released for a member. -/
theorem State.DocksLead.releaseToMember {s : State} (h : s.DocksFormed) {n : Nat} (holding : (s.dock n).state = .holding)
    (free : ((s.dock n).bike.any fun b => s.du.quarantined b.bike) = false) (c : CardRecord) :
    s.DocksLead (s.release n .member (some c)) := by
  refine ⟨?_, .release s n _ _⟩
  have inside : 1 ≤ n ∧ n ≤ 24 := State.inTable_of_state (s := s) (by rw [holding]; nofun)
  have bike := h.recorded n (.inl holding)
  have core := s.core_release inside .member (some c)
  have du : (s.release n .member (some c)).du.bikes = s.du.bikes := (s.updateDock_du _ _).1
  have takes := Bu.takeDocks_congr (s.release_bu n .member (some c)).1
  have untaken := h.notTaken ((h.formed n).free (by rw [holding]; nofun))
  have kept : s.DocksKept (s.release n .member (some c)) (some n) := .updateDock_changed n (.refl s) _
  simp only [Dock.core, Prod.mk.injEq] at core
  obtain ⟨state, same, release, heard⟩ := core
  refine h.changed kept fun d e => ?_
  cases e
  refine ⟨.of_released state release (by simp) (by rw [same, bike]) (by rw [heard, h.heard n bike]), fun r x hr hp hx => ?_,
    by rw [heard]; exact id, ?_⟩
  · rw [same] at hx
    rw [hx, Option.any_some] at free
    rw [Du.quarantined, du]
    exact free
  · rw [takes, Dock.releasesFor, release]
    simp [untaken]

/-- A take granted goes in flight for a dock in HOLDING, which is released for the van. -/
theorem State.DocksLead.releaseToVan {s : State} (h : s.DocksFormed) {n : Nat} (holding : (s.dock n).state = .holding)
    {ss new : Session} (held : s.bu.session = some ss) {f : TakeInFlight} (takes : new.inFlight = ss.inFlight ++ [f])
    (here : f.dock = n) : s.DocksLead ((s.setSession new).release n .van none) := by
  have inside : 1 ≤ n ∧ n ≤ 24 := State.inTable_of_state (s := s) (by rw [holding]; nofun)
  have bike := h.recorded n (.inl holding)
  have untaken := h.notTaken ((h.formed n).free (by rw [holding]; nofun))
  have core := (s.setSession new).core_release inside .van none
  have docks : ((s.setSession new).release n .van none).bu.takeDocks = s.bu.takeDocks ++ [n] := by
    rw [Bu.takeDocks_congr (State.release_bu _ _ _ _).1, Bu.takeDocks_of (ss := new) rfl, takes, Bu.takeDocks_of held,
      List.map_append, List.map_singleton, here]
  have kept : s.DocksKept ((s.setSession new).release n .van none) (some n) := {
    docks := fun d other => by
      rw [State.release, State.dock_updateDock_ne _ _ _ _ fun e => other (by rw [e]), State.dock_congr (s := s) (by simp)]
    quarantined := fun b => by
      rw [Du.quarantined, State.release, (State.updateDock_du _ _ _).1, (s.setSession_frame new).2.2.1, ← Du.quarantined]
      exact id
    polled := .inl (by rw [State.release, (State.updateDock_du _ _ _).2.2.1, (s.setSession_frame new).2.2.1])
    takes := fun d other => by
      rw [docks, List.mem_append, List.mem_singleton]
      exact or_iff_left fun e => other (by rw [e])
    takesOnce := fun once => by rw [docks]; exact nodup_snoc once untaken
    start := by simp
    session := fun _ e => by rw [held] at e; cases e
    owned := by simp }
  refine ⟨h.changed kept fun d e => ?_, ⟨fun d x hx => ?_, kept.owned⟩⟩
  · cases e
    simp only [Dock.core, Prod.mk.injEq] at core
    obtain ⟨state, same, release, heard⟩ := core
    have read : (s.setSession new).dock n = s.dock n := State.dock_congr (by simp) n
    rw [read] at same heard
    refine ⟨.of_released state release (by simp) (by rw [same, bike]) (by rw [heard, h.heard n bike]), fun r x hr hp => ?_,
      by rw [heard]; exact id, ?_⟩
    · rw [release] at hr
      cases hr
      cases hp
    · rw [docks, Dock.releasesFor, release]
      simp
  · have := (State.BikesKept.release (s.setSession new) n .van none).docked d x hx
    rwa [State.dock_congr (s := s) (by simp)] at this

namespace State.DocksLead
variable {s : State}

theorem takeTakeRequest (h : s.DocksFormed) (van : Node) (r : Serial) (d : Nat) : s.DocksLead (s.takeTakeRequest van r d) := by
  have lead := State.DocksLead.refl h
  have again := State.DocksKept.refl (c := none) s
  unfold State.takeTakeRequest
  split
  · exact lead.kept (again.originate _ _)
  · rename_i ss held
    split
    · exact lead.kept (again.originate _ _)
    · split
      · exact lead.kept ((again.touchSession van).originate _ _)
      · split
        · exact lead.kept ((again.touchSession van).originate _ _)
        · exact (releaseToVan h (State.takeOutcome_granted_dock ‹_›) held (by exact rfl) (by exact rfl)).kept
            ((State.DocksKept.refl _).originate _ _)
        · exact lead.kept ((again.setSession held (by exact rfl)).originate _ _)

theorem tapCard (h : s.DocksFormed) (d : Nat) (c : CardRecord) : s.DocksLead (s.tapCard d c) := by
  unfold State.tapCard
  split
  · rename_i granted
    obtain ⟨holding, free⟩ := State.checkout_granted_dock granted
    have cleared : s.DocksLead (s.updateDock d fun k => { k with lastRefusal := none }) := (State.DocksLead.refl h).updateDock_core d rfl
    have core : ((s.updateDock d fun k => { k with lastRefusal := none }).dock d).core = (s.dock d).core := by
      rw [State.core_updateDock]
      split <;> rfl
    simp only [Dock.core, Prod.mk.injEq] at core
    refine cleared.trans (releaseToMember cleared.formed (by rw [core.1, holding]) ?_ c)
    rw [core.2.1]
    simpa [Du.quarantined] using free
  · exact (State.DocksLead.refl h).updateDock_core d rfl

theorem pressButton (h : s.DocksFormed) (d : Nat) : s.DocksLead (s.pressButton d) := by
  unfold State.pressButton
  split
  · split
    · exact .refl h
    · exact (memberReport h _ _).updateDock_core d rfl
  · split
    · exact memberReport h _ _
    · exact .refl h
  · exact .refl h

/-! ### Withdrawals and timers (R44, R49, R56, R57) -/

/-- A dock that is not being released is withdrawn. -/
theorem withdrawn (h : s.DocksFormed) (d : Nat) {st : DockState} (still : (s.dock d).state ≠ .releasing)
    (ends : st = .faulted ∨ st = .offline ∨ st = .disabled) : s.DocksLead (s.updateDock d fun k => k.enter st) := by
  have free := (h.formed d).free still
  exact (State.DocksLead.refl h).updateDock d free
    (.of_withdrawn (by simpa using ends) (by simpa using free) (by simpa using h.heard d)) (by simpa) (by simp) (by simp)

theorem disableDock (h : s.DocksFormed) (d : Nat) : s.DocksLead (s.disableDock d) := by
  have marked : s.DocksLead (s.updateDock d fun k => { k with hostDisabled := true }) := (State.DocksLead.refl h).updateDock_core d rfl
  have core : ((s.updateDock d fun k => { k with hostDisabled := true }).dock d).core = (s.dock d).core := by
    rw [State.core_updateDock]
    split <;> rfl
  simp only [Dock.core, Prod.mk.injEq] at core
  unfold State.disableDock
  dsimp only
  split
  · exact marked.trans (abandonRelease marked.formed d (by simp))
  · exact marked.trans (withdrawn marked.formed d (by rwa [core.1]) (by simp))

theorem settle (h : s.DocksFormed) (d : Nat) (free : (s.dock d).release = none) : s.DocksLead (s.updateDock d Dock.settle) :=
  (State.DocksLead.refl h).updateDock d free (.of_settled free (h.heard d)) (by simpa) (by simp) (by simp)

theorem enableDock (h : s.DocksFormed) (d : Nat) : s.DocksLead (s.enableDock d) := by
  unfold State.enableDock
  split
  · rename_i disabled
    have free := (h.formed d).free (by rw [disabled]; nofun)
    exact (State.DocksLead.refl h).updateDock d free (.of_settled free (h.heard d)) (by simpa) (by simp) (by simp)
  · exact .refl h

theorem postFallsSilent (h : s.DocksFormed) (d : Nat) : s.DocksLead (s.postFallsSilent d) := by
  have marked : s.DocksLead (s.updateDock d fun k => { k with silent := true }) := (State.DocksLead.refl h).updateDock_core d rfl
  have silent := marked.trans (report marked.formed (.dock d) .postSilent 2)
  unfold State.postFallsSilent
  dsimp only
  split
  · exact silent.trans (withdrawn silent.formed d (by simp [*]) (by simp))
  · exact silent.trans (withdrawn silent.formed d (by simp [*]) (by simp))
  · exact silent.trans (abandonRelease silent.formed d (by simp))
  · exact silent
  · exact silent
  · exact silent

theorem releaseTimesOut (h : s.DocksFormed) (d : Nat) (releasing : (s.dock d).state = .releasing) :
    s.DocksLead (s.releaseTimesOut d) := by
  have lapsed := releaseEnded h (f := fun k => (k.endRelease .holding).show .red s.timebase) .holding releasing
    (by simp [Dock.endRelease]) (by simp)
  unfold State.releaseTimesOut
  dsimp only
  split
  · have jammed := lapsed.trans (report lapsed.formed (.dock d) .dockJam 2)
    exact (jammed.trans (dockFaultRaised jammed.formed d)).updateDock_core d rfl
  · exact lapsed.updateDock_core d rfl

end State.DocksLead

/-! ### Bikes leaving (R48, R50) -/

/-- A dock whose release has been taken (R48). -/
def Dock.taken (k : Dock) : Dock :=
  Dock.enter { k with release := none, bike := none, untaken := 0, window := none, lockSlot := some .lock } .empty

@[simp] theorem Dock.core_taken (k : Dock) : k.taken.core = (.empty, none, none, k.heard) := by
  simp [Dock.taken]

theorem State.DocksFormed.of_frame {s t : State} (h : s.DocksFormed) (du : t.du = s.du) (session : t.bu.session = s.bu.session)
    (start : t.sup.start = s.sup.start) : t.DocksFormed where
  releasing d := by rw [State.dock_congr du]; exact h.releasing d
  pending d := by rw [State.dock_congr du]; exact h.pending d
  recorded d := by rw [State.dock_congr du]; exact h.recorded d
  empty d := by rw [State.dock_congr du]; exact h.empty d
  quarantined d := by rw [State.dock_congr du, du]; exact h.quarantined d
  heard d := by rw [State.dock_congr du]; exact h.heard d
  polled := by
    intro d
    rw [du, State.dock_congr du]
    exact h.polled d
  takes d := by rw [State.dock_congr du, session]; exact h.takes d
  takesOnce := by rw [session]; exact h.takesOnce
  unstarted := by rw [start, session, du]; exact h.unstarted

@[simp] theorem State.openHire_session (s : State) (d : Nat) (b : Bike) (c : CardRecord) :
    (s.openHire d b c).bu.session = s.bu.session := by
  simp [State.openHire]

/-- A release completed leaves the dock EMPTY and its take gone. -/
theorem State.DocksFormed.taken {s t : State} (h : s.DocksFormed) {d : Nat} (releasing : (s.dock d).state = .releasing)
    (kept : s.DocksKept t (some d)) (du : t.du = (s.updateDock d Dock.taken).du) (gone : d ∉ t.bu.takeDocks) : t.DocksFormed := by
  have inside := State.inRange_of_releasing releasing
  have core : (t.dock d).core = (.empty, none, none, (s.dock d).heard) := by
    rw [State.dock_congr du, s.core_updateDock_self _ inside, Dock.core_taken]
  simp only [Dock.core, Prod.mk.injEq] at core
  obtain ⟨state, bike, free, heard⟩ := core
  exact h.changed_free kept (.of_empty state free bike) free (by rw [heard]; exact id) gone

theorem State.DocksFormed.completeRelease {s : State} (h : s.DocksFormed) {d : Nat} (releasing : (s.dock d).state = .releasing) :
    (s.completeRelease d).DocksFormed := by
  have emptied : s.DocksKept (s.updateDock d Dock.taken) (some d) := .updateDock_changed d (.refl s) _
  have untaken (other : (s.dock d).releasesFor .van = false) : (s.updateDock d Dock.taken).DocksFormed := by
    refine h.taken releasing emptied rfl ?_
    rw [Bu.takeDocks_congr (s.updateDock_bu d _).1, ← h.takes_iff, other]
    nofun
  unfold State.completeRelease
  dsimp only
  split
  · rename_i c _ x release _
    exact (untaken (by simp [Dock.releasesFor, release])).of_frame
      (t := (s.updateDock d Dock.taken).openHire d x.bike c) (by simp) (by simp) (by simp)
  · rename_i x _ _
    refine h.taken releasing (emptied.takeRecorded d x.bike) (State.takeRecorded_frame _ d x.bike).2.1 ?_
    rw [State.takeRecorded_takeDocks, Bu.takeDocks_congr (s.updateDock_bu d _).1]
    exact h.takeDocks_nodup.not_mem_erase
  · rename_i member van
    refine untaken ?_
    obtain ⟨⟨p, c, n⟩, held⟩ := Option.isSome_iff_exists.mp ((h.releasing d).mp releasing)
    obtain ⟨x, bike⟩ := Option.isSome_iff_exists.mp (h.recorded d (.inr releasing))
    cases p with
    | member => simp [Dock.releasesFor, held]
    | van => exact absurd bike (van c n x held)

/-- A completed release leaves the docks as the taking of its bike does. -/
theorem State.completeRelease_du (s : State) (d : Nat) : (s.completeRelease d).du = (s.updateDock d Dock.taken).du := by
  unfold State.completeRelease
  dsimp only
  split
  · exact (State.openHire_frame _ _ _ _).2.1
  · exact (State.takeRecorded_frame _ _ _).2.1
  · rfl

/-- A dock other than the one whose bike leaves or arrives is as it was. -/
theorem State.completeRelease_dock_ne (s : State) {d m : Nat} (h : m ≠ d) : (s.completeRelease d).dock m = s.dock m := by
  rw [State.dock_congr (s.completeRelease_du d), State.dock_updateDock_ne _ _ _ _ h]

theorem State.completeRelease_dock (s : State) {d : Nat} (inside : 1 ≤ d ∧ d ≤ 24) :
    ((s.completeRelease d).dock d).core = (.empty, none, none, (s.dock d).heard) := by
  rw [State.dock_congr (s.completeRelease_du d), s.core_updateDock_self _ inside, Dock.core_taken]

end Sys2Proof.Machine
end

section
/-!
PROOFS. Bikes that leave and arrive, and heartbeats, keep the dock table formed and the owned hires apart from the docks (R45 to R52, R58,
R59, R77).
-/
namespace Sys2Proof.Machine
open Sys2Proof

/-! ### Forced removals (R50) -/

/-- A report on a bike touches no dock that is not being released. -/
theorem State.core_reportFault_bike (s : State) {r : FaultReport} {b : Bike} (hr : r.subject = .bike b) {d : Nat}
    (still : (s.dock d).state ≠ .releasing) : ((s.reportFault r).1.dock d).core = (s.dock d).core := by
  have quarantine {t : State} (du : t.du = s.du) (i : Ident) (v : Nat) : ((t.setQuarantine b i v).dock d).core = (s.dock d).core := by
    obtain ⟨⟨releasing, -⟩, -⟩ | ⟨-, core⟩ := t.core_setQuarantine b i v d
    · rw [State.dock_congr du] at releasing
      exact absurd releasing still
    · rw [core, State.dock_congr du]
  have effects {t : State} (du : t.du = s.du) (e : FaultEntry) (he : e.subject = .bike b) (old : Nat) :
      ((t.faultEffects e old).dock d).core = (s.dock d).core := by
    unfold State.faultEffects
    rw [he]
    dsimp only
    split
    · split
      · rw [State.dock_congr (s := t.setQuarantine b e.id e.severity) (by simp), quarantine du]
      · exact quarantine du _ _
    · rw [State.dock_congr du]
  unfold State.reportFault
  split
  · rename_i e found
    have same : e.subject = .bike b := by
      have := List.find?_some found
      simp only [FaultEntry.matches, Bool.and_eq_true, decide_eq_true_eq] at this
      rw [this.1.2, hr]
    exact effects (State.setLog_frame _ _).2.2.1 (e.merged r.severity r.card s.now) same _
  · dsimp only
    split
    · exact effects (by simp) _ hr _
    · unfold State.refusedEffects
      rw [hr]
      dsimp only
      split
      · exact quarantine (by simp) _ _
      · rfl

/-- The dock after a forced removal (R50). -/
def Dock.robbed (k : Dock) : Dock :=
  let k' : Dock := { k with bike := none, window := none, lockSlot := some .lock }
  if k.state = .holding then k'.enter .empty else k'

theorem Dock.core_robbed (k : Dock) :
    k.robbed.core = (if k.state = .holding then .empty else k.state, none, k.release, k.heard) := by
  unfold Dock.robbed
  dsimp only
  split <;> simp [Dock.core]

theorem State.forcedRemoval_eq (s : State) (d : Nat) (b : Bike) :
    s.forcedRemoval d b = ((s.report (.bike b) .forcedRemoval 3).setMissing b s.node s.now).updateDock d Dock.robbed := rfl

theorem State.core_missing (s : State) (b x : Bike) (n : Node) (t : Time) {d : Nat} (still : (s.dock d).state ≠ .releasing) :
    (((s.report (.bike b) .forcedRemoval 3).setMissing x n t).dock d).core = (s.dock d).core := by
  rw [Dock.core_of_base (State.base_setMissing _ _ _ _ _)]
  exact s.core_reportFault_bike rfl still

/-- The core of a dock after the forced removal of its bike. -/
theorem State.core_forcedRemoval (s : State) {d : Nat} (b : Bike) (still : (s.dock d).state ≠ .releasing) (inside : 1 ≤ d ∧ d ≤ 24) :
    ((s.forcedRemoval d b).dock d).core =
      (if (s.dock d).state = .holding then .empty else (s.dock d).state, none, (s.dock d).release, (s.dock d).heard) := by
  have core := s.core_missing b b s.node s.now still
  rw [State.forcedRemoval_eq, State.core_updateDock_self _ _ inside, Dock.core_robbed]
  simp only [Dock.core, Prod.mk.injEq] at core
  obtain ⟨state, -, release, heard⟩ := core
  rw [state, release, heard]

/-- A dock robbed of its bike is formed where it was not being released. -/
theorem Dock.Formed.robbed {k : Dock} (h : k.Formed) (still : k.state ≠ .releasing) : k.robbed.Formed := by
  have core := k.core_robbed
  have free := h.free still
  simp only [Dock.core, Prod.mk.injEq] at core
  obtain ⟨state, bike, release, -⟩ := core
  rw [free] at release
  have heard : k.robbed.bike.isSome = true → k.robbed.heard = true := by rw [bike]; nofun
  cases e : k.state with
  | empty => exact .of_empty (by rw [state, e]; rfl) release bike
  | holding => exact .of_empty (by rw [state, e]; rfl) release bike
  | releasing => exact absurd e still
  | faulted => exact .of_withdrawn (.inl (by rw [state, e]; rfl)) release heard
  | offline => exact .of_withdrawn (.inr (.inl (by rw [state, e]; rfl))) release heard
  | disabled => exact .of_withdrawn (.inr (.inr (by rw [state, e]; rfl))) release heard

theorem State.DocksLead.forcedRemoval {s : State} (h : s.DocksFormed) (d : Nat) (b : Bike) (still : (s.dock d).state ≠ .releasing) :
    s.DocksLead (s.forcedRemoval d b) := by
  have missing : s.DocksLead ((s.report (.bike b) .forcedRemoval 3).setMissing b s.node s.now) :=
    (State.DocksLead.report h _ _ _).kept ((State.DocksKept.refl _).setMissing b _ _)
  have core := s.core_missing b b s.node s.now still
  rw [State.forcedRemoval_eq]
  generalize (s.report (.bike b) .forcedRemoval 3).setMissing b s.node s.now = t at *
  have state : (t.dock d).state ≠ .releasing := by
    simp only [Dock.core, Prod.mk.injEq] at core
    rwa [core.1]
  have free := (missing.formed.formed d).free state
  have robbed := (t.dock d).core_robbed
  simp only [Dock.core, Prod.mk.injEq] at robbed
  exact missing.updateDock d free ((missing.formed.formed d).robbed state) (by rw [robbed.2.2.1, free])
    (by rw [robbed.2.2.2]; exact id) (by rw [robbed.2.1]; nofun)

/-! ### Bikes leaving (R48, R50) -/

/-- What a BIKE_OUT can do at a formed dock. -/
theorem State.DocksFormed.bikeLeaves_cases {s : State} (h : s.DocksFormed) (d : Nat) :
    ((s.dock d).state = .releasing ∧ s.bikeLeaves d = s.completeRelease d) ∨
    (∃ x, (s.dock d).state ≠ .releasing ∧ (s.dock d).bike = some x ∧ s.bikeLeaves d = s.forcedRemoval d x.bike) ∨
    ((s.dock d).state ≠ .releasing ∧ (s.dock d).state ≠ .holding ∧ s.bikeLeaves d = s) := by
  unfold State.bikeLeaves
  split
  · exact .inl ⟨‹_›, rfl⟩
  · obtain ⟨x, hx⟩ := Option.isSome_iff_exists.mp (h.recorded d (.inl ‹_›))
    exact .inr (.inl ⟨x, by simp [*], hx, by rw [hx]⟩)
  · split
    · exact .inr (.inl ⟨_, by simp [*], ‹_›, rfl⟩)
    · exact .inr (.inr ⟨by simp [*], by simp [*], rfl⟩)
  · split
    · exact .inr (.inl ⟨_, by simp [*], ‹_›, rfl⟩)
    · exact .inr (.inr ⟨by simp [*], by simp [*], rfl⟩)
  · exact .inr (.inr ⟨by simp [*], by simp [*], rfl⟩)
  · exact .inr (.inr ⟨by simp [*], by simp [*], rfl⟩)

theorem State.DocksFormed.bikeLeaves {s : State} (h : s.DocksFormed) (d : Nat) : (s.bikeLeaves d).DocksFormed := by
  obtain ⟨releasing, e⟩ | ⟨x, still, -, e⟩ | ⟨-, -, e⟩ := h.bikeLeaves_cases d <;> rw [e]
  · exact h.completeRelease releasing
  · exact (State.DocksLead.forcedRemoval h d _ still).formed
  · exact h

/-- After a BIKE_OUT no release is in force at the dock, and its post is heard as before. -/
theorem State.DocksFormed.bikeLeaves_dock {s : State} (h : s.DocksFormed) (d : Nat) :
    ((s.bikeLeaves d).dock d).release = none ∧ ((s.bikeLeaves d).dock d).heard = (s.dock d).heard := by
  obtain ⟨releasing, e⟩ | ⟨x, still, bike, e⟩ | ⟨still, -, e⟩ := h.bikeLeaves_cases d <;> rw [e]
  · have core := s.completeRelease_dock (State.inRange_of_releasing releasing)
    simp only [Dock.core, Prod.mk.injEq] at core
    exact ⟨core.2.2.1, core.2.2.2⟩
  · have core := s.core_forcedRemoval x.bike still (State.inTable_of_bike bike)
    simp only [Dock.core, Prod.mk.injEq] at core
    exact ⟨core.2.2.1.trans ((h.formed d).free still), core.2.2.2⟩
  · exact ⟨(h.formed d).free still, rfl⟩

/-! ### Bikes arriving (R51, R52) -/

theorem Dock.core_window (k : Dock) (w : Option ReturnWindow) (p : Lamp) (t : Millis) :
    (Dock.show { k with window := w } p t).core = k.core := rfl

theorem State.dockOf_some {s : State} {b : Bike} {d n : Nat} (h : s.dockOf b d = some n) : n ≠ d ∧ (s.dock n).records b = true := by
  have := List.find?_some h
  simpa using this

/-- The bike that has left another dock is gone from there, and the dock of the arrival is as it was. -/
theorem State.leaveOther_dock (s : State) (d : Nat) (b : Bike) : (s.leaveOther d b).dock d = s.dock d := by
  unfold State.leaveOther
  split
  · rfl
  · rename_i n other
    have apart := (State.dockOf_some other).1.symm
    split
    · exact s.completeRelease_dock_ne apart
    · exact s.dock_updateDock_ne _ _ _ apart

/-- A dock settled without its bike (R51). -/
theorem State.DocksFormed.leaveOther {s : State} (h : s.DocksFormed) (d : Nat) (b : Bike) : (s.leaveOther d b).DocksFormed := by
  unfold State.leaveOther
  split
  · exact h
  · split
    · exact h.completeRelease ‹_›
    · rename_i n _ still
      have free := (h.formed n).free still
      exact h.updateDock n free (.of_settled free (by simp)) (by simpa) (by simp)

theorem State.DocksFormed.arrive {s : State} (h : s.DocksFormed) {d : Nat} (free : (s.dock d).release = none)
    (heard : (s.dock d).heard = true) (b : Bike) : (s.arrive d b).DocksFormed := by
  have left := h.leaveOther d b
  have docked : ((s.leaveOther d b).updateDock d fun k =>
      Dock.enter { k with bike := some { bike := b, time := s.now } } .holding).DocksFormed := by
    have same := s.leaveOther_dock d b
    exact left.updateDock d (by rw [same, free]) (.of_holding (by simp) (by simpa [same]) (by simp) (by simpa [same])) (by simpa [same])
      (by simp)
  unfold State.arrive
  dsimp only
  exact docked.kept ((((State.DocksKept.refl _).removeMissing b).arrival d b false).updateDock_core d (Dock.core_window _ _ _ _))

theorem State.DocksFormed.arriveUnavailable {s : State} (h : s.DocksFormed) {d : Nat}
    (state : (s.dock d).state = .faulted ∨ (s.dock d).state = .disabled) (heard : (s.dock d).heard = true) (b : Bike) :
    (s.arriveUnavailable d b).DocksFormed := by
  have free := (h.formed d).free (by rcases state with e | e <;> rw [e] <;> nofun)
  have docked : (s.updateDock d fun k => { k with bike := some { bike := b, time := s.now }, window := none }).DocksFormed :=
    h.updateDock d free (.of_withdrawn (by dsimp only; tauto) free fun _ => heard) free id
  exact docked.kept (((State.DocksKept.refl _).removeMissing b).arrival d b false)

theorem State.DocksFormed.bikeArrives {s : State} (h : s.DocksFormed) {d : Nat} (heard : (s.dock d).heard = true) (b : Bike) :
    (s.bikeArrives d b).DocksFormed := by
  obtain ⟨free, known⟩ := h.bikeLeaves_dock d
  have replaced : ((s.bikeLeaves d).arrive d b).DocksFormed := (h.bikeLeaves d).arrive free (known.trans heard) b
  unfold State.bikeArrives
  split
  · exact h.arrive ((h.formed d).free (by simp [*])) heard b
  · split
    · exact h
    · exact replaced
  · split
    · exact h
    · exact replaced
  · split
    · exact h
    · exact h.arriveUnavailable (.inl ‹_›) heard b
  · split
    · exact h
    · exact h.arriveUnavailable (.inr ‹_›) heard b
  · exact h

/-! ### Heartbeats (R45, R58, R59) -/

theorem State.DocksFormed.compareHeartbeat {s : State} (h : s.DocksFormed) {d : Nat} (heard : (s.dock d).heard = true) (b : Bike) :
    (s.compareHeartbeat d b).DocksFormed := by
  unfold State.compareHeartbeat
  split
  · split
    · exact h
    · exact h.bikeArrives heard b
  · split
    · exact h.bikeLeaves d
    · split
      · exact h
      · exact (h.bikeLeaves d).bikeArrives ((h.bikeLeaves_dock d).2.trans heard) b

/-- The state after the first heartbeat of a post has been taken, before its dock is settled (R59). -/
def State.heardFirst (s : State) (d : Nat) (b : Bike) : State :=
  let s1 := s.updateDock d fun k => { k with heard := true }
  if b = 0 then s1
  else ((((s1.updateDock d fun k => { k with bike := some { bike := b, time := s.now } }).removeMissing b).arrival d b true).1)

theorem State.firstHeartbeat_eq (s : State) (d : Nat) (b : Bike) :
    s.firstHeartbeat d b = (s.heardFirst d b).updateDock d fun k => (k.settle.refresh (s.heardFirst d b).du).placeResting := rfl

theorem State.DocksKept.heardFirst (s : State) (d : Nat) (b : Bike) : s.DocksKept (s.heardFirst d b) (some d) := by
  have heard := State.DocksKept.updateDock_changed d (.refl s) fun k => { k with heard := true }
  unfold State.heardFirst
  dsimp only
  split
  · exact heard
  · exact ((heard.updateDock_changed d _).removeMissing b).arrival d b true

theorem State.heardFirst_takes (s : State) (d e : Nat) (b : Bike) : e ∈ (s.heardFirst d b).bu.takeDocks ↔ e ∈ s.bu.takeDocks := by
  unfold State.heardFirst
  dsimp only
  split
  · rw [Bu.takeDocks_congr (State.updateDock_bu _ _ _).1]
  · rw [(((State.DocksKept.refl (c := none) _).removeMissing b).arrival d b true).takes e nofun, Bu.takeDocks_congr (State.updateDock_bu _ _ _).1,
      Bu.takeDocks_congr (State.updateDock_bu _ _ _).1]

/-- The post is heard and the bike it reports recorded, at a dock of the table. -/
theorem State.core_heardFirst (s : State) {d : Nat} (b : Bike) (inside : 1 ≤ d ∧ d ≤ 24) :
    ((s.heardFirst d b).dock d).core =
      ((s.dock d).state, if b = 0 then (s.dock d).bike else some { bike := b, time := s.now }, (s.dock d).release, true) := by
  have heard := s.core_updateDock_self (fun k => { k with heard := true }) inside
  unfold State.heardFirst
  dsimp only
  split
  · exact heard
  · rw [(((State.DocksKept.refl (c := none) _).removeMissing b).arrival d b true).docks d nofun, State.core_updateDock_self _ _ inside]
    simp only [Dock.core, Prod.mk.injEq] at heard ⊢
    exact ⟨heard.1, trivial, heard.2.2.1, heard.2.2.2⟩

/-- The first heartbeat finds a dock without a bike and without a release. -/
theorem State.DocksFormed.unheard {s : State} (h : s.DocksFormed) {d : Nat} (unheard : (s.dock d).heard = false) :
    (s.dock d).bike = none ∧ (s.dock d).release = none := by
  have bike : (s.dock d).bike = none := by
    by_contra some
    rw [h.heard d (Option.isSome_iff_ne_none.mpr some)] at unheard
    cases unheard
  refine ⟨bike, (h.formed d).free fun releasing => ?_⟩
  have := h.recorded d (.inr releasing)
  rw [bike] at this
  cases this

theorem State.DocksFormed.firstHeartbeat {s : State} (h : s.DocksFormed) {d : Nat} (unheard : (s.dock d).heard = false) (b : Bike) :
    (s.firstHeartbeat d b).DocksFormed := by
  obtain ⟨-, free⟩ := h.unheard unheard
  have settled (k : Dock) : ((k.settle.refresh (s.heardFirst d b).du).placeResting).core = k.settle.core := by simp
  rw [State.firstHeartbeat_eq]
  by_cases inside : 1 ≤ d ∧ d ≤ 24
  · have core := s.core_heardFirst b inside
    simp only [Dock.core, Prod.mk.injEq] at core
    obtain ⟨-, -, release, heard⟩ := core
    have released : ((s.heardFirst d b).dock d).release = none := release.trans free
    have here := (s.heardFirst d b).core_updateDock_self (fun k => (k.settle.refresh (s.heardFirst d b).du).placeResting) inside
    rw [settled] at here
    have same := here
    simp only [Dock.core, Prod.mk.injEq, Dock.settle_frame] at same
    obtain ⟨-, -, none, known⟩ := same
    refine h.changed_free ((State.DocksKept.heardFirst s d b).updateDock_changed d _)
      ((Dock.Formed.of_settled released fun _ => heard).congr here) (none.trans released) (fun _ => known.trans heard) ?_
    rw [Bu.takeDocks_congr (State.updateDock_bu _ _ _).1, s.heardFirst_takes]
    exact h.notTaken free
  · have first : s.DocksKept (s.heardFirst d b) none := by
      have heard := State.DocksKept.updateDock_outside (s := s) inside fun k => { k with heard := true }
      unfold State.heardFirst
      dsimp only
      split
      · exact heard
      · exact ((heard.trans (.updateDock_outside inside _)).removeMissing b).arrival d b true
    exact h.kept (first.trans (.updateDock_outside inside _))

/-- A heartbeat of a post that answers a STATUS poll, or has been silent, is taken in the settled state of an OFFLINE dock (R58). -/
def State.recovered (s : State) (d : Nat) : State :=
  let s1 := s.clearPostSilent d
  if (s1.dock d).state = .offline then s1.updateDock d Dock.settle else s1

theorem State.recoverPost_eq (s : State) (d : Nat) (b : Bike) :
    s.recoverPost d b = ((s.recovered d).compareHeartbeat d b).updateDock d fun k => if k.transient.isSome then k else k.placeResting := rfl

theorem State.DocksLead.recovered {s : State} (h : s.DocksFormed) (d : Nat) : s.DocksLead (s.recovered d) := by
  have cleared : s.DocksLead (s.clearPostSilent d) := (State.DocksLead.refl h).kept ((State.DocksKept.refl s).setLog _)
  unfold State.recovered
  dsimp only
  split
  · rename_i offline
    exact cleared.trans (.settle cleared.formed d ((cleared.formed.formed d).free (by rw [offline]; nofun)))
  · exact cleared

theorem State.recovered_heard (s : State) (d : Nat) : ((s.recovered d).dock d).heard = (s.dock d).heard := by
  unfold State.recovered
  dsimp only
  split
  · rename_i offline
    have core := (s.clearPostSilent d).core_updateDock d d Dock.settle
    simp only [Dock.core] at core
    split at core
    · simp only [Prod.mk.injEq, Dock.settle_frame] at core
      exact core.2.2.2
    · simp only [Prod.mk.injEq] at core
      exact core.2.2.2
  · rfl

theorem Dock.core_rested (k : Dock) : (if k.transient.isSome then k else k.placeResting).core = k.core := by
  split <;> simp

theorem State.DocksFormed.recoverPost {s : State} (h : s.DocksFormed) {d : Nat} (heard : (s.dock d).heard = true) (b : Bike) :
    (s.recoverPost d b).DocksFormed := by
  rw [State.recoverPost_eq]
  exact ((State.DocksLead.recovered h d).formed.compareHeartbeat ((s.recovered_heard d).trans heard) b).kept
    ((State.DocksKept.refl _).updateDock_core d (Dock.core_rested _))

/-! ### Bikes that leave keep the owned hires apart (R48, R50, R72) -/

/-- A bike taken from its dock opens a hire that no dock and no other hire has the bike of. -/
theorem State.Apart.openHire {s t : State} {d : Nat} {x : DockedBike} {c : CardRecord} (h : s.Apart) (bike : (s.dock d).bike = some x)
    (docked : ∀ m y, (t.dock m).bike = some y → m ≠ d ∧ (s.dock m).bike = some y) (hu : t.hu = s.hu) :
    (t.openHire d x.bike c).Apart := by
  obtain ⟨once, apart⟩ := h
  have owned : (t.openHire d x.bike c).hu.owned.map (·.fields.bike) = s.hu.owned.map (·.fields.bike) ++ [x.bike] := by
    simp [State.openHire, hu]
  have read (m : Nat) : (t.openHire d x.bike c).dock m = t.dock m := State.dock_congr (State.openHire_frame _ _ _ _).2.1 m
  have free : x.bike ∉ s.hu.owned.map (·.fields.bike) := by
    intro m
    obtain ⟨o, ho, e⟩ := List.mem_map.mp m
    exact apart.away d x bike o ho e
  refine ⟨fun m n y z hy hz e => ?_, by rw [owned]; exact nodup_snoc apart.bikesOnce free, fun m y hy o ho e => ?_⟩
  · rw [read] at hy hz
    exact once m n y z (docked m y hy).2 (docked n z hz).2 e
  · rw [read] at hy
    obtain ⟨other, hy⟩ := docked m y hy
    have member := List.mem_map_of_mem (f := (·.fields.bike)) ho
    rw [owned, List.mem_append, List.mem_singleton] at member
    obtain old | new := member
    · obtain ⟨p, hp, same⟩ := List.mem_map.mp old
      exact apart.away m y hy p hp (same.trans e)
    · exact other (once m d y x hy bike (e.symm.trans new))

theorem State.completeRelease_docked {s : State} {d m : Nat} {y : DockedBike} (hy : ((s.completeRelease d).dock m).bike = some y) :
    m ≠ d ∧ (s.dock m).bike = some y := by
  by_cases same : m = d
  · subst same
    have core := s.completeRelease_dock (State.inTable_of_bike hy)
    simp only [Dock.core, Prod.mk.injEq] at core
    rw [core.2.1] at hy
    cases hy
  · rw [s.completeRelease_dock_ne same] at hy
    exact ⟨same, hy⟩

theorem State.Apart.completeRelease {s : State} (h : s.Apart) (d : Nat) : (s.completeRelease d).Apart := by
  have docked (m : Nat) (y : DockedBike) (hy : ((s.updateDock d Dock.taken).dock m).bike = some y) :
      m ≠ d ∧ (s.dock m).bike = some y :=
    State.completeRelease_docked (by rw [State.dock_congr (s.completeRelease_du d)]; exact hy)
  have emptied : s.BikesKept (s.updateDock d Dock.taken) := ⟨fun m y hy => (docked m y hy).2, by simp⟩
  unfold State.completeRelease
  dsimp only
  split
  · exact State.Apart.openHire h ‹_› docked (by simp)
  · rename_i x _ _
    have recorded := (State.DocksKept.refl (s.updateDock d Dock.taken)).takeRecorded d x.bike
    have same (m : Nat) : ((s.updateDock d Dock.taken).takeRecorded d x.bike).dock m = (s.updateDock d Dock.taken).dock m :=
      State.dock_congr (by simp) m
    have kept : (s.updateDock d Dock.taken).BikesKept ((s.updateDock d Dock.taken).takeRecorded d x.bike) :=
      ⟨fun m y => by rw [same]; exact id, recorded.owned⟩
    exact (emptied.trans kept).apart h
  · exact emptied.apart h

theorem State.Apart.bikeLeaves {s : State} (h : s.Apart) (formed : s.DocksFormed) (d : Nat) : (s.bikeLeaves d).Apart := by
  obtain ⟨-, e⟩ | ⟨x, still, -, e⟩ | ⟨-, -, e⟩ := formed.bikeLeaves_cases d <;> rw [e]
  · exact h.completeRelease d
  · exact (State.DocksLead.forcedRemoval formed d _ still).bikes.apart h
  · exact h

/-! ### Bikes that arrive keep the owned hires apart (R51, R52, R77) -/

theorem State.dockOf_none {s : State} {b : Bike} {d : Nat} (h : s.dockOf b d = none) {m : Nat} (other : m ≠ d) {y : DockedBike}
    (hy : (s.dock m).bike = some y) : y.bike ≠ b := by
  intro e
  have := List.find?_eq_none.mp h m ((mem_dockNumbers m).mpr (State.inTable_of_bike hy))
  simp [other, Dock.records, hy, e] at this

/-- Where no bike is at two docks, one that is found at a dock is recorded at no other after it has left. -/
theorem State.leaveOther_gone {s : State} (once : s.DockedOnce) {d : Nat} {b : Bike} {m : Nat} (other : m ≠ d) {y : DockedBike}
    (hy : ((s.leaveOther d b).dock m).bike = some y) : y.bike ≠ b ∧ (s.dock m).bike = some y := by
  unfold State.leaveOther at hy
  split at hy
  · exact ⟨State.dockOf_none ‹_› other hy, hy⟩
  · rename_i n found
    obtain ⟨x, bike, same⟩ := (Dock.records_iff _ _).mp (State.dockOf_some found).2
    have docked : m ≠ n ∧ (s.dock m).bike = some y := by
      split at hy
      · exact State.completeRelease_docked hy
      · by_cases here : m = n
        · subst here
          have core := s.core_updateDock_self (fun k => Dock.settle { k with bike := none, window := none }) (State.inTable_of_bike bike)
          simp only [Dock.core, Prod.mk.injEq, Dock.settle_frame] at core
          rw [core.2.1] at hy
          cases hy
        · rw [State.dock_updateDock_ne _ _ _ _ here] at hy
          exact ⟨here, hy⟩
    exact ⟨fun e => docked.1 (once m n y x docked.2 bike (e.trans same.symm)), docked.2⟩

theorem State.Apart.leaveOther {s : State} (h : s.Apart) (d : Nat) (b : Bike) : (s.leaveOther d b).Apart := by
  unfold State.leaveOther
  split
  · exact h
  · split
    · exact h.completeRelease _
    · exact (State.BikesKept.updateDock s _ (by simp)).apart h

/-- An arrival leaves no owned hire of the bike (R77). -/
theorem State.arrival_gone {s : State} (once : (s.hu.owned.map (·.fields.bike)).Nodup) (d : Nat) (b : Bike) (startUp : Bool) :
    b ∉ (s.arrival d b startUp).1.hu.owned.map (·.fields.bike) := by
  have kept := ((State.DocksKept.refl (c := none) s).arrival d b startUp).owned
  cases held : s.ownedOf b with
  | none =>
    intro m
    obtain ⟨o, ho, e⟩ := List.mem_map.mp (kept.subset m)
    exact absurd (decide_eq_true e) (List.find?_eq_none.mp held o ho)
  | some o =>
    have member := List.mem_of_find?_eq_some held
    have bike : o.fields.bike = b := by simpa using List.find?_some held
    have owned : (s.arrival d b startUp).1.hu.owned = s.hu.owned.filter fun x => !decide (x.fields.serial = o.fields.serial) := by
      unfold State.arrival
      rw [held]
      dsimp only
      split <;> simp [State.closeOwned, State.forgetHeard, State.setHeard]
    rw [owned]
    intro m
    obtain ⟨x, hx, e⟩ := List.mem_map.mp m
    obtain ⟨listed, other⟩ := List.mem_filter.mp hx
    have same : x = o := List.inj_on_of_nodup_map once listed member (e.trans bike.symm)
    rw [same] at other
    simp at other

/-- A bike that has arrived at a dock, no owned hire holding it any more, keeps the owned hires apart. -/
theorem State.HiresApart.arrived {s t : State} {b : Bike} (h : s.HiresApart)
    (docked : ∀ m y, (t.dock m).bike = some y → y.bike = b ∨ (s.dock m).bike = some y)
    (owned : (t.hu.owned.map (·.fields.bike)).Sublist (s.hu.owned.map (·.fields.bike)))
    (gone : b ∉ t.hu.owned.map (·.fields.bike)) : t.HiresApart where
  bikesOnce := owned.nodup h.bikesOnce
  away m y hy o ho e := by
    have member := List.mem_map_of_mem (f := (·.fields.bike)) ho
    obtain here | before := docked m y hy
    · exact gone (here ▸ e ▸ member)
    · obtain ⟨p, hp, same⟩ := List.mem_map.mp (owned.subset member)
      exact h.away m y before p hp (same.trans e)

/-- The hires of the bike end when it is handed on. -/
theorem State.arrived_owned {s t : State} (once : (s.hu.owned.map (·.fields.bike)).Nodup) (hu : t.hu = s.hu) (d : Nat) (b : Bike)
    (startUp : Bool) :
    (((t.removeMissing b).arrival d b startUp).1.hu.owned.map (·.fields.bike)).Sublist (s.hu.owned.map (·.fields.bike)) ∧
      b ∉ ((t.removeMissing b).arrival d b startUp).1.hu.owned.map (·.fields.bike) := by
  have same : (t.removeMissing b).hu = s.hu := by simp [hu]
  refine ⟨?_, State.arrival_gone (by rw [same]; exact once) d b startUp⟩
  have kept := ((State.DocksKept.refl (c := none) (t.removeMissing b)).arrival d b startUp).owned
  rwa [same] at kept

/-- A dock whose bike was changed, after its arrival was handed on: every other dock is as before. -/
theorem State.arrived_docked {s : State} {d : Nat} {f : Dock → Dock} {b : Bike} {startUp : Bool}
    (bike : ∀ y, (f (s.dock d)).bike = some y → y.bike = b) {m : Nat} {y : DockedBike}
    (hy : ((((s.updateDock d f).removeMissing b).arrival d b startUp).1.dock m).bike = some y) :
    m = d ∧ y.bike = b ∨ (m ≠ d ∨ ¬ (1 ≤ d ∧ d ≤ 24)) ∧ (s.dock m).bike = some y := by
  have kept := (((State.DocksKept.refl (c := none) (s.updateDock d f)).removeMissing b).arrival d b startUp).docks m nofun
  rw [State.core_updateDock] at kept
  split at kept
  · rename_i here
    simp only [Dock.core, Prod.mk.injEq] at kept
    exact .inl ⟨here.1, bike y (by rw [← kept.2.1, hy])⟩
  · rename_i other
    simp only [Dock.core, Prod.mk.injEq] at kept
    exact .inr ⟨by tauto, by rw [← kept.2.1, hy]⟩

theorem State.Apart.arrive {s : State} (h : s.Apart) (d : Nat) (b : Bike) : (s.arrive d b).Apart := by
  have left := h.leaveOther d b
  obtain ⟨owned, gone⟩ := State.arrived_owned (t := (s.leaveOther d b).updateDock d fun k =>
    Dock.enter { k with bike := some { bike := b, time := s.now } } .holding) left.2.bikesOnce (by simp) d b false
  have docked (m : Nat) (y : DockedBike) := State.arrived_docked (s := s.leaveOther d b) (m := m) (y := y) (b := b) (startUp := false)
    (d := d) (f := fun k => Dock.enter { k with bike := some { bike := b, time := s.now } } .holding) (by simp)
  unfold State.arrive
  dsimp only
  generalize (((s.leaveOther d b).updateDock d fun k => Dock.enter { k with bike := some { bike := b, time := s.now } }
    .holding).removeMissing b).arrival d b false = t at *
  refine State.BikesKept.apart (.updateDock t.1 d (by simp [Dock.show])) ⟨fun m n y z hy hz e => ?_, ?_⟩
  · obtain ⟨rfl, hb⟩ | ⟨far, before⟩ := docked m y hy
    · obtain ⟨rfl, -⟩ | ⟨away, hz⟩ := docked n z hz
      · rfl
      · by_contra apart
        exact (State.leaveOther_gone h.1 (Ne.symm apart) hz).1 (e.symm.trans hb)
    · obtain ⟨rfl, hb⟩ | ⟨away, hz⟩ := docked n z hz
      · by_contra apart
        exact (State.leaveOther_gone h.1 apart before).1 (e.trans hb)
      · exact left.1 m n y z before hz e
  · exact left.2.arrived (fun m y hy => (docked m y hy).imp (·.2) (·.2)) owned gone

theorem State.HiresApart.arriveUnavailable {s : State} (h : s.HiresApart) (d : Nat) (b : Bike) : (s.arriveUnavailable d b).HiresApart := by
  obtain ⟨owned, gone⟩ := State.arrived_owned (t := s.updateDock d fun k =>
    { k with bike := some { bike := b, time := s.now }, window := none }) h.bikesOnce (by simp) d b false
  exact h.arrived (fun m y hy => (State.arrived_docked (by simp) hy).imp (·.2) (·.2)) owned gone

theorem State.Apart.bikeArrives {s : State} (h : s.Apart) (formed : s.DocksFormed) (d : Nat) (b : Bike) :
    (s.bikeArrives d b).HiresApart := by
  have replaced := (h.bikeLeaves formed d).arrive d b
  unfold State.bikeArrives
  split
  · exact (h.arrive d b).2
  · split
    · exact h.2
    · exact replaced.2
  · split
    · exact h.2
    · exact replaced.2
  · split
    · exact h.2
    · exact h.2.arriveUnavailable d b
  · split
    · exact h.2
    · exact h.2.arriveUnavailable d b
  · exact h.2

theorem State.Apart.compareHeartbeat {s : State} (h : s.Apart) (formed : s.DocksFormed) (d : Nat) (b : Bike) :
    (s.compareHeartbeat d b).HiresApart := by
  unfold State.compareHeartbeat
  split
  · split
    · exact h.2
    · exact h.bikeArrives formed d b
  · split
    · exact (h.bikeLeaves formed d).2
    · split
      · exact h.2
      · exact (h.bikeLeaves formed d).bikeArrives (formed.bikeLeaves d) d b

theorem State.Apart.recoverPost {s : State} (h : s.Apart) (formed : s.DocksFormed) (d : Nat) (b : Bike) :
    (s.recoverPost d b).HiresApart := by
  have recovered := State.DocksLead.recovered formed d
  rw [State.recoverPost_eq]
  exact State.BikesKept.hiresApart ((State.DocksKept.refl _).updateDock_core d (Dock.core_rested _)).bikesKept
    ((recovered.bikes.apart h).compareHeartbeat recovered.formed d b)

theorem State.HiresApart.firstHeartbeat {s : State} (h : s.HiresApart) (d : Nat) (b : Bike) : (s.firstHeartbeat d b).HiresApart := by
  have heard : s.BikesKept (s.updateDock d fun k => { k with heard := true }) := .updateDock s d fun _ e => e
  rw [State.firstHeartbeat_eq]
  refine State.BikesKept.hiresApart (.updateDock _ d (by simp)) ?_
  unfold State.heardFirst
  dsimp only
  split
  · exact heard.hiresApart h
  · obtain ⟨owned, gone⟩ := State.arrived_owned (t := (s.updateDock d fun k => { k with heard := true }).updateDock d fun k =>
      { k with bike := some { bike := b, time := s.now } }) h.bikesOnce (by simp) d b true
    exact h.arrived (fun m y hy => (State.arrived_docked (by simp) hy).imp (·.2) fun e => heard.docked m y e.2) owned gone

end Sys2Proof.Machine
end

section
/-!
PROOFS. Every command keeps the dock table formed, and the owned hires apart from the docks where no bike is at two: the van's operations,
the supply, the kiosk link and REPLAY.
-/
namespace Sys2Proof.Machine
open Sys2Proof

/-! ### A post's answer taken (R41, R42) -/

/-- The dock whose post was heard at a moment and a station time. -/
def Dock.answered (k : Dock) (t : Millis) (now : Time) : Dock :=
  { k with lampSlot := none, lockSlot := none, silenceStart := t, silent := false, lastHeard := now }

@[simp] theorem State.postHeard_frame (s : State) (d : Nat) :
    (s.postHeard d).du.bikes = s.du.bikes ∧ (s.postHeard d).du.statusDrops = s.du.statusDrops ∧ (s.postHeard d).du.polled = none ∧
    (s.postHeard d).du.pollNext = s.du.pollNext ∧ (s.postHeard d).du.busOut = s.du.busOut := by
  simp [State.postHeard, State.putDock]

theorem State.postHeard_dock (s : State) {d : Nat} (inside : 1 ≤ d ∧ d ≤ 24) :
    (s.postHeard d).dock d = (s.dock d).answered s.timebase s.now := by
  unfold State.postHeard State.putDock State.dock
  exact Du.dock_setDock _ _ _ inside

theorem State.postHeard_heard (s : State) (d : Nat) : ((s.postHeard d).dock d).heard = (s.dock d).heard := by
  by_cases inside : 1 ≤ d ∧ d ≤ 24
  · rw [s.postHeard_dock inside]; rfl
  · rw [State.dock_outside _ _ inside, State.dock_outside _ _ inside]

theorem State.postHeard_dock_ne (s : State) {d e : Nat} (other : e ≠ d) : (s.postHeard d).dock e = s.dock e := by
  unfold State.postHeard State.putDock State.dock
  exact Du.dock_setDock_ne _ _ _ _ other

namespace State.DocksKept
variable {s t : State} {c : Option Nat}

/-! ### The van (R135 to R144) -/

theorem setVanSession (h : s.DocksKept t c) (v : Option VanSession) : s.DocksKept (t.setVanSession v) c := h.setBu (by exact rfl)
theorem setOwnClaims (h : s.DocksKept t c) (l : List VanClaim) : s.DocksKept (t.setOwnClaims l) c := h.setBu (by exact rfl)
theorem setLastTake (h : s.DocksKept t c) (o : LastTake) : s.DocksKept (t.setLastTake o) c := h.setBu (by exact rfl)
theorem useClaimSerial (h : s.DocksKept t c) : s.DocksKept t.useClaimSerial c := mark (h.setBu (by exact rfl)) _
theorem setTakes (h : s.DocksKept t c) (v : VanSession) (l : List VanTake) : s.DocksKept (t.setTakes v l) c := h.setVanSession _
theorem endVanSession (h : s.DocksKept t c) (n : Node) : s.DocksKept (t.endVanSession n) c :=
  ((h.setVanSession none).setOwnClaims _).raise _
theorem retrySession (h : s.DocksKept t c) (v : VanSession) (b : NoticeBody) : s.DocksKept (t.retrySession v b) c :=
  (h.setVanSession _).originate _ _
theorem endTake (h : s.DocksKept t c) (v : VanSession) (p : VanTake → Bool) (o : LastTake) : s.DocksKept (t.endTake v p o) c :=
  ((h.setTakes _ _).setLastTake o).raise _

theorem takeClaimAnswer (h : s.DocksKept t c) (n : Serial) (o : ClaimOutcome) (g : Nat) : s.DocksKept (t.takeClaimAnswer n o g) c := by
  unfold State.takeClaimAnswer
  split
  · exact (h.setOwnClaims _).raise _
  · exact h

theorem takeSessionAnswer (h : s.DocksKept t c) (n : Node) (o : SessionOutcome) (a : Nat) :
    s.DocksKept (t.takeSessionAnswer n o a) c := by
  unfold State.takeSessionAnswer
  split
  · exact h
  · split
    · split
      · exact raise (h.setBu (by exact rfl)) _
      · exact (h.setVanSession none).raise _
      · exact (h.setVanSession none).raise _
      · exact h.endVanSession n
      · exact h
    · exact h

theorem addLoad (h : s.DocksKept t c) (b : Bike) (n : Node) (q : Bool) : s.DocksKept (t.addLoad b n q) c := by
  unfold State.addLoad
  split
  · exact h
  · split
    · exact h.postNote _
    · exact h.setBu (by exact rfl)

theorem takeSessionSummary (h : s.DocksKept t c) (n : Node) (m : SummaryBody) : s.DocksKept (t.takeSessionSummary n m) c := by
  unfold State.takeSessionSummary
  split
  · exact endVanSession (setBu (foldl (fun u b => (State.DocksKept.refl u).addLoad b n (u.du.quarantined b)) _ h) (by exact rfl)) n
  · exact h

theorem takeVanTakeAnswer (h : s.DocksKept t c) (n : Node) (r : Serial) (o : TakeOutcome) :
    s.DocksKept (t.takeVanTakeAnswer n r o) c := by
  unfold State.takeVanTakeAnswer
  split
  · exact h
  · split
    · split
      · exact h.setTakes _ _
      · split
        · exact h.endVanSession n
        · exact h.endTake _ _ _
    · exact h

theorem takeDone (h : s.DocksKept t c) (n : Node) (r : Serial) (b : Option Bike) (q : Bool) : s.DocksKept (t.takeDone n r b q) c := by
  unfold State.takeDone
  split
  · exact h
  · rename_i v _
    have ended (p : VanTake → Bool) (o : LastTake) : s.DocksKept (if v.inFlight.any p then t.endTake v p o else t.raise .van) c := by
      split
      · exact h.endTake _ _ _
      · exact h.raise _
    split
    · dsimp only
      split
      · exact (ended _ _).addLoad _ _ _
      · exact ended _ _
    · exact h

/-! ### Transfers, records and resets -/

theorem setTimebase (h : s.DocksKept t c) (b : Millis) : s.DocksKept (t.setTimebase b) c := h.trans (.of_frame (by simp))
theorem shiftOut (h : s.DocksKept t c) (l : List Byte) : s.DocksKept (t.shiftOut l) c := h.setKl _
theorem storeSlot (h : s.DocksKept t c) (x : Slot) (b : SlotContent) : s.DocksKept (t.storeSlot x b) c := h.setJnl _
theorem setOptionWork (h : s.DocksKept t c) (w : OptionWork) : s.DocksKept (t.setOptionWork w) c := h.setJnl _
theorem setOptionArea (h : s.DocksKept t c) (l : List Byte) : s.DocksKept (t.setOptionArea l) c := h.setJnl _
theorem checkError (h : s.DocksKept t c) : s.DocksKept t.checkError c := (h.setSlc _).countError
theorem lengthError (h : s.DocksKept t c) : s.DocksKept t.lengthError c := (h.setSlc _).countError
theorem overrunError (h : s.DocksKept t c) : s.DocksKept t.overrunError c := (h.setSlc _).countError
theorem truncatedError (h : s.DocksKept t c) : s.DocksKept t.truncatedError c := (h.setSlc _).countError
theorem takeRequest (h : s.DocksKept t c) : s.DocksKept t.takeRequest c := h.setKl _
theorem statusTaken (h : s.DocksKept t c) : s.DocksKept t.statusTaken c := ((h.setSlc _).putCause _ _).putCause _ _
theorem cutOff (h : s.DocksKept t c) : s.DocksKept t.cutOff c := ((h.setJnl _).setSlc _).unpolled

theorem takeFrame (h : s.DocksKept t c) (x : Byte) (l : List Byte) (y : Byte) : s.DocksKept (t.takeFrame x l y) c := by
  unfold State.takeFrame
  split
  · exact h.takeRequest.reply _
  · exact h.takeRequest.setKl _

theorem sendEnds (h : s.DocksKept t c) (x : Byte) (l : List Byte) (y : Byte) : s.DocksKept (t.sendEnds x l y) c := by
  unfold State.sendEnds
  split
  · exact h.takeFrame _ _ _
  · exact h

theorem sendCut (h : s.DocksKept t c) : s.DocksKept t.sendCut c := by
  unfold State.sendCut
  split
  · exact h.takeRequest.reply _
  · exact h

theorem takeRecords (h : s.DocksKept t c) (n : Nat) : s.DocksKept (t.takeRecords n) c :=
  (foldl (fun u i => (State.DocksKept.refl u).mark (.money i)) _ (h.setSq _)).evaluateSettlement.answer _ _

theorem noAnswer (h : s.DocksKept t c) : s.DocksKept t.noAnswer c := h.unpolled

/-- A post's answer taken touches its slots and its silence alone, and ends the poll (R42). -/
theorem postHeard (h : s.DocksKept t c) (d : Nat) : s.DocksKept (t.postHeard d) c := by
  refine h.trans {
    docks := fun e _ => ?_, quarantined := fun b => ?_, polled := .inr (t.postHeard_frame d).2.2.1, takes := fun _ _ => .rfl
    takesOnce := id, start := id, session := fun _ => id, owned := List.Sublist.refl _ }
  · by_cases same : e = d
    · subst same
      by_cases inside : 1 ≤ e ∧ e ≤ 24
      · rw [t.postHeard_dock inside]; rfl
      · rw [State.dock_outside _ _ inside, State.dock_outside _ _ inside]
    · rw [t.postHeard_dock_ne same]
  · rw [Du.quarantined, (t.postHeard_frame d).1, Du.quarantined]
    exact id

end State.DocksKept

/-! ### One command -/

/-- The dock table of t is formed where that of s is, and then the owned hires stay apart where no bike of s is at two docks. -/
def State.DocksPass (s t : State) : Prop := s.DocksFormed → t.DocksFormed ∧ (s.Apart → t.HiresApart)

theorem State.DocksKept.pass {s t : State} (h : s.DocksKept t none) : s.DocksPass t :=
  fun formed => ⟨formed.kept h, fun apart => h.bikesKept.hiresApart apart.2⟩

theorem State.DocksLead.pass {s t : State} (h : s.DocksLead t) : t.DocksFormed ∧ (s.Apart → t.HiresApart) :=
  ⟨h.formed, fun apart => h.bikes.hiresApart apart.2⟩

/-- What kept the form may come before. -/
theorem State.DocksPass.after {s t u : State} (k : s.DocksKept t none) (h : t.DocksPass u) : s.DocksPass u := fun formed =>
  have pass := h (formed.kept k)
  ⟨pass.1, fun apart => pass.2 (k.bikesKept.apart apart)⟩

theorem State.DocksPass.then {s t u : State} (h : s.DocksPass t) (k : t.DocksKept u none) : s.DocksPass u := fun formed =>
  have pass := h formed
  ⟨pass.1.kept k, fun apart => k.bikesKept.hiresApart (pass.2 apart)⟩

/-- Where every dock is as at a start, without a session, the dock table is formed. -/
theorem State.DocksFormed.of_initial {s : State} (docks : ∀ d, ∃ t, s.dock d = Dock.initial t) (session : s.bu.session = none)
    (polled : s.du.polled = none) : s.DocksFormed := by
  refine .of_cores (fun d => ?_) (fun d r x hr => ?_) (fun d hp => ?_) (fun d => ?_) ?_ fun _ => ⟨session, polled⟩
  · obtain ⟨t, e⟩ := docks d
    rw [e]
    exact .of_withdrawn (.inr (.inl rfl)) rfl nofun
  · obtain ⟨t, e⟩ := docks d
    rw [e] at hr
    cases hr
  · rw [polled] at hp
    cases hp
  · obtain ⟨t, e⟩ := docks d
    rw [e, Bu.takeDocks, session]
    exact ⟨nofun, nofun⟩
  · rw [Bu.takeDocks, session]
    exact .nil

/-- Docks of a table of one initial entry. -/
theorem State.dock_replicate {s : State} {t : Millis} (h : s.du.docks = Vector.replicate 24 (Dock.initial t)) (d : Nat) :
    ∃ t, s.dock d = Dock.initial t := by
  by_cases inside : 1 ≤ d ∧ d ≤ 24
  · exact ⟨t, by simp [State.dock, Du.dock, inside, h]⟩
  · exact ⟨0, s.dock_outside d inside⟩

/-- A start clears the dock table, the session and the owned hires (R181). -/
theorem State.beginStart_pass (s t : State) (k : ResetCause) (x : Sense) : s.DocksPass (t.beginStart k x) := fun _ =>
  ⟨.of_initial (State.dock_replicate rfl) rfl rfl, fun _ => ⟨.nil, fun _ _ _ => nofun⟩⟩

/-- The command keeps the dock table formed and the owned hires apart. -/
def KeepsDocks (i : Instr) : Prop := ∀ s t, exec i s = .next t → s.DocksPass t

theorem KeepsDocks.of_pass {i : Instr} (f : State → State) (hf : ∀ s, exec i s = .next (f s)) (h : ∀ s : State, s.DocksPass (f s)) :
    KeepsDocks i := by
  intro s t e
  rw [hf] at e
  cases e
  exact h s

/-- A command that touches nothing of it. -/
theorem KeepsDocks.of_next {i : Instr} (f : State → State) (hf : ∀ s, exec i s = .next (f s))
    (h : ∀ s : State, s.DocksKept s none → s.DocksKept (f s) none) : KeepsDocks i :=
  .of_pass f hf fun s => (h s (.refl s)).pass

theorem KeepsDocks.of_lead {i : Instr} (f : State → State) (hf : ∀ s, exec i s = .next (f s))
    (h : ∀ s : State, s.DocksFormed → s.DocksLead (f s)) : KeepsDocks i :=
  .of_pass f hf fun s formed => (h s formed).pass

theorem State.DocksKept.serve {s : State} {r : Request} {effect : State → State} (he : s.admission r = none → s.DocksKept (effect s) none) :
    s.DocksKept (s.serve r effect) none := by
  unfold State.serve
  split
  · split
    · exact (State.DocksKept.refl s).reply _
    · exact he ‹_›
  · exact .refl s

theorem State.DocksLead.serve {s : State} (h : s.DocksFormed) {r : Request} {effect : State → State} (he : s.DocksLead (effect s)) :
    s.DocksLead (s.serve r effect) := by
  unfold State.serve
  split
  · split
    · exact (State.DocksLead.refl h).kept ((State.DocksKept.refl s).reply _)
    · exact he
  · exact .refl h

/-- An answer from the post polled, which an event takes after a poll of an EVENT alone (R41, R188). -/
theorem State.takeAnswer_pass {s : State} {d : Nat} {heartbeat : Bool} {event : State → State}
    (h : (heartbeat = false → 1 ≤ d ∧ d ≤ 24 → ((s.postHeard d).dock d).heard = true) → (s.postHeard d).DocksFormed →
      (event (s.postHeard d)).DocksFormed ∧ ((s.postHeard d).Apart → (event (s.postHeard d)).HiresApart)) :
    s.DocksPass (s.takeAnswer d heartbeat event) := by
  have again := State.DocksKept.refl (c := none) s
  unfold State.takeAnswer
  split
  · rename_i answers
    intro formed
    refine State.DocksPass.after (again.postHeard d) (h fun event inside => ?_) formed
    simp only [State.answersPoll, Bool.and_eq_true, Option.any_eq_true, event, Bool.false_or, decide_eq_true_eq] at answers
    obtain ⟨-, ⟨e, k⟩, polled, rfl, rfl⟩ := answers
    exact (s.postHeard_heard e).trans (formed.polled e polled inside.1 inside.2)
  · split
    · exact again.noAnswer.pass
    · exact again.pass

/-- The poll sent is an EVENT poll only where the post has been heard since start (R41). -/
theorem State.sendPoll_pass {s : State} (running : s.busRuns = true) : s.DocksPass s.sendPoll := by
  have started : s.Started := by
    simp only [State.busRuns, Bool.and_eq_true] at running
    exact .of_awake running.1
  intro formed
  refine ⟨?_, fun apart => State.BikesKept.hiresApart (s := s) (t := s.sendPoll) ⟨fun _ _ h => h, List.Sublist.refl _⟩ apart.2⟩
  refine .of_cores formed.formed (fun _ _ _ => formed.notQuarantined) (fun d polled _ _ => ?_) formed.takes_iff formed.takeDocks_nodup
    fun e => absurd e started
  have polled : ∃ e, some (e, (s.dock e).pollKind) = some (d, PollKind.event) := ⟨_, polled⟩
  obtain ⟨e, polled⟩ := polled
  rw [Option.some.injEq, Prod.mk.injEq] at polled
  obtain ⟨rfl, kind⟩ := polled
  unfold Dock.pollKind at kind
  split at kind
  · cases kind
  · show (s.dock e).heard = true
    by_contra unheard
    simp_all

/-! ### Notices heard (R28, R30) -/

namespace State.DocksLead
variable {s : State}

theorem deliver (h : s.DocksFormed) (n : Notice) : s.DocksLead (s.deliver n) := by
  have lead := State.DocksLead.refl h
  have again := State.DocksKept.refl (c := none) s
  have asVan {f : State → State} (hf : s.DocksKept (f s) none) : s.DocksLead (if s.isVan then f s else s) := by
    split
    · exact lead.kept hf
    · exact lead
  unfold State.deliver
  split
  · exact lead.kept (again.takeHireOpen _ _ _ _)
  · exact lead.kept (again.takeHireClose _ _ _ _ _)
  · exact lead.kept (again.takeHireSettled _ _ _ _ _)
  · exact lead.kept (again.takeCardHold _ _ _)
  · exact lead.kept (again.liftHolds _ _)
  · exact takeFault h _ _ _ _
  · exact lead.kept (again.takeFaultClear _ _)
  · exact lead.kept ((again.updateNeighbour _ _).takeBeaconTime _ _ _)
  · exact lead.kept (again.updateNeighbour _ _)
  · exact lead.kept (again.updateNeighbour _ _)
  · exact lead.kept (again.takeClaim _ _ _ _ _)
  · exact asVan (f := fun s => s.takeClaimAnswer _ _ _) (again.takeClaimAnswer _ _ _)
  · exact lead.kept (again.takeSessionOpen _)
  · exact asVan (f := fun s => s.takeSessionAnswer _ _ _) (again.takeSessionAnswer _ _ _)
  · exact takeTakeRequest h _ _ _
  · exact asVan (f := fun s => s.takeVanTakeAnswer _ _ _) (again.takeVanTakeAnswer _ _ _)
  · exact asVan (f := fun s => s.takeDone _ _ _ _) (again.takeDone _ _ _ _)
  · exact lead.kept (again.takeDeliveryNote _ _)
  · exact lead.kept (again.takeSessionClose _)
  · exact asVan (f := fun s => s.takeSessionSummary _ _) (again.takeSessionSummary _ _)

theorem hearFlooded (h : s.DocksFormed) (n : Notice) : s.DocksLead (s.hearFlooded n) := by
  have lead := State.DocksLead.refl h
  have seen (c : Slc) : s.DocksLead (s.setSlc c) := lead.kept ((State.DocksKept.refl s).setSlc c)
  unfold State.hearFlooded
  dsimp only
  split
  · exact lead.kept ((State.DocksKept.refl s).suppress _)
  · split
    · exact seen _
    · have delivered := (seen { s.slc with seen := enterSeen s.slc.seen n.ident }).trans (deliver (seen _).formed n)
      split
      · exact delivered.kept ((State.DocksKept.refl _).suppress _)
      · exact delivered.kept ((State.DocksKept.refl _).relay _)

theorem hear (h : s.DocksFormed) (n : Notice) : s.DocksLead (s.hear n) := by
  have heard := (State.DocksLead.refl h).kept ((State.DocksKept.refl s).hearSender n.sender)
  unfold State.hear
  dsimp only
  split
  · exact heard.trans (hearFlooded heard.formed n)
  · exact heard.trans (deliver heard.formed n)
  · split
    · exact heard.trans (deliver heard.formed n)
    · exact heard

end State.DocksLead

/-! ### REPLAY completed (R59, R89) -/

/-- REPLAY keeps one of several stored hires of a bike (R89). -/
theorem keptOf_replayDrops_nodup (node : Node) (money : List SettlementRecord) (l : List OwnedHire) :
    ((keptOf (sortOut (replayDrops node money) l)).map (·.fields.bike)).Nodup := by
  induction l with
  | nil => exact .nil
  | cons o l ih =>
    cases drops : replayDrops node money o l with
    | true => simpa [sortOut, keptOf, drops] using ih
    | false =>
      have kept : keptOf (sortOut (replayDrops node money) (o :: l)) = o :: keptOf (sortOut (replayDrops node money) l) := by
        simp [sortOut, keptOf, drops]
      rw [kept, List.map_cons, List.nodup_cons]
      refine ⟨fun m => ?_, ih⟩
      obtain ⟨x, hx, e⟩ := List.mem_map.mp m
      have later := (Bool.or_eq_false_iff.mp drops).2
      exact absurd (decide_eq_true e) (List.any_eq_false.mp later x ((keptOf_sortOut_sublist _ _).subset hx))

/-- The owned hires after REPLAY have a bike each: those of the store, or those there were. -/
theorem State.rebuiltOwned_nodup {s : State} (h : (s.hu.owned.map (·.fields.bike)).Nodup) :
    (s.rebuiltOwned.map (·.fields.bike)).Nodup := by
  have kept := keptOf_replayDrops_nodup s.node s.rebuiltQueue (ownedRead s.jnl.store)
  unfold State.rebuiltOwned
  split
  · exact h
  · split
    · rw [List.map_map]
      exact kept
    · exact kept

theorem State.listenBegun_dock (s : State) (d : Nat) : ∃ t, s.listenBegun.dock d = Dock.initial t :=
  State.dock_replicate (s := s.listenBegun) rfl d

/-- LISTEN begins with every dock OFFLINE and unheard, and with the hires that REPLAY rebuilt. -/
theorem State.enterListen_pass {s : State} (replaying : s.sup.start = .replay) : s.DocksPass s.replayStore.enterListen := by
  intro formed
  obtain ⟨session, polled⟩ := formed.unstarted (.inr replaying)
  obtain ⟨j, k, replayed, -⟩ := s.replayStore_eq
  have before : s.replayStore.bu.session = none ∧ s.replayStore.du.polled = none ∧ s.replayStore.hu.owned = s.rebuiltOwned := by
    rw [replayed]
    exact ⟨session, polled, rfl⟩
  obtain ⟨noSession, noPoll, owned⟩ := before
  have begun : s.DocksPass s.replayStore.listenBegun := fun _ => by
    refine ⟨.of_initial s.replayStore.listenBegun_dock noSession noPoll, fun apart => ⟨?_, fun d x hx => ?_⟩⟩
    · show (s.replayStore.hu.owned.map (·.fields.bike)).Nodup
      rw [owned]
      exact State.rebuiltOwned_nodup apart.2.bikesOnce
    · obtain ⟨t, e⟩ := s.replayStore.listenBegun_dock d
      rw [e] at hx
      cases hx
  rw [State.enterListen_eq]
  split
  · exact begun.then (State.DocksKept.refl _).supplyFault formed
  · exact begun formed

theorem KeepsDocks.of_serve {i : Instr} (r : Request) (effect : State → State) (hf : ∀ s, exec i s = .next (s.serve r effect))
    (h : ∀ s : State, s.DocksKept s none → s.admission r = none → s.DocksKept (effect s) none) : KeepsDocks i :=
  .of_next _ hf fun s _ => .serve (h s (.refl s))

theorem KeepsDocks.of_serve_lead {i : Instr} (r : Request) (effect : State → State) (hf : ∀ s, exec i s = .next (s.serve r effect))
    (h : ∀ s : State, s.DocksFormed → s.DocksLead (effect s)) : KeepsDocks i :=
  .of_lead _ hf fun s formed => .serve formed (h s formed)

namespace KeepsDocks

/-! ### The kiosk link (Chapter 9) -/

theorem sendTransfer first frame clocked : KeepsDocks (.sendTransfer first frame clocked) := .of_next _ (fun _ => rfl) fun s h => by
  split
  · exact h
  · split
    · exact (h.sendEnds _ _ _).shiftOut _
    · exact h.shiftOut _
    · exact h
    · exact h

theorem sendTransferCut shiftedIn : KeepsDocks (.sendTransferCut shiftedIn) := .of_next _ (fun _ => rfl) fun s h => by
  split
  · exact h
  · split
    · exact h.sendCut.shiftOut _
    · exact h.shiftOut _
    · exact h
    · exact h

theorem fetchTransfer shiftedIn sense : KeepsDocks (.fetchTransfer shiftedIn sense) := .of_pass _ (fun _ => rfl) fun s => by
  have again := State.DocksKept.refl (c := none) s
  have fetched (n : Nat) (l : List Byte) : s.DocksPass ((s.fetchEnds n sense).shiftOut l) := by
    unfold State.fetchEnds
    split
    · exact (State.beginStart_pass s s _ _).then ((State.DocksKept.refl _).shiftOut _)
    · exact ((again.setKl _).shiftOut _).pass
  split
  · exact again.pass
  · split
    · exact fetched _ _
    · exact (again.shiftOut _).pass
    · exact again.pass
    · exact again.pass

theorem restartAnswerTimeout sense : KeepsDocks (.restartAnswerTimeout sense) := .of_pass _ (fun _ => rfl) fun s => by
  split
  · exact State.beginStart_pass s _ _ _
  · exact (State.DocksKept.refl s).pass

theorem getStatus : KeepsDocks .getStatus := .of_serve _ _ (fun _ => rfl) fun _ h _ => h.statusTaken.answer _ _

theorem getCause : KeepsDocks .getCause := .of_serve _ _ (fun _ => rfl) fun _ h _ => (h.setKl _).answer _ _

theorem setAttentionMask enables : KeepsDocks (.setAttentionMask enables) := .of_serve _ _ (fun _ => rfl) fun _ h _ => by
  split
  · exact (h.setKl _).answer _ _
  · exact h.reply _

theorem restart : KeepsDocks .restart := .of_serve _ _ (fun _ => rfl) fun _ h _ => (h.reply .ok).setKl _

/-! ### The settlement queue and the journal (Chapter 8) -/

theorem takeRecords n : KeepsDocks (.takeRecords n) := .of_serve _ _ (fun _ => rfl) fun _ h _ => by
  split
  · exact h.takeRecords n
  · exact h.reply _

theorem setSettlement trigger timeout : KeepsDocks (.setSettlement trigger timeout) := .of_serve _ _ (fun _ => rfl) fun s h _ => by
  split
  · exact (h.setSq _).evaluateSettlement.answer _ _
  · exact h.reply _

theorem settlementIdleTimeout : KeepsDocks .settlementIdleTimeout := .of_next _ (fun _ => rfl) fun _ h => by
  split
  · split
    · exact (h.reached _).evaluateSettlement
    · exact h
  · exact h

theorem journalWriteStart : KeepsDocks .journalWriteStart := .of_next _ (fun _ => rfl) fun _ h => by
  split
  · exact h
  · split
    · exact (h.setSq _).setJnl _
    · exact h

theorem journalWriteEnd agrees : KeepsDocks (.journalWriteEnd agrees) := .of_next _ (fun _ => rfl) fun _ h => by
  split
  · exact h
  · split
    · exact h
    · split
      · exact (h.storeSlot _ _).writeCompleted _
      · split
        · exact (h.failedWrite _).degrade.writeCompleted _
        · exact h.setJnl _

theorem readOptions : KeepsDocks .readOptions := .of_serve _ _ (fun _ => rfl) fun _ h _ => by
  split
  · exact h.setJnl _
  · exact h

theorem writeOptions block : KeepsDocks (.writeOptions block) := .of_serve _ _ (fun _ => rfl) fun _ h _ => by
  split
  · exact h.setJnl _
  · exact h

theorem optionAreaRead : KeepsDocks .optionAreaRead := .of_next _ (fun _ => rfl) fun _ h => by
  split
  · exact (h.setOptionWork _).answer _ _
  · exact h

theorem optionWriteStart : KeepsDocks .optionWriteStart := .of_next _ (fun _ => rfl) fun _ h => by
  split
  · split
    · exact h.setOptionWork _
    · exact h
  all_goals exact h

theorem optionWriteEnd agrees : KeepsDocks (.optionWriteEnd agrees) := .of_next _ (fun _ => rfl) fun _ h => by
  split
  · split
    · exact h
    · split
      · exact ((h.setOptionArea _).setOptionWork _).answer _ _
      · split
        · exact (((h.setOptionArea _).drawn.degrade).setOptionWork _).answer _ _
        · exact h.setOptionWork _
  all_goals exact h

/-! ### The clock and the tariff (Chapters 1 and 5) -/

theorem setTime t : KeepsDocks (.setTime t) := .of_serve _ _ (fun _ => rfl) fun _ h _ => by
  split
  · exact (h.setTime _).reply _
  · exact h.reply _

theorem getTime : KeepsDocks .getTime := .of_serve _ _ (fun _ => rfl) fun _ h _ => (h.putCause _ _).answer _ _

theorem loadBand band terms : KeepsDocks (.loadBand band terms) := .of_serve _ _ (fun _ => rfl) fun s h _ => by
  split
  · split
    · exact ((h.setFu _).mark _).reply _
    · exact h.reply _
  · exact h.reply _

theorem loadClass cls fields : KeepsDocks (.loadClass cls fields) := .of_serve _ _ (fun _ => rfl) fun s h _ => by
  split
  · split
    · exact ((h.setFu _).mark _).reply _
    · exact h.reply _
  · exact h.reply _

theorem loadWindow index fields : KeepsDocks (.loadWindow index fields) := .of_serve _ _ (fun _ => rfl) fun _ h _ => by
  split
  · split
    · exact ((h.setClk _).mark _).evaluateWindows.reply _
    · exact h.reply _
  · exact h.reply _

theorem readTariff : KeepsDocks .readTariff := .of_serve _ _ (fun _ => rfl) fun _ h _ => h.answer _ _

theorem rawTick : KeepsDocks .rawTick := .of_next _ (fun _ => rfl) fun _ h => by
  split
  · exact h.setClk _
  · exact h

theorem gradeRise : KeepsDocks .gradeRise := .of_next _ (fun _ => rfl) fun _ h => by
  split
  · exact h.setDom _
  · exact h

theorem temperatureSample reading : KeepsDocks (.temperatureSample reading) := .of_next _ (fun _ => rfl) fun _ h => by
  split
  · exact h.setClk _
  · exact h

theorem minuteBoundary : KeepsDocks .minuteBoundary := .of_next _ (fun _ => rfl) fun _ h => by
  split
  · exact h
  · split
    · exact h
    · exact (h.setClk _).takeBoundary _

theorem backupDomainPowerLost : KeepsDocks .backupDomainPowerLost := .of_next _ (fun _ => rfl) fun _ h => by
  split
  · exact h.setDom _
  · exact h

/-! ### Holds, bikes and faults (Chapters 4 and 6) -/

theorem holdCard card reason : KeepsDocks (.holdCard card reason) := .of_serve _ _ (fun _ => rfl) fun _ h _ => by
  split
  · split
    · exact (h.placeHold _ _).answer _ _
    · exact h.reply _
  · exact h.reply _

theorem liftHold card reason : KeepsDocks (.liftHold card reason) := .of_serve _ _ (fun _ => rfl) fun _ h _ => by
  split
  · split
    · exact ((h.liftHolds _ _).flood _).answer _ _
    · exact h.reply _
  · exact h.reply _

theorem queryCard card validUntil : KeepsDocks (.queryCard card validUntil) := .of_serve _ _ (fun _ => rfl) fun _ h _ => by
  split
  · exact h.answer _ _
  · exact h.reply _

theorem queryBike bike : KeepsDocks (.queryBike bike) := .of_serve _ _ (fun _ => rfl) fun _ h _ => by
  split
  · exact h.answer _ _
  · exact h.reply _

theorem reportFault subject number kind severity : KeepsDocks (.reportFault subject number kind severity) :=
  .of_serve_lead _ _ (fun _ => rfl) fun s h => by
  have lead := State.DocksLead.refl h
  split
  · exact lead.kept ((State.DocksKept.refl _).reply _)
  · split
    · exact lead.kept ((State.DocksKept.refl _).reply _)
    · split
      · exact (State.DocksLead.reportFault h _).kept ((State.DocksKept.refl _).answer _ _)
      · exact (State.DocksLead.reportFault h _).kept ((State.DocksKept.refl _).reply _)

theorem clearFault subject number : KeepsDocks (.clearFault subject number) := .of_serve_lead _ _ (fun _ => rfl) fun s h => by
  have lead := State.DocksLead.refl h
  split
  · exact lead.kept ((State.DocksKept.refl _).reply _)
  · split
    · exact lead.kept ((State.DocksKept.refl _).reply _)
    · exact (State.DocksLead.clearFaultsOf h _).kept ((State.DocksKept.refl _).answer _ _)

theorem readFaults : KeepsDocks .readFaults := .of_serve _ _ (fun _ => rfl) fun _ h _ => h.answer _ _

/-! ### The dock unit (Chapter 3) -/

theorem dockDisable dock : KeepsDocks (.dockDisable dock) := .of_serve_lead _ _ (fun _ => rfl) fun _ h => by
  split
  · exact (State.DocksLead.disableDock h _).kept ((State.DocksKept.refl _).reply _)
  · exact (State.DocksLead.refl h).kept ((State.DocksKept.refl _).reply _)

theorem dockEnable dock : KeepsDocks (.dockEnable dock) := .of_serve_lead _ _ (fun _ => rfl) fun _ h => by
  split
  · exact (State.DocksLead.enableDock h _).kept ((State.DocksKept.refl _).reply _)
  · exact (State.DocksLead.refl h).kept ((State.DocksKept.refl _).reply _)

theorem readDocks : KeepsDocks .readDocks := .of_serve _ _ (fun _ => rfl) fun _ h _ => h.answer _ _

theorem poll : KeepsDocks .poll := .of_pass _ (fun _ => rfl) fun s => by
  split
  · exact State.sendPoll_pass ‹_›
  · exact (State.DocksKept.refl s).pass

theorem pollAnswerTimeout : KeepsDocks .pollAnswerTimeout := .of_next _ (fun _ => rfl) fun _ h => by
  split
  · exact h.noAnswer
  · exact h

theorem heartbeat dock bike : KeepsDocks (.heartbeat dock bike) := .of_pass _ (fun _ => rfl) fun s =>
  State.takeAnswer_pass fun _ formed => by
  split
  · rename_i unheard
    have unheard : ((s.postHeard dock).dock dock).heard = false := (s.postHeard_heard dock).trans unheard
    exact ⟨formed.firstHeartbeat unheard bike, fun apart => apart.2.firstHeartbeat dock bike⟩
  · rename_i heard
    have heard : ((s.postHeard dock).dock dock).heard = true := (s.postHeard_heard dock).trans (by simpa using heard)
    split
    · exact ⟨formed.recoverPost heard bike, fun apart => apart.recoverPost formed dock bike⟩
    · exact ⟨formed.compareHeartbeat heard bike, fun apart => apart.compareHeartbeat formed dock bike⟩

theorem card dock answer : KeepsDocks (.card dock answer) := .of_pass _ (fun _ => rfl) fun s => by
  split
  · exact State.takeAnswer_pass fun _ formed => (State.DocksLead.tapCard formed _ _).pass
  · split
    · exact (State.DocksKept.refl s).noAnswer.pass
    · exact (State.DocksKept.refl s).pass

theorem bikeOut dock : KeepsDocks (.bikeOut dock) := .of_pass _ (fun _ => rfl) fun _ =>
  State.takeAnswer_pass fun _ formed => ⟨formed.bikeLeaves dock, fun apart => (apart.bikeLeaves formed dock).2⟩

theorem bikeIn dock bike : KeepsDocks (.bikeIn dock bike) := .of_pass _ (fun _ => rfl) fun s => by
  split
  · refine State.takeAnswer_pass fun polled formed => ⟨?_, fun apart => apart.bikeArrives formed dock bike⟩
    by_cases inside : 1 ≤ dock ∧ dock ≤ 24
    · exact formed.bikeArrives (polled rfl inside) bike
    · have offline : ((s.postHeard dock).dock dock).state = .offline := by rw [State.dock_outside _ _ inside]; rfl
      rw [State.bikeArrives, offline]
      exact formed
  · split
    · exact (State.DocksKept.refl s).noAnswer.pass
    · exact (State.DocksKept.refl s).pass

theorem button dock : KeepsDocks (.button dock) := .of_pass _ (fun _ => rfl) fun _ =>
  State.takeAnswer_pass fun _ formed => (State.DocksLead.pressButton formed dock).pass

theorem lockFail dock : KeepsDocks (.lockFail dock) := .of_pass _ (fun _ => rfl) fun _ =>
  State.takeAnswer_pass fun _ formed =>
    have reported := State.DocksLead.report formed (.dock dock) .lock 2
    (reported.trans (.dockFaultRaised reported.formed dock)).pass

theorem releaseTimeout dock : KeepsDocks (.releaseTimeout dock) := .of_pass _ (fun _ => rfl) fun s => by
  have again := State.DocksKept.refl (c := none) s
  split
  · split
    · rename_i running
      exact State.DocksPass.after (again.reached _) fun formed => (State.DocksLead.releaseTimesOut formed dock running.2).pass
    · exact again.pass
  · exact again.pass

theorem returnWindowExpiry dock : KeepsDocks (.returnWindowExpiry dock) := .of_next _ (fun _ => rfl) fun _ h => by
  split
  · split
    · exact (h.reached _).updateDock_core dock rfl
    · exact h
  · exact h

theorem lampTransientEnd dock : KeepsDocks (.lampTransientEnd dock) := .of_next _ (fun _ => rfl) fun _ h => by
  split
  · split
    · exact (h.reached _).updateDock_core dock (Dock.core_placeResting _)
    · exact h
  · exact h

theorem postSilence dock : KeepsDocks (.postSilence dock) := .of_pass _ (fun _ => rfl) fun s => by
  have again := State.DocksKept.refl (c := none) s
  split
  · exact State.DocksPass.after (again.reached _) fun formed => (State.DocksLead.postFallsSilent formed dock).pass
  · exact again.pass

theorem pendingCloseRepeat bike endTime : KeepsDocks (.pendingCloseRepeat bike endTime) := .of_next _ (fun _ => rfl) fun _ h => by
  split
  · exact h.repeatClose _ _
  · exact h

/-! ### The balance unit (Chapter 7) -/

theorem claimExpiry van serial : KeepsDocks (.claimExpiry van serial) := .of_next _ (fun _ => rfl) fun _ h => by
  split
  · exact h.claimExpiry _
  · exact h

theorem sessionIdleTimeout : KeepsDocks .sessionIdleTimeout := .of_next _ (fun _ => rfl) fun _ h => by
  split
  · exact h.sessionIdle
  · exact h

theorem claim station action amount lifetime : KeepsDocks (.claim station action amount lifetime) :=
  .of_serve _ _ (fun _ => rfl) fun _ h _ => by
  split
  · exact h.reply _
  · split
    · exact h.reply _
    · exact ((h.setOwnClaims _).useClaimSerial.originate _ _).answer _ _

theorem openSession station : KeepsDocks (.openSession station) := .of_serve _ _ (fun _ => rfl) fun _ h _ => by
  split
  · exact h.reply _
  · split
    · exact h.reply _
    · exact ((h.setVanSession _).originate _ _).reply _

theorem take dock : KeepsDocks (.take dock) := .of_serve _ _ (fun _ => rfl) fun _ h _ => by
  split
  · exact h.reply _
  · split
    · exact h.reply _
    · split
      · exact h.reply _
      · split
        · exact h.reply _
        · exact ((h.setVanSession _).originate _ _).answer _ _

theorem announceDelivery bikes : KeepsDocks (.announceDelivery bikes) := .of_serve _ _ (fun _ => rfl) fun _ h _ => by
  split
  · exact h.reply _
  · split
    · exact h.reply _
    · split
      · exact (h.originate _ _).reply _
      · exact h.reply _

theorem closeSession : KeepsDocks .closeSession := .of_serve _ _ (fun _ => rfl) fun _ h _ => by
  split
  · exact h.reply _
  · split
    · exact ((h.setVanSession _).originate _ _).reply _
    · exact h.reply _

theorem unload bike : KeepsDocks (.unload bike) := .of_serve _ _ (fun _ => rfl) fun s h _ => by
  split
  · exact h.reply _
  · split
    · exact State.DocksKept.reply (h.setBu (by exact rfl)) _
    · exact h.reply _

theorem readLoad : KeepsDocks .readLoad := .of_serve _ _ (fun _ => rfl) fun _ h _ => h.answer _ _
theorem readClaims : KeepsDocks .readClaims := .of_serve _ _ (fun _ => rfl) fun _ h _ => h.answer _ _

theorem claimAnswerTimeout serial : KeepsDocks (.claimAnswerTimeout serial) := .of_next _ (fun _ => rfl) fun s h => by
  split
  · split
    · exact h
    · rename_i c _
      have later := h.reached (c.answerStart + 10000)
      dsimp only
      split
      · exact (later.setOwnClaims _).originate _ _
      · exact (later.setOwnClaims _).raise _
  · exact h

theorem vanClaimExpiry serial : KeepsDocks (.vanClaimExpiry serial) := .of_next _ (fun _ => rfl) fun s h => by
  split
  · split
    · exact h
    · rename_i c _
      have later := h.reached (c.lifeStart + c.lifetime * 60000)
      dsimp only
      split
      · exact later
      · exact later.setOwnClaims _
  · exact h

theorem sessionAnswerTimeout : KeepsDocks .sessionAnswerTimeout := .of_next _ (fun _ => rfl) fun s h => by
  split
  · split
    · exact h
    · rename_i v _
      have later := h.reached (v.answerStart + 10000)
      split
      · exact h
      · dsimp only
        split
        · exact later.retrySession _ _
        · exact (later.setVanSession none).raise _
      · dsimp only
        split
        · exact later.retrySession _ _
        · exact later.endVanSession _
  · exact h

theorem vanSessionIdleTimeout : KeepsDocks .vanSessionIdleTimeout := .of_next _ (fun _ => rfl) fun _ h => by
  split
  · split
    · exact h
    · split
      · exact (h.reached _).endVanSession _
      · exact h
  · exact h

theorem takeAnswerTimeout request : KeepsDocks (.takeAnswerTimeout request) := .of_next _ (fun _ => rfl) fun s h => by
  split
  · split
    · exact h
    · split
      · exact h
      · rename_i t _
        have later := h.reached (t.timerStart + 2000)
        dsimp only
        split
        · exact (later.setTakes _ _).originate _ _
        · exact later.endTake _ _ _
  · exact h

theorem takeCompletionTimeout request : KeepsDocks (.takeCompletionTimeout request) := .of_next _ (fun _ => rfl) fun _ h => by
  split
  · split
    · exact h
    · split
      · exact h
      · exact (h.reached _).endTake _ _ _
  · exact h

/-! ### The street link (Chapter 2) -/

theorem readNeighbours : KeepsDocks .readNeighbours := .of_serve _ _ (fun _ => rfl) fun _ h _ => h.answer _ _

theorem carrierRise : KeepsDocks .carrierRise := .of_next _ (fun _ => rfl) fun s h => by
  have risen : s.DocksKept (s.setSlc { s.slc with carrier := true }) none := h.setSlc _
  split
  · exact h
  · dsimp only
    split
    · exact (risen.setAssembly _).findBusy
    · exact risen

theorem carrierFall gotByte : KeepsDocks (.carrierFall gotByte) := .of_next _ (fun _ => rfl) fun s h => by
  have fallen : s.DocksKept (s.setSlc { s.slc with carrier := false, slotStart := s.timebase }) none := h.setSlc _
  split
  · dsimp only
    split
    · split
      · split
        · exact (fallen.setAssembly _).truncatedError
        · exact fallen.setAssembly _
      · exact (fallen.setAssembly _).truncatedError
      · exact fallen.setAssembly _
      · exact fallen.setAssembly _
    · exact fallen
  · exact h

theorem frameCompleted frame : KeepsDocks (.frameCompleted frame) := .of_next _ (fun _ => rfl) fun s h => by
  have ended := h.setAssembly .ended
  split
  · dsimp only
    split
    · exact ended.setSlc _
    · exact ended.overrunError
  · exact h

theorem frameProcessed : KeepsDocks .frameProcessed := .of_lead _ (fun _ => rfl) fun s h => by
  have lead := State.DocksLead.refl h
  split
  · exact lead
  · split
    · have taken (c : Slc) : s.DocksLead (s.setSlc c) := lead.kept ((State.DocksKept.refl s).setSlc c)
      dsimp only
      split
      · exact (taken _).kept (State.DocksKept.refl _).checkError
      · exact (taken _).kept (State.DocksKept.refl _).lengthError
      · exact (taken _).trans (.hear (taken _).formed _)
    · exact lead

theorem slotEnd : KeepsDocks .slotEnd := .of_next _ (fun _ => rfl) fun _ h => by
  split
  · split
    · split
      · exact ((h.reached _).setSlc _).slotEnds _ _
      · exact h
    · exact h
  · exact h

theorem transmissionEnd : KeepsDocks .transmissionEnd := .of_next _ (fun _ => rfl) fun _ h => by
  split
  · exact (h.setSlc _).reselect
  · exact h

theorem bodyLengthArrived length : KeepsDocks (.bodyLengthArrived length) := .of_next _ (fun _ => rfl) fun _ h => by
  split
  · split
    · exact (h.setAssembly _).lengthError
    · exact h.setAssembly _
  · exact h

theorem relayDelayExpiry origin serial : KeepsDocks (.relayDelayExpiry origin serial) := .of_next _ (fun _ => rfl) fun _ h => by
  split
  · exact h
  · split
    · dsimp only
      split
      · exact ((h.reached _).setRelays _).enqueue _ _ _
      · exact (h.reached _).setRelays _
    · exact h

theorem ownQuietExpiry : KeepsDocks .ownQuietExpiry := .of_next _ (fun _ => rfl) fun _ h => by
  split
  · exact h
  · split
    · dsimp only
      split
      · exact ((h.reached _).setSlc _).flood _
      · exact (h.reached _).setSlc _
    · exact h

theorem neighbourQuietExpiry node : KeepsDocks (.neighbourQuietExpiry node) := .of_next _ (fun _ => rfl) fun _ h => by
  split
  · exact h
  · split
    · exact (h.reached _).updateNeighbour _ _
    · exact h

theorem neighbourAgeExpiry node : KeepsDocks (.neighbourAgeExpiry node) := .of_next _ (fun _ => rfl) fun _ h => by
  split
  · exact h
  · split
    · exact (h.reached _).setNeighbours _
    · exact h

theorem beaconTimerExpiry : KeepsDocks .beaconTimerExpiry := .of_next _ (fun _ => rfl) fun _ h => by
  split
  · exact h
  · split
    · dsimp only
      refine State.DocksKept.setBeaconTimer ?_ _
      split
      · exact h.reached _
      · exact (h.reached _).flood _
    · exact h

/-! ### Supply and start-up (Chapter 10) -/

theorem brownOut : KeepsDocks .brownOut := .of_next _ (fun _ => rfl) fun _ h => h.cutOff.setSup fun e => e

theorem resetAssert : KeepsDocks .resetAssert := .of_next _ (fun _ => rfl) fun _ h => h.cutOff.setSup fun e => e

theorem powerHoldEnd hold : KeepsDocks (.powerHoldEnd hold) := .of_pass _ (fun _ => rfl) fun s => by
  have again := State.DocksKept.refl (c := none) s
  split
  · exact again.pass
  · dsimp only
    split
    · exact (((again.reached _).setDom _).setSup (by exact fun e => e)).pass
    · exact State.beginStart_pass s _ _ _

theorem resetRelease sense : KeepsDocks (.resetRelease sense) := .of_pass _ (fun _ => rfl) fun s => by
  have again := State.DocksKept.refl (c := none) s
  split
  · dsimp only
    split
    · exact (again.setSup (by exact fun e => e)).pass
    · exact State.beginStart_pass s _ _ _
  · exact again.pass

theorem listenTimerExpiry : KeepsDocks .listenTimerExpiry := .of_next _ (fun _ => rfl) fun _ h => by
  split
  · exact (((h.reached _).setSup fun e => by rcases e with e | e <;> cases e).setBeaconTimer 0).reselect.evaluateSettlement
  · exact h

theorem batteryReading input : KeepsDocks (.batteryReading input) := .of_next _ (fun _ => rfl) fun s h => by
  split
  · exact h
  · have start (p : Sup) (reading : Nat) : (p.filtered reading).start = p.start := by
      unfold Sup.filtered
      dsimp only
      (repeat' split) <;> rfl
    have filtered := (h.reached (s.sup.readingAt + 1000)).setSup
      (b := { (s.reached (s.sup.readingAt + 1000)).sup.filtered (clampReading input) with
        readingAt := (s.reached (s.sup.readingAt + 1000)).timebase }) (by dsimp only; rw [start]; exact fun e => e)
    dsimp only
    split
    · exact filtered
    · exact filtered.announceSupply

theorem replayComplete : KeepsDocks .replayComplete := .of_pass _ (fun _ => rfl) fun s => by
  split
  · rename_i replaying
    exact State.enterListen_pass replaying.2.1
  · exact (State.DocksKept.refl s).pass

end KeepsDocks

theorem exec_keepsDocks : ∀ i : Instr, KeepsDocks i
  | .sendTransfer .. => KeepsDocks.sendTransfer _ _ _
  | .sendTransferCut .. => KeepsDocks.sendTransferCut _
  | .fetchTransfer .. => KeepsDocks.fetchTransfer _ _
  | .restartAnswerTimeout .. => KeepsDocks.restartAnswerTimeout _
  | .getStatus => KeepsDocks.getStatus
  | .getCause => KeepsDocks.getCause
  | .setAttentionMask .. => KeepsDocks.setAttentionMask _
  | .takeRecords .. => KeepsDocks.takeRecords _
  | .setSettlement .. => KeepsDocks.setSettlement _ _
  | .setTime .. => KeepsDocks.setTime _
  | .getTime => KeepsDocks.getTime
  | .loadBand .. => KeepsDocks.loadBand _ _
  | .loadClass .. => KeepsDocks.loadClass _ _
  | .loadWindow .. => KeepsDocks.loadWindow _ _
  | .readTariff => KeepsDocks.readTariff
  | .holdCard .. => KeepsDocks.holdCard _ _
  | .liftHold .. => KeepsDocks.liftHold _ _
  | .queryCard .. => KeepsDocks.queryCard _ _
  | .queryBike .. => KeepsDocks.queryBike _
  | .reportFault .. => KeepsDocks.reportFault _ _ _ _
  | .clearFault .. => KeepsDocks.clearFault _ _
  | .readFaults => KeepsDocks.readFaults
  | .dockDisable .. => KeepsDocks.dockDisable _
  | .dockEnable .. => KeepsDocks.dockEnable _
  | .readDocks => KeepsDocks.readDocks
  | .readNeighbours => KeepsDocks.readNeighbours
  | .claim .. => KeepsDocks.claim _ _ _ _
  | .openSession .. => KeepsDocks.openSession _
  | .take .. => KeepsDocks.take _
  | .announceDelivery .. => KeepsDocks.announceDelivery _
  | .closeSession => KeepsDocks.closeSession
  | .unload .. => KeepsDocks.unload _
  | .readLoad => KeepsDocks.readLoad
  | .readClaims => KeepsDocks.readClaims
  | .readOptions => KeepsDocks.readOptions
  | .writeOptions .. => KeepsDocks.writeOptions _
  | .restart => KeepsDocks.restart
  | .optionAreaRead => KeepsDocks.optionAreaRead
  | .optionWriteStart => KeepsDocks.optionWriteStart
  | .optionWriteEnd .. => KeepsDocks.optionWriteEnd _
  | .brownOut => KeepsDocks.brownOut
  | .powerHoldEnd .. => KeepsDocks.powerHoldEnd _
  | .resetAssert => KeepsDocks.resetAssert
  | .resetRelease .. => KeepsDocks.resetRelease _
  | .replayComplete => KeepsDocks.replayComplete
  | .listenTimerExpiry => KeepsDocks.listenTimerExpiry
  | .batteryReading .. => KeepsDocks.batteryReading _
  | .rawTick => KeepsDocks.rawTick
  | .gradeRise => KeepsDocks.gradeRise
  | .temperatureSample .. => KeepsDocks.temperatureSample _
  | .minuteBoundary => KeepsDocks.minuteBoundary
  | .carrierRise => KeepsDocks.carrierRise
  | .carrierFall .. => KeepsDocks.carrierFall _
  | .frameCompleted .. => KeepsDocks.frameCompleted _
  | .frameProcessed => KeepsDocks.frameProcessed
  | .slotEnd => KeepsDocks.slotEnd
  | .transmissionEnd => KeepsDocks.transmissionEnd
  | .relayDelayExpiry .. => KeepsDocks.relayDelayExpiry _ _
  | .ownQuietExpiry => KeepsDocks.ownQuietExpiry
  | .neighbourQuietExpiry .. => KeepsDocks.neighbourQuietExpiry _
  | .neighbourAgeExpiry .. => KeepsDocks.neighbourAgeExpiry _
  | .beaconTimerExpiry => KeepsDocks.beaconTimerExpiry
  | .poll => KeepsDocks.poll
  | .pollAnswerTimeout => KeepsDocks.pollAnswerTimeout
  | .heartbeat .. => KeepsDocks.heartbeat _ _
  | .card .. => KeepsDocks.card _ _
  | .bikeOut .. => KeepsDocks.bikeOut _
  | .bikeIn .. => KeepsDocks.bikeIn _ _
  | .button .. => KeepsDocks.button _
  | .lockFail .. => KeepsDocks.lockFail _
  | .releaseTimeout .. => KeepsDocks.releaseTimeout _
  | .returnWindowExpiry .. => KeepsDocks.returnWindowExpiry _
  | .lampTransientEnd .. => KeepsDocks.lampTransientEnd _
  | .postSilence .. => KeepsDocks.postSilence _
  | .pendingCloseRepeat .. => KeepsDocks.pendingCloseRepeat _ _
  | .claimExpiry .. => KeepsDocks.claimExpiry _ _
  | .sessionIdleTimeout => KeepsDocks.sessionIdleTimeout
  | .claimAnswerTimeout .. => KeepsDocks.claimAnswerTimeout _
  | .vanClaimExpiry .. => KeepsDocks.vanClaimExpiry _
  | .sessionAnswerTimeout => KeepsDocks.sessionAnswerTimeout
  | .vanSessionIdleTimeout => KeepsDocks.vanSessionIdleTimeout
  | .takeAnswerTimeout .. => KeepsDocks.takeAnswerTimeout _
  | .takeCompletionTimeout .. => KeepsDocks.takeCompletionTimeout _
  | .settlementIdleTimeout => KeepsDocks.settlementIdleTimeout
  | .journalWriteStart => KeepsDocks.journalWriteStart
  | .journalWriteEnd .. => KeepsDocks.journalWriteEnd _
  | .bodyLengthArrived .. => KeepsDocks.bodyLengthArrived _
  | .backupDomainPowerLost => KeepsDocks.backupDomainPowerLost

/-- Settles O58, command by command: each leaves the docks' form as it was, or changes one dock into one that is formed, with its take and
its quarantine; and a bike that is recorded at one dock only leaves it before its hire opens, and ends its hires when it arrives. -/
theorem stepsKeepDocksAndHiresApart : Obligations.StepsKeepDocksAndHiresApart := by
  intro s t formed e
  have pass : s.DocksPass t := by
    obtain ⟨-, rfl⟩ | ⟨c, rest, -, taken⟩ := step_cases e
    · exact ((State.DocksKept.refl s).setTimebase _).pass
    · exact State.DocksPass.after ((State.DocksKept.refl s).setPending rest) (exec_keepsDocks c _ _ taken)
  obtain ⟨kept, apart⟩ := pass formed
  exact ⟨kept, fun once hires => apart ⟨once, hires⟩⟩

end Sys2Proof.Machine
end

section
/-!
PROOFS. The balance unit at a station: the session record, its end (R133), and the answers to the notices a van sends (R129 to R134).
-/
namespace Sys2Proof.Machine
open Sys2Proof

/-! ### The session record -/

theorem State.touchSession_held {s : State} {ss : Session} (h : s.bu.session = some ss) :
    s.touchSession ss.van = s.setSession { ss with idleStart := s.timebase } := by
  simp [State.touchSession, h]

theorem State.touchSession_other {s : State} {van : Node} (h : ∀ ss, s.bu.session = some ss → ss.van ≠ van) :
    s.touchSession van = s := by
  unfold State.touchSession
  split
  · next ss held => exact if_neg (h ss held)
  · rfl

/-- The end of a session: the summary sent and kept, the note posted where there is room, the van's claims consumed (R133). -/
theorem State.endSession_spec (s : State) (ss : Session) :
    s.endSession ss = { s with
      slc := (s.originate (.sessionSummary ss.summary) ss.van).slc, sq := (s.endSession ss).sq, jnl := (s.endSession ss).jnl,
      bu := (s.endSession ss).bu, kl := (s.endSession ss).kl } ∧
    (s.endSession ss).bu.session = none ∧ (s.endSession ss).bu.summary = some { van := ss.van, body := ss.summary } ∧
    (s.endSession ss).bu.ring = s.bu.ring ∧
    (s.endSession ss).bu.claims = s.bu.claims.filter (fun c => decide (c.id.node ≠ ss.van)) ∧
    (s.sq.queue.length < s.noteLimit → ∃ r, (s.endSession ss).sq.queue = s.sq.queue ++ [r] ∧
      r.fields.body = .session ss.van s.node ss.collected ss.delivered ss.expected) := by
  refine ⟨?_, by simp [State.endSession], by simp [State.endSession], by simp [State.endSession], by simp [State.endSession], fun room => ?_⟩
  · have sent : (s.endSession ss).slc = (s.originate (.sessionSummary ss.summary) ss.van).slc := by simp [State.endSession]
    apply State.eq_of_blocks <;> simp [sent]
  · have sent : (s.originate (.sessionSummary ss.summary) ss.van).sq.queue.length <
        (s.originate (.sessionSummary ss.summary) ss.van).noteLimit := by
      simpa [State.noteLimit] using room
    exact ⟨State.newRecord (s.originate (.sessionSummary ss.summary) ss.van)
      (.session ss.van s.node ss.collected ss.delivered ss.expected) none 0,
      by simp [State.endSession, (State.postNote_room _ sent).1], rfl⟩

/-- A session in CLOSING with no take in flight ends. -/
theorem State.endIfDone_done {s : State} {ss : Session} (h : s.bu.session = some ss) (closing : ss.closing = true)
    (idle : ss.inFlight = []) : s.endIfDone = s.endSession ss := by
  simp [State.endIfDone, h, closing, idle]

theorem State.endIfDone_not {s : State} (h : ∀ ss, s.bu.session = some ss → ss.closing = false ∨ ss.inFlight ≠ []) :
    s.endIfDone = s := by
  unfold State.endIfDone
  split
  · next ss held =>
    refine if_neg fun done => ?_
    simp only [Bool.and_eq_true, List.isEmpty_iff] at done
    obtain closing | busy := h ss held
    · exact Bool.false_ne_true (closing.symm.trans done.1)
    · exact busy done.2
  · rfl

/-! ### SESSION OPEN (R129) -/

theorem State.serves_iff (s : State) : s.serves = true ↔ s.isVan = false ∧ s.sup.start = .run := by
  simp [State.serves]

theorem State.takeSessionOpen_notServed {s : State} (h : s.isVan = true ∨ s.sup.start ≠ .run) (van : Node) :
    s.takeSessionOpen van = s.originate (.sessionAnswer .notAvailable 0) van := by
  refine if_neg fun serves => ?_
  obtain ⟨station, run⟩ := s.serves_iff.mp serves
  exact h.elim (fun e => Bool.false_ne_true (station.symm.trans e)) fun e => e run

theorem Bu.collectAllowance_eq (b : Bu) (van : Node) : b.collectAllowance van =
    ((b.claims.filter fun c => decide (c.action = .collect ∧ c.id.node = van)).map (·.granted)).sum := by
  simp [Bu.collectAllowance, grantedTotal]

section
variable {s : State} {ss : Session} {van : Node} (serves : s.serves = true)
include serves

theorem State.takeSessionOpen_first (none_held : s.bu.session = none) : s.takeSessionOpen van =
    State.originate { s with bu := { s.bu with
      session := some { van := van, closing := false, allowanceAtOpen := s.bu.collectAllowance van,
                        allowance := s.bu.collectAllowance van, collected := [], expected := [], delivered := [], inFlight := [],
                        recent := [], idleStart := s.timebase },
      summary := none } } (.sessionAnswer .opened (s.bu.collectAllowance van)) van := by
  rw [State.takeSessionOpen, if_pos serves, none_held]
  rfl

theorem State.takeSessionOpen_again (held : s.bu.session = some ss) (opened : ss.closing = false) : s.takeSessionOpen ss.van =
    (s.setSession { ss with recent := [], idleStart := s.timebase }).originate (.sessionAnswer .opened ss.allowance) ss.van := by
  rw [State.takeSessionOpen, if_pos serves, held]
  exact if_pos ⟨rfl, opened⟩

theorem State.takeSessionOpen_busy (held : s.bu.session = some ss) (h : ss.van ≠ van ∨ ss.closing = true) :
    s.takeSessionOpen van = (s.touchSession van).originate (.sessionAnswer .busy 0) van := by
  rw [State.takeSessionOpen, if_pos serves, held]
  exact if_neg fun e => h.elim (fun other => other e.1) fun closing => Bool.false_ne_true (e.2.symm.trans closing)

end

/-! ### TAKE REQUEST (R130) -/

/-- A request that no session for its van can take is answered and changes nothing. -/
theorem State.takeTakeRequest_unheld {s : State} {van : Node} (h : ∀ ss, s.bu.session = some ss → ss.van ≠ van) (request : Serial)
    (d : Nat) : s.takeTakeRequest van request d = s.originate (.takeAnswer request .refusedNoSession) van := by
  unfold State.takeTakeRequest
  split
  · rfl
  · next ss held => exact if_pos (h ss held)

section
variable {s : State} {ss : Session} (held : s.bu.session = some ss) (request : Serial) (d : Nat)
include held

/-- A request listed before is answered again. -/
theorem State.takeTakeRequest_repeat {before rest : List RecentTake} {r : RecentTake} (listed : ss.recent = before ++ r :: rest)
    (same : r.request = request) (first : ∀ x ∈ before, x.request ≠ request) :
    s.takeTakeRequest ss.van request d =
      (s.setSession { ss with idleStart := s.timebase }).originate (.takeAnswer request r.answer) ss.van := by
  have found : (ss.recent.find? fun x => decide (x.request = request)) = some r := by
    rw [listed]
    exact find?_middle _ _ _ _ (fun x hx => decide_eq_false (first x hx)) (decide_eq_true same)
  rw [State.takeTakeRequest, held, ← State.touchSession_held held]
  simp [found]

variable (new : ∀ r ∈ ss.recent, r.request ≠ request)
include new

/-- A new request of a session in CLOSING is refused and not listed. -/
theorem State.takeTakeRequest_closing (outcome : s.takeOutcome ss.van d = .refusedNoSession) :
    s.takeTakeRequest ss.van request d =
      (s.setSession { ss with idleStart := s.timebase }).originate (.takeAnswer request .refusedNoSession) ss.van := by
  have unlisted : (ss.recent.find? fun x => decide (x.request = request)) = none := by simpa using new
  rw [State.takeTakeRequest, held, ← State.touchSession_held held]
  simp [unlisted, outcome]

/-- A new request refused by a check is listed with its answer. -/
theorem State.takeTakeRequest_refused {o : TakeOutcome} (outcome : s.takeOutcome ss.van d = o) (refused : o ≠ .granted)
    (held_open : o ≠ .refusedNoSession) : s.takeTakeRequest ss.van request d =
      (s.setSession { ss with
        recent := pushBounded 8 ss.recent { request := request, dock := d, answer := o },
        idleStart := s.timebase }).originate (.takeAnswer request o) ss.van := by
  have unlisted : (ss.recent.find? fun x => decide (x.request = request)) = none := by simpa using new
  rw [State.takeTakeRequest, held]
  simp only [ne_eq, not_true_eq_false, if_false, unlisted, outcome]

/-- A request granted lists the take and releases the dock for the van. -/
theorem State.takeTakeRequest_granted (outcome : s.takeOutcome ss.van d = .granted) : s.takeTakeRequest ss.van request d =
    ((s.setSession { ss with
      inFlight := ss.inFlight ++ [{ dock := d, request := request,
                                    counted := !((s.dock d).bike.any fun b => s.du.quarantined b.bike) }],
      recent := pushBounded 8 ss.recent { request := request, dock := d, answer := .granted },
      idleStart := s.timebase }).release d .van none).originate (.takeAnswer request .granted) ss.van := by
  have unlisted : (ss.recent.find? fun x => decide (x.request = request)) = none := by simpa using new
  rw [State.takeTakeRequest, held]
  simp [unlisted, outcome]

end

/-- The checks of R130, in order, for a session of the van. -/
theorem State.takeOutcome_held {s : State} {ss : Session} (held : s.bu.session = some ss) (d : Nat) : s.takeOutcome ss.van d =
    if ss.closing = true then .refusedNoSession
    else if (1 ≤ d ∧ d ≤ s.sup.image.dockCount) ∧ (s.dock d).state = .releasing then .refusedBusy
    else if ¬ (1 ≤ d ∧ d ≤ s.sup.image.dockCount) ∨ (s.dock d).state ≠ .holding then .refusedEmpty
    else if 24 ≤ ss.collected.length + ss.inFlight.length then .refusedSessionFull
    else if ((s.dock d).bike.any fun b => s.du.quarantined b.bike) = false ∧
        ss.allowance ≤ (ss.inFlight.filter (·.counted)).length then .refusedAllowance
    else .granted := by
  simp [State.takeOutcome, State.dockConfigured, held, List.countP_eq_length_filter, Nat.sub_eq_zero_iff_le]

/-- The dock of a release, but for its lamp. -/
theorem State.base_release (s : State) {n : Nat} (inside : 1 ≤ n ∧ n ≤ 24) (holding : (s.dock n).state = .holding) (p : Purpose)
    (c : Option CardRecord) : ((s.release n p c).dock n).base = Dock.base { s.dock n with
      state := .releasing, release := some { purpose := p, card := c, start := s.timebase }, lockSlot := some .unlock,
      transient := none } := by
  rw [State.release, s.base_updateDock_self _ inside, Dock.enter_eq]
  simp [holding]

theorem State.release_other (s : State) {n m : Nat} (h : m ≠ n) (p : Purpose) (c : Option CardRecord) :
    (s.release n p c).dock m = s.dock m := s.dock_updateDock_ne n m _ h

/-- A take granted: the session as it was given, and the dock released for the van. -/
theorem State.takeGranted_spec (s : State) (ss : Session) {d : Nat} (inside : 1 ≤ d ∧ d ≤ 24) (holding : (s.dock d).state = .holding) :
    let u := (s.setSession ss).release d .van none
    u = { s with du := u.du, bu := u.bu } ∧ u.bu.session = some ss ∧ u.bu.claims = s.bu.claims ∧ u.bu.ring = s.bu.ring ∧
    u.du.bikes = s.du.bikes ∧ (u.dock d).state = .releasing ∧ (u.dock d).bike = (s.dock d).bike ∧
    (u.dock d).lockSlot = some .unlock ∧ (u.dock d).release = some { purpose := .van, card := none, start := s.timebase } ∧
    (u.dock d).transient = none ∧ ∀ m, m ≠ d → u.dock m = s.dock m := by
  intro u
  obtain ⟨state, bike, -, release, -, -, -, -, -, -, -, -, transient, lock⟩ :=
    Dock.fields_of_base (State.base_release (s.setSession ss) inside holding .van none)
  refine ⟨?_, by simp [u, State.setSession], by simp [u, State.setSession], by simp [u, State.setSession],
    by simp [u, State.release], state, bike, lock, release, transient, fun m h => State.release_other _ h _ _⟩
  apply State.eq_of_blocks <;> simp [u]

/-! ### DELIVERY NOTE and SESSION CLOSE (R132, R133) -/

theorem expectBikes_eq_foldl (expected delivered bikes : List Bike) : expectBikes expected delivered bikes =
    bikes.foldl (fun l b => if b ∈ l ∨ 24 ≤ l.length + delivered.length then l else l ++ [b]) expected := by
  induction bikes generalizing expected with
  | nil => rfl
  | cons b rest ih =>
    rw [expectBikes, List.foldl_cons]
    split <;> exact ih _

theorem State.takeDeliveryNote_held {s : State} {ss : Session} (held : s.bu.session = some ss) (opened : ss.closing = false)
    (bikes : List Bike) : s.takeDeliveryNote ss.van bikes =
      s.setSession { ss with expected := expectBikes ss.expected ss.delivered bikes, idleStart := s.timebase } := by
  simp [State.takeDeliveryNote, held, opened]

/-- A DELIVERY NOTE of no session OPEN for the van changes nothing. -/
theorem State.takeDeliveryNote_unheld {s : State} {van : Node}
    (h : ∀ ss, s.bu.session = some ss → ss.van = van → ss.closing = true) (bikes : List Bike) :
    s.takeDeliveryNote van bikes = s := by
  unfold State.takeDeliveryNote
  split
  · rfl
  · next ss held => exact if_neg fun e => Bool.false_ne_true (e.2.symm.trans (h ss held e.1))

theorem State.takeSessionClose_held {s : State} {ss : Session} (held : s.bu.session = some ss) : s.takeSessionClose ss.van =
    (s.setSession { ss with closing := true, idleStart := s.timebase }).endIfDone := by
  simp [State.takeSessionClose, held]

theorem State.takeSessionClose_unheld {s : State} {van : Node} (h : ∀ ss, s.bu.session = some ss → ss.van ≠ van) :
    s.takeSessionClose van = s.closeUnheld van := by
  unfold State.takeSessionClose
  split
  · next ss held => exact if_neg (h ss held)
  · rfl

theorem State.closeUnheld_kept {s : State} {k : KeptSummary} (kept : s.bu.summary = some k) :
    s.closeUnheld k.van = s.originate (.sessionSummary k.body) k.van := by
  simp [State.closeUnheld, kept]

theorem State.closeUnheld_none {s : State} {van : Node} (h : ∀ k, s.bu.summary = some k → k.van ≠ van) :
    s.closeUnheld van = s.originate (.sessionAnswer .noSession 0) van := by
  unfold State.closeUnheld
  split
  · next k kept => exact if_neg (h k kept)
  · rfl

/-- A SESSION CLOSE with no take in flight ends the session as it stood. -/
theorem State.closingEnded_spec (s : State) (ss : Session) :
    let t := (s.setSession { ss with closing := true, idleStart := s.timebase }).endSession
      { ss with closing := true, idleStart := s.timebase }
    t = { s with slc := t.slc, sq := t.sq, jnl := t.jnl, bu := t.bu, kl := t.kl } ∧
    t.slc = (s.originate (.sessionSummary ss.summary) ss.van).slc ∧
    t.bu.session = none ∧ t.bu.summary = some { van := ss.van, body := ss.summary } ∧ t.bu.ring = s.bu.ring ∧
    t.bu.claims = s.bu.claims.filter (fun c => decide (c.id.node ≠ ss.van)) ∧
    (s.sq.queue.length < s.noteLimit → ∃ r, t.sq.queue = s.sq.queue ++ [r] ∧
      r.fields.body = .session ss.van s.node ss.collected ss.delivered ss.expected) := by
  intro t
  obtain ⟨frame, session, summary, ring, claims, note⟩ :=
    (s.setSession { ss with closing := true, idleStart := s.timebase }).endSession_spec
      { ss with closing := true, idleStart := s.timebase }
  have sent : t.slc = (s.originate (.sessionSummary ss.summary) ss.van).slc :=
    (congrArg State.slc frame).trans (State.originate_slc_congr _ _ rfl rfl rfl)
  refine ⟨?_, sent, session, summary, ring, claims, note⟩
  apply State.eq_of_blocks <;> simp [t]

/-! ### The obligation -/

/-- Settles O50, notice by notice. -/
theorem stationsAnswerVans : Obligations.StationsAnswerVans := by
  intro s n
  refine ⟨fun body => ?_, fun request d body count => ?_, fun bikes body => ?_, fun body => ?_, fun station => ?_⟩
  · have delivered : s.deliver n = s.takeSessionOpen n.origin := by simp [State.deliver, body]
    refine ⟨fun h => delivered.trans (s.takeSessionOpen_notServed h _), fun station run => ?_⟩
    have serves : s.serves = true := s.serves_iff.mpr ⟨station, run⟩
    refine ⟨fun unheld => ?_, fun ss held => ⟨fun same opened => ?_, fun same closing => ?_, fun other => ?_⟩⟩
    · rw [delivered, s.takeSessionOpen_first serves unheld, Bu.collectAllowance_eq]
    · rw [delivered, ← same]
      exact s.takeSessionOpen_again serves held opened
    · rw [delivered, s.takeSessionOpen_busy serves held (.inr closing), ← same, s.touchSession_held held]
      rfl
    · rw [delivered, s.takeSessionOpen_busy serves held (.inl other), s.touchSession_other fun x hx => ?_]
      rw [← Option.some.inj (held.symm.trans hx)]
      exact other
  · have delivered : s.deliver n = s.takeTakeRequest n.origin request d := by simp [State.deliver, body]
    refine ⟨fun h => delivered.trans (s.takeTakeRequest_unheld h request d), fun ss held same => ?_⟩
    rw [delivered, ← same]
    refine ⟨fun before r rest listed hr first => s.takeTakeRequest_repeat held request d listed hr first, fun new => ?_⟩
    have outcome := s.takeOutcome_held held d
    refine ⟨fun closing => ?_, fun opened => ?_⟩
    · rw [if_pos closing] at outcome
      exact s.takeTakeRequest_closing held request d new outcome
    rw [if_neg (by simp [opened])] at outcome
    have refused {o : TakeOutcome} (h : s.takeOutcome ss.van d = o) (h1 : o ≠ .granted) (h2 : o ≠ .refusedNoSession) :=
      s.takeTakeRequest_refused held request d new h h1 h2
    refine ⟨fun here busy => ?_, fun empty => ?_, fun here holding => ?_⟩
    · exact refused (outcome.trans (if_pos ⟨here, busy⟩)) nofun nofun
    · refine refused (outcome.trans ?_) nofun nofun
      rw [if_neg (by tauto), if_pos (by tauto)]
    rw [if_neg (by simp [holding]), if_neg (by simp [here, holding])] at outcome
    refine ⟨fun full => ?_, fun room sound spent => ?_, fun room free => ?_⟩
    · exact refused (outcome.trans (if_pos full)) nofun nofun
    · refine refused (outcome.trans ?_) nofun nofun
      rw [if_neg room]
      exact if_pos ⟨sound, spent⟩
    · have granted : s.takeOutcome ss.van d = .granted := by
        rw [outcome, if_neg room]
        refine if_neg fun h => free.elim (fun q => Bool.false_ne_true (h.1.symm.trans q)) fun unspent => unspent h.2
      exact ⟨_, s.takeTakeRequest_granted held request d new granted, s.takeGranted_spec _ ⟨here.1, here.2.trans count⟩ holding⟩
  · have delivered : s.deliver n = s.takeDeliveryNote n.origin bikes := by simp [State.deliver, body]
    refine ⟨fun h => delivered.trans (s.takeDeliveryNote_unheld h bikes), fun ss held same opened => ?_⟩
    rw [delivered, ← same, s.takeDeliveryNote_held held opened, expectBikes_eq_foldl]
    rfl
  · have delivered : s.deliver n = s.takeSessionClose n.origin := by simp [State.deliver, body]
    refine ⟨fun ss held same => ?_, fun h => ?_⟩
    · rw [delivered, ← same, s.takeSessionClose_held held]
      refine ⟨fun busy => ?_, fun idle => ?_⟩
      · exact State.endIfDone_not (s := s.setSession { ss with closing := true, idleStart := s.timebase }) fun x hx =>
          .inr (Option.some.inj hx ▸ busy)
      · rw [State.endIfDone_done (s := s.setSession { ss with closing := true, idleStart := s.timebase }) rfl rfl idle]
        exact s.closingEnded_spec ss
    · rw [delivered, s.takeSessionClose_unheld h]
      refine ⟨fun k kept same => ?_, s.closeUnheld_none⟩
      rw [← same]
      exact s.closeUnheld_kept kept
  · refine ⟨fun _ _ _ h => ?_, fun _ _ h => ?_, fun _ _ h => ?_, fun _ _ _ _ h => ?_, fun _ h => ?_⟩ <;>
      simp [State.deliver, h, station]

end Sys2Proof.Machine
end

section
/-!
PROOFS. Releases given up (R49, R54 to R57, R131): what a lapse leaves of the session and the street link, and how a dock loses its
release.
-/
namespace Sys2Proof.Machine
open Sys2Proof

/-! ### States alike to the street -/

/-- The state u stands as s does to the street link, the service session and the hires, and holds no more member releases. -/
structure State.Alike (s u : State) : Prop where
  slc : u.slc = s.slc
  sup : u.sup = s.sup
  hu : u.hu = s.hu
  session : u.bu.session = s.bu.session
  summary : u.bu.summary = s.bu.summary
  claims : u.bu.claims = s.bu.claims
  ring : u.bu.ring = s.bu.ring
  releases : u.du.memberReleases ≤ s.du.memberReleases

namespace State.Alike
variable {s u v : State}

theorem refl (s : State) : s.Alike s := ⟨rfl, rfl, rfl, rfl, rfl, rfl, rfl, le_rfl⟩

theorem trans (h : s.Alike u) (k : u.Alike v) : s.Alike v :=
  ⟨k.slc.trans h.slc, k.sup.trans h.sup, k.hu.trans h.hu, k.session.trans h.session, k.summary.trans h.summary,
    k.claims.trans h.claims, k.ring.trans h.ring, k.releases.trans h.releases⟩

/-- A change of none of the blocks read. -/
theorem of_frame (h : u.slc = s.slc ∧ u.sup = s.sup ∧ u.hu = s.hu ∧ u.bu = s.bu ∧ u.du = s.du) : s.Alike u := by
  obtain ⟨slc, sup, hu, bu, du⟩ := h
  exact ⟨slc, sup, hu, by rw [bu], by rw [bu], by rw [bu], by rw [bu], by rw [du]⟩

theorem limit (h : s.Alike u) : s.noteLimit ≤ u.noteLimit := by
  have := h.releases
  rw [State.noteLimit, State.noteLimit, h.hu]
  omega

/-- A dock changed that is released for a member only where it was. -/
theorem updateDock (h : s.Alike u) (n : Nat) {f : Dock → Dock} (hf : (f (u.dock n)).forMember = true → (u.dock n).forMember = true) :
    s.Alike (u.updateDock n f) := by
  refine h.trans ⟨by simp, by simp, by simp, by simp, by simp, by simp, by simp, ?_⟩
  rw [State.updateDock, State.announced_du]
  exact Du.memberReleases_setDock_le _ _ _ fun e => hf ((Dock.forMember_refresh _ _).symm.trans e)

end State.Alike

/-! ### The lapse of a release to the van (R131) -/

/-- The session with the take for a dock gone. -/
theorem eraseP_dock_middle {before rest : List TakeInFlight} {f : TakeInFlight} {d : Nat} (here : f.dock = d)
    (first : ∀ y ∈ before, y.dock ≠ d) :
    (before ++ f :: rest).eraseP (fun t => decide (t.dock = d)) = before ++ rest :=
  eraseP_middle _ _ _ _ (fun y hy => decide_eq_false (first y hy)) (decide_eq_true here)

theorem State.releaseLapsed_unknown {s : State} {d : Nat} (h : ∀ ss, s.bu.session = some ss → ∀ f ∈ ss.inFlight, f.dock ≠ d) :
    s.releaseLapsed d = s := by
  unfold State.releaseLapsed
  split
  · rfl
  · next ss held =>
    rw [List.find?_eq_none.mpr fun f hf => by simpa using h ss held f hf]

theorem State.releaseLapsed_known {s : State} {ss : Session} {before rest : List TakeInFlight} {f : TakeInFlight} {d : Nat}
    (held : s.bu.session = some ss) (listed : ss.inFlight = before ++ f :: rest) (here : f.dock = d)
    (first : ∀ y ∈ before, y.dock ≠ d) : s.releaseLapsed d =
      ((s.setSession { ss with inFlight := before ++ rest, idleStart := s.timebase }).originate
        (.takeDone f.request d none (Config.lapsedTakeFlag f.request d)) ss.van).endIfDone := by
  have found : (ss.inFlight.find? fun t => decide (t.dock = d)) = some f := by
    rw [listed]
    exact find?_middle _ _ _ _ (fun y hy => decide_eq_false (first y hy)) (decide_eq_true here)
  rw [State.releaseLapsed, held]
  dsimp only
  rw [found, listed, eraseP_dock_middle here first]

/-- Either no take in flight is for the dock, or the session's takes split at the first that is. -/
theorem State.take_unknown_or_known (s : State) (d : Nat) :
    (∀ ss, s.bu.session = some ss → ∀ f ∈ ss.inFlight, f.dock ≠ d) ∨
    ∃ ss before f rest, s.bu.session = some ss ∧ ss.inFlight = before ++ f :: rest ∧ f.dock = d ∧ ∀ y ∈ before, y.dock ≠ d := by
  cases held : s.bu.session with
  | none => exact .inl nofun
  | some ss =>
    cases found : ss.inFlight.find? fun t => decide (t.dock = d) with
    | none =>
      refine .inl fun x hx f hf => ?_
      cases hx
      simpa using List.find?_eq_none.mp found f hf
    | some f =>
      obtain ⟨here, before, rest, listed, first⟩ := List.find?_eq_some_iff_append.mp found
      exact .inr ⟨ss, before, f, rest, rfl, listed, by simpa using here, fun y hy => by simpa using first y hy⟩

/-- A lapse that does not end the session leaves the settlement queue. -/
theorem State.endIfDone_sq {s : State} (h : s.endIfDone.bu.session.isSome = s.bu.session.isSome) :
    s.endIfDone.sq = s.sq ∧ s.endIfDone.kl = s.kl := by
  unfold State.endIfDone at h ⊢
  split
  · next ss held =>
    rw [held] at h
    split
    · rename_i done
      simp [done] at h
    · exact ⟨rfl, rfl⟩
  · exact ⟨rfl, rfl⟩

theorem State.releaseLapsed_sq {s : State} {d : Nat} (h : (s.releaseLapsed d).bu.session.isSome = s.bu.session.isSome) :
    (s.releaseLapsed d).sq = s.sq ∧ (s.releaseLapsed d).kl = s.kl := by
  obtain unknown | ⟨ss, before, f, rest, held, listed, here, first⟩ := s.take_unknown_or_known d
  · rw [State.releaseLapsed_unknown unknown]
    exact ⟨rfl, rfl⟩
  · rw [State.releaseLapsed_known held listed here first] at h ⊢
    rw [held] at h
    obtain ⟨sq, kl⟩ := State.endIfDone_sq (h.trans (by simp [State.setSession]))
    exact ⟨sq.trans (by simp), kl.trans (by simp)⟩

/-- The lapse of a release to the van, from a state alike to s but for one record more in the settlement queue. -/
theorem State.Alike.takeLapsed {s u : State} (h : s.Alike u) (queue : u.sq.queue.length ≤ s.sq.queue.length + 1) (d : Nat) :
    s.TakeLapsed (u.releaseLapsed d) d := by
  have limit := h.limit
  refine ⟨fun ss before f rest held listed here first => ?_, fun unknown => ?_, ?_⟩
  · rw [State.releaseLapsed_known (h.session.trans held) listed here first]
    have told : ((u.setSession { ss with inFlight := before ++ rest, idleStart := u.timebase }).originate
        (.takeDone f.request d none (Config.lapsedTakeFlag f.request d)) ss.van).slc =
        (State.originate { s with timebase := u.timebase } (.takeDone f.request d none (Config.lapsedTakeFlag f.request d)) ss.van).slc :=
      State.originate_slc_congr _ _ h.slc h.sup rfl
    generalize hv : (u.setSession { ss with inFlight := before ++ rest, idleStart := u.timebase }).originate
        (.takeDone f.request d none (Config.lapsedTakeFlag f.request d)) ss.van = v at told ⊢
    have session : v.bu.session = some { ss with inFlight := before ++ rest, idleStart := u.timebase } := by
      simp [← hv, State.setSession]
    have sup : v.sup = s.sup := by simp [← hv, h.sup]
    have time : v.endIfDone.timebase = u.timebase := by simp [← hv]
    have claims : v.bu.claims = s.bu.claims := by simp [← hv, State.setSession, h.claims]
    have summary : v.bu.summary = s.bu.summary := by simp [← hv, State.setSession, h.summary]
    refine ⟨Config.lapsedTakeFlag f.request d, fun more => ?_, fun last => ?_⟩
    · rw [time]
      have same : v.endIfDone = v := State.endIfDone_not fun x hx => by
        cases session.symm.trans hx
        by_contra done
        simp only [not_or, not_not, Bool.not_eq_false] at done
        exact more done
      rw [same]
      exact ⟨told, claims, summary, session⟩
    · rw [time, State.endIfDone_done session last.1 last.2]
      obtain ⟨frame, none, kept, -, left, note⟩ :=
        v.endSession_spec { ss with inFlight := before ++ rest, idleStart := u.timebase }
      refine ⟨?_, none, kept, left.trans (by rw [claims]), fun room => ?_⟩
      · exact (congrArg State.slc frame).trans (State.originate_slc_congr _ _ told (by simp [sup]) (by simp [← hv]))
      · obtain ⟨r, queued, body⟩ := note (by
          have := h.limit
          simp only [← hv, State.noteLimit, State.originate_frame, State.setSession_frame] at this room ⊢
          omega)
        refine ⟨r, by rw [queued]; simp, body.trans ?_⟩
        rw [State.node, sup]
        rfl
  · rw [State.releaseLapsed_unknown fun ss held => unknown ss (h.session ▸ held)]
    exact ⟨h.slc, h.session, h.summary, h.claims⟩
  · refine Eq.trans ?_ h.ring
    obtain unknown | ⟨ss, before, f, rest, held, listed, here, first⟩ := u.take_unknown_or_known d
    · rw [State.releaseLapsed_unknown unknown]
    · rw [State.releaseLapsed_known held listed here first]
      unfold State.endIfDone
      split
      · split
        · rw [(State.endSession_spec _ _).2.2.2.1]
          simp [State.setSession]
        · simp [State.setSession]
      · simp [State.setSession]

/-- What follows a lapse, and changes neither the session nor the street link nor a queued record. -/
theorem State.TakeLapsed.then {s t u : State} {d : Nat} (h : s.TakeLapsed t d) (k : t.Alike u) (time : u.timebase = t.timebase)
    (queue : t.sq.queue ⊆ u.sq.queue) : s.TakeLapsed u d := by
  refine ⟨fun ss before f rest held listed here first => ?_, fun unknown => ?_, k.ring.trans h.ring⟩
  · obtain ⟨flag, going, last⟩ := h.lapsed ss before f rest held listed here first
    rw [time]
    refine ⟨flag, fun more => ?_, fun done => ?_⟩
    · obtain ⟨slc, claims, summary, session⟩ := going more
      exact ⟨k.slc.trans slc, k.claims.trans claims, k.summary.trans summary, k.session.trans session⟩
    · obtain ⟨slc, session, summary, claims, note⟩ := last done
      refine ⟨k.slc.trans slc, k.session.trans session, k.summary.trans summary, k.claims.trans claims, fun room => ?_⟩
      obtain ⟨r, hr, body⟩ := note room
      exact ⟨r, queue hr, body⟩
  · obtain ⟨slc, session, summary, claims⟩ := h.unknown unknown
    exact ⟨k.slc.trans slc, k.session.trans session, k.summary.trans summary, k.claims.trans claims⟩

theorem State.ReleaseGivenUp.then {s t u : State} {d : Nat} (h : s.ReleaseGivenUp t d) (k : t.Alike u)
    (time : u.timebase = t.timebase) (queue : t.sq.queue ⊆ u.sq.queue) : s.ReleaseGivenUp u d := by
  refine ⟨fun r releasing held van => (h.van r releasing held van).then k time queue, fun member => ?_⟩
  obtain ⟨slc, session, summary, claims, ring⟩ := h.others member
  exact ⟨k.slc.trans slc, k.session.trans session, k.summary.trans summary, k.claims.trans claims, k.ring.trans ring⟩

/-- A release to the van given up lapses; any other leaves the session and the street link (R54). -/
theorem State.Alike.givenUp {s u : State} (h : s.Alike u) (queue : u.sq.queue.length ≤ s.sq.queue.length + 1) {d : Nat}
    (releasing : (s.dock d).state = .releasing) :
    s.ReleaseGivenUp (if (s.dock d).releasesFor .van then u.releaseLapsed d else u) d := by
  refine ⟨fun r _ held van => ?_, fun member => ?_⟩
  · rw [if_pos (by simp [Dock.releasesFor, held, van])]
    exact h.takeLapsed queue d
  · rw [if_neg fun van => ?_]
    · exact ⟨h.slc, h.session, h.summary, h.claims, h.ring⟩
    · cases held : (s.dock d).release with
      | none => simp [Dock.releasesFor, held] at van
      | some r => simp [Dock.releasesFor, held, member releasing r held] at van

/-- A dock not released gives nothing up. -/
theorem State.Alike.notReleased {s u : State} (h : s.Alike u) {d : Nat} (still : (s.dock d).state ≠ .releasing) :
    s.ReleaseGivenUp u d :=
  ⟨fun _ releasing => absurd releasing still, fun _ => ⟨h.slc, h.session, h.summary, h.claims, h.ring⟩⟩

/-! ### A release abandoned (R54) and a dock fault (R55) -/

theorem State.abandonRelease_released {s : State} {n : Nat} (h : (s.dock n).state = .releasing) (st : DockState) :
    s.abandonRelease n st = if (s.dock n).releasesFor .van then (s.updateDock n fun k => k.endRelease st).releaseLapsed n
      else s.updateDock n fun k => k.endRelease st := if_pos h

theorem State.abandonRelease_du {s : State} {n : Nat} (h : (s.dock n).state = .releasing) (st : DockState) :
    (s.abandonRelease n st).du = (s.updateDock n fun k => k.endRelease st).du := by
  rw [State.abandonRelease_released h]
  split
  · exact (State.releaseLapsed_frame _ _).2.1
  · rfl

/-- A release abandoned: what the session and the street link are left with. -/
theorem State.Alike.abandonRelease {s u : State} (h : s.Alike u) (queue : u.sq.queue.length ≤ s.sq.queue.length + 1) {d : Nat}
    (state : (u.dock d).state = (s.dock d).state) (release : (u.dock d).release = (s.dock d).release)
    (releasing : (s.dock d).state = .releasing) (st : DockState) : s.ReleaseGivenUp (u.abandonRelease d st) d := by
  have van : (u.dock d).releasesFor .van = (s.dock d).releasesFor .van := by rw [Dock.releasesFor, Dock.releasesFor, release]
  rw [State.abandonRelease_released (state.trans releasing), van]
  refine State.Alike.givenUp (h.updateDock d ?_) (by simpa using queue) releasing
  simp

/-- The dock with its fault mark set. -/
def Dock.marked (k : Dock) : Dock := { k with faultMark := true }

/-- The dock after a dock fault (R55). -/
def Dock.faulted (k : Dock) : Dock :=
  match k.state with
  | .releasing => k.marked.endRelease .faulted
  | .empty | .holding => k.marked.enter .faulted
  | .faulted | .offline | .disabled => k.marked

@[simp] theorem Dock.base_enter (k : Dock) (st : DockState) : (k.enter st).base = k.base.enter st := by
  unfold Dock.enter Dock.base
  dsimp only
  split <;> rfl

@[simp] theorem Dock.base_endRelease (k : Dock) (st : DockState) : (k.endRelease st).base = k.base.endRelease st := by
  rw [Dock.endRelease, Dock.base_enter]
  rfl

/-- The dock marked, before a working one moves to FAULTED. -/
theorem State.dock_marked (s : State) {d : Nat} (inside : 1 ≤ d ∧ d ≤ 24) :
    ((s.updateDock d fun k => { k with faultMark := true }).dock d).base = (s.dock d).marked.base :=
  s.base_updateDock_self _ inside

theorem State.dockFaultRaised_dock (s : State) {d : Nat} (inside : 1 ≤ d ∧ d ≤ 24) :
    ((s.dockFaultRaised d).dock d).base = (s.dock d).faulted.base := by
  have marked := s.dock_marked inside
  have entered : (((s.updateDock d fun k => { k with faultMark := true }).updateDock d fun k => k.enter .faulted).dock d).base =
      ((s.dock d).marked.enter .faulted).base := by
    rw [State.base_updateDock_self _ _ inside, Dock.base_enter, marked, Dock.base_enter]
  unfold State.dockFaultRaised Dock.faulted
  dsimp only
  cases state : (s.dock d).state with
  | releasing =>
    rw [State.dock_congr (State.abandonRelease_du ((Dock.fields_of_base marked).1.trans state) _),
      State.base_updateDock_self _ _ inside, Dock.base_endRelease, marked, Dock.base_endRelease]
  | empty => exact entered
  | holding => exact entered
  | faulted => exact marked
  | offline => exact marked
  | disabled => exact marked

theorem State.dockFaultRaised_other (s : State) {d n : Nat} (h : n ≠ d) : (s.dockFaultRaised d).dock n = s.dock n := by
  have marked := s.dock_updateDock_ne d n (fun k => { k with faultMark := true }) h
  unfold State.dockFaultRaised
  dsimp only
  split
  · unfold State.abandonRelease
    split
    · split
      · rw [State.dock_congr (State.releaseLapsed_frame _ _).2.1, State.dock_updateDock_ne _ _ _ _ h, marked]
      · rw [State.dock_updateDock_ne _ _ _ _ h, marked]
    · exact marked
  · exact (State.dock_updateDock_ne _ _ _ _ h).trans marked
  · exact (State.dock_updateDock_ne _ _ _ _ h).trans marked
  · exact marked
  · exact marked
  · exact marked

theorem State.abandonRelease_other (s : State) {d n : Nat} (h : n ≠ d) (st : DockState) :
    (s.abandonRelease d st).dock n = s.dock n := by
  by_cases released : (s.dock d).state = .releasing
  · rw [State.dock_congr (State.abandonRelease_du released _), s.dock_updateDock_ne _ _ _ h]
  · rw [State.abandonRelease, if_neg released]

theorem State.abandonRelease_bikes (s : State) (d : Nat) (st : DockState) : (s.abandonRelease d st).du.bikes = s.du.bikes := by
  by_cases released : (s.dock d).state = .releasing
  · rw [State.abandonRelease_du released]
    simp
  · rw [State.abandonRelease, if_neg released]

theorem State.dockFaultRaised_bikes (s : State) (d : Nat) : (s.dockFaultRaised d).du.bikes = s.du.bikes := by
  unfold State.dockFaultRaised
  dsimp only
  split
  · rw [State.abandonRelease_bikes]
    simp
  all_goals simp

/-- What a fault raised on a dock leaves of the session and the street link. -/
theorem State.Alike.dockFaultGivenUp {s u : State} (h : s.Alike u) (queue : u.sq.queue.length ≤ s.sq.queue.length + 1) {d : Nat}
    (inside : 1 ≤ d ∧ d ≤ 24) (state : (u.dock d).state = (s.dock d).state) (release : (u.dock d).release = (s.dock d).release) :
    s.ReleaseGivenUp (u.dockFaultRaised d) d := by
  have marked := Dock.fields_of_base (u.dock_marked inside)
  have alike : s.Alike (u.updateDock d fun k => { k with faultMark := true }) := h.updateDock d fun e => e
  have entered (still : (s.dock d).state ≠ .releasing) :
      s.ReleaseGivenUp ((u.updateDock d fun k => { k with faultMark := true }).updateDock d fun k => k.enter .faulted) d :=
    (alike.updateDock d (by simp)).notReleased still
  unfold State.dockFaultRaised
  dsimp only
  rw [state]
  cases held : (s.dock d).state with
  | releasing =>
    exact alike.abandonRelease (by simpa using queue) (marked.1.trans state) (marked.2.2.2.1.trans release) held _
  | empty => exact entered (by rw [held]; nofun)
  | holding => exact entered (by rw [held]; nofun)
  | faulted => exact alike.notReleased (by rw [held]; nofun)
  | offline => exact alike.notReleased (by rw [held]; nofun)
  | disabled => exact alike.notReleased (by rw [held]; nofun)

/-- A fault raised on a dock of a state alike to s, whose dock stands as in s. -/
theorem State.Alike.dockFaulted {s u : State} (h : s.Alike u) (queue : u.sq.queue.length ≤ s.sq.queue.length + 1) {d : Nat}
    (inside : 1 ≤ d ∧ d ≤ 24) (state : (u.dock d).state = (s.dock d).state) (release : (u.dock d).release = (s.dock d).release)
    (bikes : u.du.bikes = s.du.bikes) : s.DockFaulted (u.dockFaultRaised d) d := by
  have fields := Dock.fields_of_base (u.dockFaultRaised_dock inside)
  have lapsed := h.dockFaultGivenUp queue inside state release
  have list := (u.dockFaultRaised_bikes d).trans bikes
  unfold Dock.faulted Dock.marked at fields
  rw [state] at fields
  cases held : (s.dock d).state <;> rw [held] at fields <;>
    exact ⟨by simpa [Dock.endRelease] using fields.2.2.1, list, lapsed, by simp [held, fields.1, Dock.endRelease],
      by simp [held, fields.1], by simp [held, fields, Dock.endRelease]⟩

end Sys2Proof.Machine
end

section
/-!
PROOFS. Faults reported on a dock (R111 to R115), and a dock withdrawn, returned, locked out or gone silent (R54 to R57).
-/
namespace Sys2Proof.Machine
open Sys2Proof

/-! ### The entry of a report (R112, R113) -/

/-- What a report takes its effects in: the fault log and the journal's write list alone have changed. -/
structure State.Logged (s u : State) : Prop where
  rest : u = { s with flt := u.flt, jnl := u.jnl }

namespace State.Logged
variable {s u : State} (h : s.Logged u)
include h

theorem du : u.du = s.du := (congrArg State.du h.rest :)
theorem sq : u.sq = s.sq := (congrArg State.sq h.rest :)
theorem dock (n : Nat) : u.dock n = s.dock n := State.dock_congr h.du n

theorem alike : s.Alike u :=
  .of_frame ⟨(congrArg State.slc h.rest :), (congrArg State.sup h.rest :), (congrArg State.hu h.rest :), (congrArg State.bu h.rest :), h.du⟩

end State.Logged

/-- What notes a rise of severity, or nothing (R114, R115). -/
inductive State.Noted (s : State) : State → Prop
  | still : s.Noted s
  | risen (e : FaultEntry) : s.Noted (s.noteRise e)

theorem State.postNote_keeps (s : State) (body : RecordBody) : s.sq.queue ⊆ (s.postNote body).sq.queue := by
  by_cases room : s.sq.queue.length < s.noteLimit
  · rw [(State.postNote_room body room).1]
    exact List.subset_append_left _ _
  · rw [(State.postNote_full body (Nat.not_lt.mp room)).1]
    exact fun _ hr => hr

theorem State.postNote_length (s : State) (body : RecordBody) : (s.postNote body).sq.queue.length ≤ s.sq.queue.length + 1 := by
  by_cases room : s.sq.queue.length < s.noteLimit
  · simp [(State.postNote_room body room).1]
  · simp [(State.postNote_full body (Nat.not_lt.mp room)).1]

namespace State.Noted
variable {s t : State} (h : s.Noted t)
include h

theorem alike : s.Alike t := by
  cases h with
  | still => exact .refl s
  | risen e => exact .of_frame (by simp)

theorem du : t.du = s.du := by
  cases h with
  | still => rfl
  | risen e => simp

theorem timebase : t.timebase = s.timebase := by
  cases h with
  | still => rfl
  | risen e => simp

theorem queue : s.sq.queue ⊆ t.sq.queue := by
  cases h with
  | still => exact fun _ hr => hr
  | risen e => simpa [State.noteRise] using s.postNote_keeps (.fault e.id e.subject e.kind e.severity)

theorem length : t.sq.queue.length ≤ s.sq.queue.length + 1 := by
  cases h with
  | still => exact Nat.le_succ _
  | risen e => simpa [State.noteRise] using s.postNote_length (.fault e.id e.subject e.kind e.severity)

end State.Noted

section
variable {s : State} {r : FaultReport}

/-- A report that merges into a live entry of its subject and kind (R112). -/
theorem State.reportFault_merged {before rest : List FaultEntry} {e : FaultEntry} (listed : s.flt.log = before ++ e :: rest)
    (same : e.matches r.subject r.kind = true) (first : ∀ x ∈ before, x.matches r.subject r.kind = false) :
    (s.reportFault r).1 = (s.setLog (before ++ e.merged r.severity r.card s.now :: rest)).faultEffects
      (e.merged r.severity r.card s.now) e.severity := by
  rw [State.reportFault, listed, find?_middle _ _ _ _ first same]
  dsimp only
  rw [updateFirst_middle _ _ _ _ _ first same]

/-- A report that makes a new entry (R113). -/
theorem State.reportFault_fresh (new : ∀ e ∈ s.flt.log, e.matches r.subject r.kind = false) {log : List FaultEntry}
    (room : roomForFault s.flt.log = some log) :
    (s.reportFault r).1 =
      ((s.setLog (log ++ [newFault s.nextFaultId r.subject r.kind (r.severity.getD 1) r.card s.now])).useFaultSerial).faultEffects
        (newFault s.nextFaultId r.subject r.kind (r.severity.getD 1) r.card s.now) 0 := by
  rw [State.reportFault, List.find?_eq_none.mpr fun e he => by simp [new e he]]
  dsimp only
  rw [room]

/-- A report that is refused for a full log (R113). -/
theorem State.reportFault_refused (new : ∀ e ∈ s.flt.log, e.matches r.subject r.kind = false)
    (full : roomForFault s.flt.log = none) :
    (s.reportFault r).1 =
      (s.setFlt { s.flt with drops := saturate 65535 s.flt.drops }).refusedEffects r.subject r.kind (r.severity.getD 1) := by
  rw [State.reportFault, List.find?_eq_none.mpr fun e he => by simp [new e he]]
  dsimp only
  rw [full]

/-- Either no live entry has the subject and kind, or the log splits at the first that has. -/
theorem FaultEntry.new_or_listed (log : List FaultEntry) (sub : Subject) (kind : FaultKind) :
    (∀ e ∈ log, e.matches sub kind = false) ∨
    ∃ before e rest, log = before ++ e :: rest ∧ e.matches sub kind = true ∧ ∀ x ∈ before, x.matches sub kind = false := by
  cases found : log.find? fun e => e.matches sub kind with
  | none => exact .inl fun e he => by simpa using List.find?_eq_none.mp found e he
  | some e =>
    obtain ⟨same, before, rest, listed, first⟩ := List.find?_eq_some_iff_append.mp found
    exact .inr ⟨before, e, rest, listed, same, fun x hx => by simpa using first x hx⟩

end

theorem roomForFault_room {log : List FaultEntry} (h : log.length < 32) : roomForFault log = some log := if_pos h

theorem FaultEntry.matches_iff (e : FaultEntry) (sub : Subject) (kind : FaultKind) :
    e.matches sub kind = true ↔ e.state ≠ .cleared ∧ e.subject = sub ∧ e.kind = kind := by
  simp [FaultEntry.matches, FaultEntry.live, and_assoc]

/-- A report finds its entry in a log with room (R112, R113). -/
theorem State.report_entry {s : State} (sub : Subject) (kind : FaultKind) (v : Nat) (room : s.flt.log.length < 32) :
    ∃ e ∈ (s.report sub kind v).flt.log, e.subject = sub ∧ e.kind = kind ∧ e.state ≠ .cleared ∧ v ≤ e.severity := by
  unfold State.report
  obtain new | ⟨before, e, rest, listed, same, first⟩ := FaultEntry.new_or_listed s.flt.log sub kind
  · rw [State.reportFault_fresh new (roomForFault_room room)]
    exact ⟨newFault s.nextFaultId sub kind v none s.now, by simp [State.useFaultSerial, State.setLog], rfl, rfl, nofun, le_rfl⟩
  · rw [State.reportFault_merged listed same first]
    obtain ⟨live, subject, kind⟩ := (e.matches_iff sub kind).mp same
    exact ⟨e.merged (some v) none s.now, by simp [State.setLog], subject, kind, live, le_max_right _ _⟩

/-! ### Faults of a dock (R114) -/

/-- A report on a dock, but of a silent post, raises the dock's fault, and then a rise is noted. -/
theorem State.report_dock (s : State) (d : Nat) {kind : FaultKind} (other : kind ≠ .postSilent) :
    ∃ u, s.Logged u ∧ (u.dockFaultRaised d).Noted (s.report (.dock d) kind 2) := by
  have effects (u : State) (e : FaultEntry) (old : Nat) (sub : e.subject = .dock d) (k : e.kind = kind) (v : 2 ≤ e.severity) :
      (u.dockFaultRaised d).Noted (u.faultEffects e old) := by
    have faulted : (if e.kind = .postSilent then u else u.dockFaultRaised d) = u.dockFaultRaised d :=
      if_neg (by rw [k]; exact other)
    unfold State.faultEffects
    rw [sub]
    dsimp only
    rw [if_pos v, faulted]
    split
    · exact .risen e
    · exact .still
  unfold State.report
  obtain new | ⟨before, e, rest, listed, same, first⟩ := FaultEntry.new_or_listed s.flt.log (.dock d) kind
  · cases room : roomForFault s.flt.log with
    | none =>
      refine ⟨s.setFlt { s.flt with drops := saturate 65535 s.flt.drops }, ⟨rfl⟩, ?_⟩
      rw [State.reportFault_refused new room]
      have refused : State.refusedEffects (s.setFlt { s.flt with drops := saturate 65535 s.flt.drops }) (.dock d) kind 2 =
          State.dockFaultRaised (s.setFlt { s.flt with drops := saturate 65535 s.flt.drops }) d := if_pos ⟨le_rfl, other⟩
      exact refused ▸ .still
    | some log =>
      rw [State.reportFault_fresh new room]
      exact ⟨_, ⟨rfl⟩, effects _ _ _ rfl rfl le_rfl⟩
  · rw [State.reportFault_merged listed same first]
    obtain ⟨-, subject, kind⟩ := (e.matches_iff _ _).mp same
    exact ⟨_, ⟨rfl⟩, effects _ _ _ subject kind (le_max_right _ _)⟩

/-- A report of a silent post touches the log alone, and then a rise is noted (R57). -/
theorem State.report_postSilent (s : State) (d : Nat) :
    ∃ u, s.Logged u ∧ u.Noted (s.report (.dock d) .postSilent 2) := by
  have effects (u : State) (e : FaultEntry) (old : Nat) (sub : e.subject = .dock d) (k : e.kind = .postSilent) :
      u.Noted (u.faultEffects e old) := by
    unfold State.faultEffects
    rw [sub]
    dsimp only
    rw [if_pos k]
    split
    · split
      · exact .risen e
      · exact .still
    · exact .still
  unfold State.report
  obtain new | ⟨before, e, rest, listed, same, first⟩ := FaultEntry.new_or_listed s.flt.log (.dock d) .postSilent
  · cases room : roomForFault s.flt.log with
    | none =>
      rw [State.reportFault_refused new room]
      exact ⟨_, ⟨rfl⟩, .still⟩
    | some log =>
      rw [State.reportFault_fresh new room]
      exact ⟨_, ⟨rfl⟩, effects _ _ _ rfl rfl⟩
  · rw [State.reportFault_merged listed same first]
    obtain ⟨-, subject, kind⟩ := (e.matches_iff _ _).mp same
    exact ⟨_, ⟨rfl⟩, effects _ _ _ subject kind⟩

/-! ### What a lapse leaves of the kiosk link (R151, R152) -/

theorem State.endSession_kl (s : State) (ss : Session) :
    (s.endSession ss).kl = { s.kl with raised := (s.endSession ss).kl.raised } := by
  have ended : (s.endSession ss).kl = ((s.originate (.sessionSummary ss.summary) ss.van).postNote
      (.session ss.van s.node ss.collected ss.delivered ss.expected)).kl := by
    simp [State.endSession]
  rw [ended, State.postNote_kl]
  simp

theorem State.releaseLapsed_kl (s : State) (d : Nat) :
    (s.releaseLapsed d).kl = { s.kl with raised := (s.releaseLapsed d).kl.raised } := by
  obtain unknown | ⟨ss, before, f, rest, held, listed, here, first⟩ := s.take_unknown_or_known d
  · rw [State.releaseLapsed_unknown unknown]
  · rw [State.releaseLapsed_known held listed here first]
    unfold State.endIfDone
    split
    · split
      · rw [State.endSession_kl]
        simp
      · simp
    · simp

/-! ### DOCK DISABLE and DOCK ENABLE (R56) -/

/-- The dock with the mark of the host's disabling. -/
def Dock.withdrawn (k : Dock) : Dock := { k with hostDisabled := true }

theorem State.disableDock_released {s : State} {d : Nat} (h : (s.dock d).state = .releasing) :
    s.disableDock d = (s.updateDock d Dock.withdrawn).abandonRelease d .disabled := if_pos h

theorem State.disableDock_still {s : State} {d : Nat} (h : (s.dock d).state ≠ .releasing) :
    s.disableDock d = (s.updateDock d Dock.withdrawn).updateDock d fun k => k.enter .disabled := if_neg h

theorem State.dock_withdrawn (s : State) {d : Nat} (inside : 1 ≤ d ∧ d ≤ 24) :
    ((s.updateDock d Dock.withdrawn).dock d).base = (s.dock d).withdrawn.base := s.base_updateDock_self _ inside

/-- The dock withdrawn by the host, a release in force abandoned. -/
def Dock.disabled (k : Dock) : Dock :=
  if k.state = .releasing then k.withdrawn.endRelease .disabled else k.withdrawn.enter .disabled

theorem Dock.disabled_frame (k : Dock) : k.disabled.state = .disabled ∧ k.disabled.hostDisabled = true ∧
    k.disabled.faultMark = k.faultMark ∧ k.disabled.bike = k.bike ∧
    (k.state = .releasing → k.disabled.release = none ∧ k.disabled.lockSlot = some .lock) := by
  unfold Dock.disabled Dock.withdrawn Dock.endRelease
  split <;> simp [*]

theorem State.disableDock_dock (s : State) {d : Nat} (inside : 1 ≤ d ∧ d ≤ 24) :
    ((s.disableDock d).dock d).base = (s.dock d).disabled.base := by
  have marked := s.dock_withdrawn inside
  unfold Dock.disabled
  split
  · next releasing =>
    rw [State.disableDock_released releasing,
      State.dock_congr (State.abandonRelease_du ((Dock.fields_of_base marked).1.trans releasing) _),
      State.base_updateDock_self _ _ inside, Dock.base_endRelease, marked, Dock.base_endRelease]
  · next still =>
    rw [State.disableDock_still still, State.base_updateDock_self _ _ inside, Dock.base_enter, marked, Dock.base_enter]

theorem State.disableDock_other (s : State) {d n : Nat} (h : n ≠ d) : (s.disableDock d).dock n = s.dock n := by
  have marked := s.dock_updateDock_ne d n Dock.withdrawn h
  by_cases releasing : (s.dock d).state = .releasing
  · rw [State.disableDock_released releasing, State.abandonRelease_other _ h, marked]
  · rw [State.disableDock_still releasing, State.dock_updateDock_ne _ _ _ _ h, marked]

theorem State.disableDock_bikes (s : State) (d : Nat) : (s.disableDock d).du.bikes = s.du.bikes := by
  by_cases releasing : (s.dock d).state = .releasing
  · rw [State.disableDock_released releasing, State.abandonRelease_bikes]
    simp
  · rw [State.disableDock_still releasing]
    simp

theorem State.disableDock_givenUp (s : State) {d : Nat} (inside : 1 ≤ d ∧ d ≤ 24) : s.ReleaseGivenUp (s.disableDock d) d := by
  have marked := Dock.fields_of_base (s.dock_withdrawn inside)
  have alike : s.Alike (s.updateDock d Dock.withdrawn) := (State.Alike.refl s).updateDock d fun e => e
  by_cases releasing : (s.dock d).state = .releasing
  · rw [State.disableDock_released releasing]
    exact alike.abandonRelease (by simp) marked.1 marked.2.2.2.1 releasing _
  · rw [State.disableDock_still releasing]
    exact (alike.updateDock d (by simp)).notReleased releasing

/-- A withdrawal that lets no release to the van lapse touches the dock unit and the need score alone. -/
theorem State.disableDock_rest {s : State} {d : Nat} (inside : 1 ≤ d ∧ d ≤ 24)
    (h : (s.dock d).state ≠ .releasing ∨ ∀ r, (s.dock d).release = some r → r.purpose = .member) :
    s.disableDock d = { s with du := (s.disableDock d).du, bu := (s.disableDock d).bu } := by
  by_cases releasing : (s.dock d).state = .releasing
  · have marked := Dock.fields_of_base (s.dock_withdrawn inside)
    have member : ¬ ((s.updateDock d Dock.withdrawn).dock d).releasesFor .van = true := by
      rw [Dock.releasesFor, marked.2.2.2.1]
      show ¬ Option.any _ (s.dock d).release = true
      cases held : (s.dock d).release with
      | none => simp
      | some r => simp [(h.resolve_left fun e => e releasing) r held]
    rw [State.disableDock_released releasing, State.abandonRelease_released (marked.1.trans releasing), if_neg member]
    apply State.eq_of_blocks <;> simp
  · rw [State.disableDock_still releasing]
    apply State.eq_of_blocks <;> simp

/-- A withdrawal leaves the settlement queue and the kiosk link, unless the session ends. -/
theorem State.disableDock_kiosk (s : State) (d : Nat) :
    (s.disableDock d).kl = { s.kl with raised := (s.disableDock d).kl.raised } ∧
    ((s.disableDock d).bu.session.isSome = s.bu.session.isSome → (s.disableDock d).sq = s.sq ∧ (s.disableDock d).kl = s.kl) := by
  by_cases releasing : (s.dock d).state = .releasing
  · rw [State.disableDock_released releasing]
    unfold State.abandonRelease
    split
    · split
      · refine ⟨?_, fun h => ?_⟩
        · rw [State.releaseLapsed_kl]
          simp
        · obtain ⟨sq, kl⟩ := State.releaseLapsed_sq (h.trans (by simp))
          exact ⟨sq.trans (by simp), kl.trans (by simp)⟩
      · simp
    · simp
  · rw [State.disableDock_still releasing]
    simp

end Sys2Proof.Machine
end

section
/-!
PROOFS. Docks withdrawn and returned (R54 to R57).
-/
namespace Sys2Proof.Machine
open Sys2Proof

/-! ### Answers taken (R41, R188) -/

theorem State.takeAnswer_event {s : State} {d : Nat} (runs : s.busRuns = true) (configured : 1 ≤ d ∧ d ≤ s.sup.image.dockCount)
    (polled : s.du.polled = some (d, .event)) (heartbeat : Bool) (event : State → State) :
    s.takeAnswer d heartbeat event = event (s.postHeard d) :=
  if_pos (by simp [State.answersPoll, State.dockConfigured, runs, configured, polled])

@[simp] theorem State.postHeard_blocks (s : State) (d : Nat) :
    (s.postHeard d).clk = s.clk ∧ (s.postHeard d).slc = s.slc ∧ (s.postHeard d).hu = s.hu ∧ (s.postHeard d).fu = s.fu ∧
    (s.postHeard d).flt = s.flt ∧ (s.postHeard d).bu = s.bu ∧ (s.postHeard d).sq = s.sq ∧ (s.postHeard d).jnl = s.jnl ∧
    (s.postHeard d).kl = s.kl ∧ (s.postHeard d).sup = s.sup ∧ (s.postHeard d).timebase = s.timebase ∧
    (s.postHeard d).draws = s.draws ∧ (s.postHeard d).pending = s.pending := by
  and_intros <;> rfl

/-- A post's answer changes nothing that the street, the session or the hires read. -/
theorem State.Alike.postHeard (s : State) (d : Nat) : s.Alike (s.postHeard d) := by
  refine ⟨rfl, rfl, rfl, rfl, rfl, rfl, rfl, ?_⟩
  refine Du.memberReleases_setDock_le { s.du with polled := none } d _ fun e => ?_
  exact e

/-! ### LOCK_FAIL (R54, R55) -/

@[simp] theorem Dock.faulted_frame (k : Dock) :
    k.faulted.bike = k.bike ∧ k.faulted.untaken = k.untaken ∧ k.faulted.window = k.window ∧
    k.faulted.hostDisabled = k.hostDisabled ∧ k.faulted.silent = k.silent := by
  unfold Dock.faulted Dock.marked Dock.endRelease
  split <;> simp

theorem Dock.base_marked (k : Dock) : k.marked.base = k.base.marked := rfl

/-- A dock faulted has its mark. -/
theorem Dock.marked_faulted (k : Dock) : k.faulted.marked = k.faulted := by
  have mark : k.faulted.faultMark = true := by
    unfold Dock.faulted Dock.marked Dock.endRelease
    split <;> simp
  rw [Dock.marked, ← mark]

/-- A dock faulted is no longer a working one. -/
theorem Dock.faulted_state (k : Dock) : k.faulted.state = .faulted ∨ k.faulted.state = .offline ∨ k.faulted.state = .disabled := by
  unfold Dock.faulted Dock.marked Dock.endRelease
  split <;> simp_all

/-- A fault raised on a dock that no longer works sets its mark alone. -/
theorem State.dockFaultRaised_again {s : State} {d : Nat}
    (h : (s.dock d).state = .faulted ∨ (s.dock d).state = .offline ∨ (s.dock d).state = .disabled) :
    s.dockFaultRaised d = s.updateDock d Dock.marked := by
  unfold State.dockFaultRaised
  dsimp only
  obtain h | h | h := h <;> rw [h] <;> rfl

theorem State.DockFaulted.then {s t u : State} {d : Nat} (h : s.DockFaulted t d) (k : t.Alike u) (time : u.timebase = t.timebase)
    (queue : t.sq.queue ⊆ u.sq.queue) (bikes : u.du.bikes = t.du.bikes) (mark : (u.dock d).faultMark = true)
    (state : (u.dock d).state = (t.dock d).state) (release : (u.dock d).release = (t.dock d).release)
    (lock : (u.dock d).lockSlot = (t.dock d).lockSlot) : s.DockFaulted u d :=
  ⟨mark, bikes.trans h.bikes, h.lapsed.then k time queue, fun w => state.trans (h.faulted w), fun w => state.trans (h.kept w),
    fun w => by rw [release, lock]; exact h.abandoned w⟩

/-- A dock fault reported, and raised: the report has raised it already, before its note. -/
theorem State.Alike.lockFailed {s u : State} (h : s.Alike u) (queue : u.sq.queue.length ≤ s.sq.queue.length + 1) {d : Nat}
    (inside : 1 ≤ d ∧ d ≤ 24) (state : (u.dock d).state = (s.dock d).state) (release : (u.dock d).release = (s.dock d).release)
    (bikes : u.du.bikes = s.du.bikes) {kind : FaultKind} (other : kind ≠ .postSilent) :
    s.DockFaulted ((u.report (.dock d) kind 2).dockFaultRaised d) d ∧
    (((u.report (.dock d) kind 2).dockFaultRaised d).dock d).base = (u.dock d).faulted.base ∧
    (∀ n, n ≠ d → ((u.report (.dock d) kind 2).dockFaultRaised d).dock n = u.dock n) ∧
    ((u.report (.dock d) kind 2).dockFaultRaised d).flt = (u.report (.dock d) kind 2).flt := by
  obtain ⟨v, logged, noted⟩ := u.report_dock d other
  have queued : v.sq.queue.length ≤ s.sq.queue.length + 1 := by rw [logged.sq]; exact queue
  have first : s.DockFaulted (v.dockFaultRaised d) d :=
    (h.trans logged.alike).dockFaulted queued inside (by rw [logged.dock, state]) (by rw [logged.dock, release])
      (by rw [logged.du, bikes])
  have docks (n : Nat) : (u.report (.dock d) kind 2).dock n = (v.dockFaultRaised d).dock n := State.dock_congr noted.du n
  have faulted : ((u.report (.dock d) kind 2).dock d).base = (u.dock d).faulted.base := by
    rw [docks, v.dockFaultRaised_dock inside, logged.dock]
  have fields := Dock.fields_of_base faulted
  have again : (u.report (.dock d) kind 2).dockFaultRaised d = (u.report (.dock d) kind 2).updateDock d Dock.marked :=
    State.dockFaultRaised_again (by rw [fields.1]; exact Dock.faulted_state _)
  have marked : (((u.report (.dock d) kind 2).updateDock d Dock.marked).dock d).base = (u.dock d).faulted.base := by
    rw [State.base_updateDock_self _ _ inside, Dock.base_marked, faulted, ← Dock.base_marked, Dock.marked_faulted]
  rw [again]
  refine ⟨?_, marked, fun n hn => ?_, by simp⟩
  · have same := Dock.fields_of_base (marked.trans ((congrArg (Dock.base ∘ Dock.faulted) (logged.dock d).symm).trans
      (v.dockFaultRaised_dock inside).symm))
    exact first.then (noted.alike.trans ((State.Alike.refl _).updateDock d fun e => e)) (by simpa using noted.timebase)
      (by simpa using noted.queue) (by simp [noted.du]) (same.2.2.1.trans first.marked) same.1 same.2.2.2.1
      same.2.2.2.2.2.2.2.2.2.2.2.2.2
  · rw [State.dock_updateDock_ne _ _ _ _ hn, docks, State.dockFaultRaised_other _ hn, logged.dock]

/-! ### A silent post (R57) -/

/-- The dock with its post marked silent. -/
def Dock.muted (k : Dock) : Dock := { k with silent := true }

/-- The dock taken OFFLINE, where it works. -/
def Dock.offlined (k : Dock) : Dock :=
  match k.state with
  | .empty | .holding => k.enter .offline
  | .releasing => k.endRelease .offline
  | .faulted | .offline | .disabled => k

/-- A working dock taken OFFLINE, its release abandoned (R57). -/
def State.offlined (s : State) (d : Nat) : State :=
  match (s.dock d).state with
  | .empty | .holding => s.updateDock d fun k => k.enter .offline
  | .releasing => s.abandonRelease d .offline
  | .faulted | .offline | .disabled => s

theorem State.postFallsSilent_eq (s : State) (d : Nat) :
    s.postFallsSilent d = ((s.updateDock d Dock.muted).report (.dock d) .postSilent 2).offlined d := rfl

theorem Dock.base_offlined (k : Dock) : k.offlined.base = k.base.offlined := by
  unfold Dock.offlined
  rw [show k.base.state = k.state from rfl]
  split <;> simp

theorem State.offlined_dock (s : State) {d : Nat} (inside : 1 ≤ d ∧ d ≤ 24) :
    ((s.offlined d).dock d).base = (s.dock d).base.offlined := by
  rw [← Dock.base_offlined]
  unfold State.offlined Dock.offlined
  cases state : (s.dock d).state with
  | releasing => exact (congrArg Dock.base (State.dock_congr (State.abandonRelease_du state _) d)).trans (s.base_updateDock_self _ inside)
  | empty => exact s.base_updateDock_self _ inside
  | holding => exact s.base_updateDock_self _ inside
  | faulted => rfl
  | offline => rfl
  | disabled => rfl

theorem State.offlined_kept (s : State) (d : Nat) : (∀ n, n ≠ d → (s.offlined d).dock n = s.dock n) ∧
    (s.offlined d).du.bikes = s.du.bikes ∧ (s.offlined d).flt = s.flt ∧ (s.offlined d).clk = s.clk ∧ (s.offlined d).hu = s.hu ∧
    (s.offlined d).fu = s.fu ∧ (s.offlined d).sup = s.sup ∧ (s.offlined d).timebase = s.timebase ∧
    (s.offlined d).draws = s.draws ∧ (s.offlined d).pending = s.pending := by
  unfold State.offlined
  cases state : (s.dock d).state with
  | releasing => exact ⟨fun n hn => s.abandonRelease_other hn _, s.abandonRelease_bikes d _, by simp⟩
  | empty => exact ⟨fun n hn => s.dock_updateDock_ne _ _ _ hn, by simp⟩
  | holding => exact ⟨fun n hn => s.dock_updateDock_ne _ _ _ hn, by simp⟩
  | faulted => simp
  | offline => simp
  | disabled => simp

theorem State.Alike.offlined {s u : State} (h : s.Alike u) (queue : u.sq.queue.length ≤ s.sq.queue.length + 1) {d : Nat}
    (state : (u.dock d).state = (s.dock d).state) (release : (u.dock d).release = (s.dock d).release) :
    s.ReleaseGivenUp (u.offlined d) d := by
  unfold State.offlined
  rw [state]
  cases held : (s.dock d).state with
  | releasing => exact h.abandonRelease queue state release held _
  | empty => exact (h.updateDock d (by simp)).notReleased (by rw [held]; nofun)
  | holding => exact (h.updateDock d (by simp)).notReleased (by rw [held]; nofun)
  | faulted => exact h.notReleased (by rw [held]; nofun)
  | offline => exact h.notReleased (by rw [held]; nofun)
  | disabled => exact h.notReleased (by rw [held]; nofun)

/-- What a silent post leaves of its dock and of the session, from a state alike to s. -/
theorem State.Alike.postFallsSilent {s u : State} (h : s.Alike u) (queue : u.sq = s.sq) (du : u.du = s.du) {d : Nat}
    (inside : 1 ≤ d ∧ d ≤ 24) : ((u.postFallsSilent d).dock d).base = (s.dock d).muted.base.offlined ∧
    (∀ n, n ≠ d → (u.postFallsSilent d).dock n = s.dock n) ∧ (u.postFallsSilent d).du.bikes = s.du.bikes ∧
    s.ReleaseGivenUp (u.postFallsSilent d) d := by
  have muted : ((u.updateDock d Dock.muted).dock d).base = (s.dock d).muted.base := by
    rw [u.base_updateDock_self _ inside, State.dock_congr du]
  obtain ⟨v, logged, noted⟩ := (u.updateDock d Dock.muted).report_postSilent d
  have same : ((u.updateDock d Dock.muted).report (.dock d) .postSilent 2).du = (u.updateDock d Dock.muted).du :=
    noted.du.trans logged.du
  have fields := Dock.fields_of_base ((congrArg Dock.base (State.dock_congr same d)).trans muted)
  obtain ⟨others, bikes, -⟩ := ((u.updateDock d Dock.muted).report (.dock d) .postSilent 2).offlined_kept d
  rw [State.postFallsSilent_eq]
  refine ⟨?_, fun n hn => ?_, ?_, ?_⟩
  · rw [State.offlined_dock _ inside, State.dock_congr same, muted]
  · rw [others n hn, State.dock_congr same, State.dock_updateDock_ne _ _ _ _ hn, State.dock_congr du]
  · rw [bikes, same, (State.updateDock_du _ _ _).1, du]
  · refine (((h.updateDock d fun e => e).trans logged.alike).trans noted.alike).offlined ?_ fields.1 fields.2.2.2.1
    have := noted.length
    rw [logged.sq] at this
    simpa [queue] using this

end Sys2Proof.Machine
end

section
/-!
PROOFS. The statement on docks withdrawn and returned (R54 to R57, R131).
-/
namespace Sys2Proof.Machine
open Sys2Proof

/-! ### What the two requests mean once taken (R56, R165) -/

theorem dockDisable_meaning {s : State} {d : Nat} (taken : s.Takes (.dockDisable d)) : exec (.dockDisable d) s =
    .next (if s.dockConfigured d then (s.disableDock d).reply .ok else s.reply .badValue) :=
  congrArg Host.Outcome.next (taken.serve _)

theorem dockEnable_meaning {s : State} {d : Nat} (taken : s.Takes (.dockEnable d)) : exec (.dockEnable d) s =
    .next (if s.dockConfigured d then (s.enableDock d).reply .ok else s.reply .badValue) :=
  congrArg Host.Outcome.next (taken.serve _)

theorem State.dockConfigured_iff (s : State) (d : Nat) : s.dockConfigured d = true ↔ 1 ≤ d ∧ d ≤ s.sup.image.dockCount := by
  simp [State.dockConfigured]

theorem State.disableDock_frame (s : State) (d : Nat) : (s.disableDock d).clk = s.clk ∧ (s.disableDock d).hu = s.hu ∧
    (s.disableDock d).fu = s.fu ∧ (s.disableDock d).flt = s.flt ∧ (s.disableDock d).sup = s.sup ∧
    (s.disableDock d).timebase = s.timebase ∧ (s.disableDock d).draws = s.draws ∧ (s.disableDock d).pending = s.pending := by
  unfold State.disableDock
  split <;> simp

@[simp] theorem Dock.offlined_frame (k : Dock) : k.offlined.bike = k.bike ∧ k.offlined.faultMark = k.faultMark ∧
    k.offlined.window = k.window ∧ k.offlined.silent = k.silent ∧
    k.offlined.state = (if k.state = .empty ∨ k.state = .holding ∨ k.state = .releasing then .offline else k.state) ∧
    (k.state = .releasing → k.offlined.release = none ∧ k.offlined.lockSlot = some .lock) := by
  unfold Dock.offlined Dock.endRelease
  split <;> simp [*]

theorem State.postFallsSilent_flt (s : State) (d : Nat) :
    (s.postFallsSilent d).flt = ((s.updateDock d Dock.muted).report (.dock d) .postSilent 2).flt :=
  (State.offlined_kept _ _).2.2.1

theorem State.postFallsSilent_frame (s : State) (d : Nat) : (s.postFallsSilent d).clk = s.clk ∧ (s.postFallsSilent d).hu = s.hu ∧
    (s.postFallsSilent d).fu = s.fu ∧ (s.postFallsSilent d).sup = s.sup ∧ (s.postFallsSilent d).timebase = s.timebase ∧
    (s.postFallsSilent d).draws = s.draws ∧ (s.postFallsSilent d).pending = s.pending := by
  obtain ⟨-, -, -, clk, hu, fu, sup, timebase, draws, pending⟩ :=
    ((s.updateDock d Dock.muted).report (.dock d) .postSilent 2).offlined_kept d
  rw [State.postFallsSilent_eq, clk, hu, fu, sup, timebase, draws, pending]
  simp

/-- The dock returned by the host. -/
def Dock.returned (k : Dock) : Dock := Dock.settle { k with hostDisabled := false }

theorem Dock.returned_frame (k : Dock) : k.returned.bike = k.bike ∧ k.returned.hostDisabled = false ∧
    k.returned.state = if k.faultMark then .faulted else if k.silent then .offline else if k.bike.isSome then .holding else .empty := by
  simp [Dock.returned, Dock.settle, Dock.settledState]

theorem State.enableDock_spec {s : State} {d : Nat} (inside : 1 ≤ d ∧ d ≤ 24) (disabled : (s.dock d).state = .disabled) :
    s.enableDock d = { s with du := (s.enableDock d).du, bu := (s.enableDock d).bu } ∧
    ((s.enableDock d).dock d).base = (s.dock d).returned.base ∧ (∀ n, n ≠ d → (s.enableDock d).dock n = s.dock n) ∧
    (s.enableDock d).du.bikes = s.du.bikes := by
  have returned : s.enableDock d = s.updateDock d Dock.returned := if_pos disabled
  rw [returned]
  refine ⟨?_, s.base_updateDock_self _ inside, fun n hn => s.dock_updateDock_ne _ _ _ hn, by simp⟩
  apply State.eq_of_blocks <;> simp

/-- Settles O39: each of the four commands by what it does to the dock, and by what a release given up leaves. -/
theorem docksAreWithdrawnAndReturned : Obligations.DocksAreWithdrawnAndReturned := by
  intro s d count k configured working released kept
  refine ⟨fun taken => ⟨fun outside => ?_, fun here => ?_⟩, fun taken => ⟨fun outside => ?_, fun here other => ?_, fun here disabled => ?_⟩,
    fun runs here polled => ?_, fun runs here heard => ?_⟩
  · rw [dockDisable_meaning taken, if_neg (by rwa [s.dockConfigured_iff]), State.reply_eq]
  · have inside : 1 ≤ d ∧ d ≤ 24 := ⟨here.1, here.2.trans count⟩
    rw [dockDisable_meaning taken, if_pos ((s.dockConfigured_iff d).mpr here)]
    have fields := Dock.fields_of_base (s.disableDock_dock inside)
    obtain ⟨clk, hu, fu, flt, sup, timebase, draws, pending⟩ := s.disableDock_frame d
    obtain ⟨bike, release, lock, state, mark, hostDisabled⟩ : _ ∧ _ ∧ _ ∧ _ ∧ _ ∧ _ :=
      ⟨fields.2.1, fields.2.2.2.1, fields.2.2.2.2.2.2.2.2.2.2.2.2.2, fields.1, fields.2.2.1, fields.2.2.2.2.2.2.2.2.2.2.2.1⟩
    obtain ⟨state', hostDisabled', mark', bike', released'⟩ := k.disabled_frame
    obtain ⟨kl, quiet⟩ := s.disableDock_kiosk d
    have alike : (s.disableDock d).Alike ((s.disableDock d).reply .ok) := .of_frame (by simp)
    refine ⟨_, rfl, ⟨bike.trans bike', fun n hn => s.disableDock_other hn, s.disableDock_bikes d, clk, hu, fu, sup, draws, pending⟩,
      fun releasing => ⟨release.trans (released' releasing).1, lock.trans (released' releasing).2⟩, flt, state.trans state',
      hostDisabled.trans hostDisabled', mark.trans mark', ?_, (s.disableDock_givenUp inside).then alike rfl fun _ hr => hr, timebase,
      fun still => ?_, fun member => ?_⟩
    · exact congrArg (Kl.answered · .ok []) kl
    · obtain ⟨sq, same⟩ := quiet still
      exact ⟨sq, congrArg (·.raised) same⟩
    · rw [s.disableDock_rest inside member]
      rfl
  · rw [dockEnable_meaning taken, if_neg (by rwa [s.dockConfigured_iff]), State.reply_eq]
  · rw [dockEnable_meaning taken, if_pos ((s.dockConfigured_iff d).mpr here), State.enableDock, if_neg other, State.reply_eq]
  · rw [dockEnable_meaning taken, if_pos ((s.dockConfigured_iff d).mpr here)]
    have inside : 1 ≤ d ∧ d ≤ 24 := ⟨here.1, here.2.trans count⟩
    obtain ⟨rest, base, others, bikes⟩ := State.enableDock_spec inside disabled
    obtain ⟨state, bike, -, -, -, -, -, -, -, -, -, hostDisabled, -⟩ := Dock.fields_of_base base
    obtain ⟨bike', hostDisabled', state'⟩ := k.returned_frame
    have answered : (s.enableDock d).reply .ok =
        { s with du := (s.enableDock d).du, bu := (s.enableDock d).bu, kl := s.kl.answered .ok [] } := by
      conv_lhs => rw [rest]
      rfl
    rw [answered]
    exact ⟨_, rfl, ⟨bike.trans bike', others, bikes, rfl, rfl, rfl, rfl, rfl, rfl⟩, rfl, hostDisabled.trans hostDisabled',
      state.trans state'⟩
  · have inside : 1 ≤ d ∧ d ≤ 24 := ⟨here.1, here.2.trans count⟩
    have run : exec (.lockFail d) s = .next (((s.postHeard d).report (.dock d) .lock 2).dockFaultRaised d) :=
      congrArg Host.Outcome.next (State.takeAnswer_event runs here polled _ _)
    have heard := s.postHeard_dock inside
    obtain ⟨faulted, base, others, log⟩ := (State.Alike.postHeard s d).lockFailed (Nat.le_succ _) inside
      (by rw [heard]; rfl) (by rw [heard]; rfl) (s.postHeard_frame d).1 (kind := .lock) nofun
    obtain ⟨-, bike, -, -, untaken, -⟩ := Dock.fields_of_base base
    refine ⟨_, run, ⟨bike.trans (by simp [heard, Dock.answered, k]), fun n hn => ?_, faulted.bikes, by simp⟩, faulted,
      untaken.trans (by simp [heard, Dock.answered, k]), by simp, fun room => ?_⟩
    · rw [others n hn, s.postHeard_dock_ne hn]
    · rw [log]
      exact State.report_entry (.dock d) .lock 2 room
  · have inside : 1 ≤ d ∧ d ≤ 24 := ⟨here.1, here.2.trans count⟩
    have run : exec (.postSilence d) s = .next ((s.reached (k.silenceStart + 30000)).postFallsSilent d) :=
      congrArg Host.Outcome.next (if_pos ⟨runs, (s.dockConfigured_iff d).mpr here, heard⟩)
    have alike : s.Alike (s.reached (k.silenceStart + 30000)) := .of_frame (by simp)
    obtain ⟨base, others, bikes, givenUp⟩ := alike.postFallsSilent (by simp) (by simp) inside
    obtain ⟨state, bike, mark, release, -, -, window, -, silent, -, -, -, -, lock⟩ := Dock.fields_of_base (base.trans (Dock.base_offlined _).symm)
    obtain ⟨bike', mark', window', silent', state', release'⟩ := k.muted.offlined_frame
    obtain ⟨clk, hu, fu, sup, timebase, draws, pending⟩ := (s.reached (k.silenceStart + 30000)).postFallsSilent_frame d
    refine ⟨_, run, ⟨bike.trans bike', others, bikes, clk, hu, fu, sup, draws, pending⟩,
      fun releasing => ⟨release.trans (release' releasing).1, lock.trans (release' releasing).2⟩, mark.trans mark',
      window.trans window', silent.trans silent', givenUp, timebase, state.trans state', fun room => ?_⟩
    rw [State.postFallsSilent_flt]
    exact State.report_entry (.dock d) .postSilent 2 (by simpa using room)

end Sys2Proof.Machine
end

section
/-!
PROOFS. The dock's own timers (R44, R49, R53): the release timeout, the return window and the transient lamp.
-/
namespace Sys2Proof.Machine
open Sys2Proof

/-! ### Changes that no count sees (R63) -/

/-- A dock replaced by one that a reading does not tell from it. -/
theorem State.configured_putDock {β : Type} (s : State) (n : Nat) (k : Dock) (g : Dock → β) (h : g k = g (s.dock n)) :
    (s.putDock n k).configured.map g = s.configured.map g := by
  unfold State.configured State.putDock Du.setDock
  split
  · next inside =>
    have held : g k = g s.du.docks[n - 1] := by rw [h, State.dock, Du.dock, dif_pos inside]
    have same : (s.du.docks.toList.set (n - 1) k).map g = s.du.docks.toList.map g := by
      rw [List.map_set, held]
      exact List.ext_getElem (by simp) fun i _ _ => by
        rw [List.getElem_set]
        split <;> simp_all
    simp only [State.setDu, Vector.toList_set, List.map_take, same]
  · rfl

/-- A dock changed in what no count sees leaves the need score. -/
theorem State.updateDock_unseen (s : State) (n : Nat) (f : Dock → Dock) (state : (f (s.dock n)).state = (s.dock n).state)
    (bike : (f (s.dock n)).bike = (s.dock n).bike) : s.updateDock n f = { s with du := (s.updateDock n f).du } := by
  have same := s.configured_putDock n ((f (s.dock n)).refresh s.du) (fun k => (k.state, k.bike)) (by simp [state, bike])
  have counted (p : DockState × Option DockedBike → Bool) :
      (s.putDock n ((f (s.dock n)).refresh s.du)).configured.countP (fun k => p (k.state, k.bike)) =
        s.configured.countP fun k => p (k.state, k.bike) := by
    have := congrArg (List.countP p) same
    rwa [List.countP_map, List.countP_map] at this
  have bikes : (s.putDock n ((f (s.dock n)).refresh s.du)).du.bikes = s.du.bikes := (Du.setDock_frame _ _ _).1
  have a : (s.putDock n ((f (s.dock n)).refresh s.du)).countA = s.countA := by
    unfold State.countA Du.quarantined
    rw [bikes]
    exact counted fun x => decide (x.1 = .holding) && x.2.any fun b =>
      !s.du.bikes.any fun e => decide (e.bike = b.bike) && e.quarantine.isSome
  have qd : (s.putDock n ((f (s.dock n)).refresh s.du)).countQd = s.countQd := by
    unfold State.countQd Du.quarantined
    rw [bikes]
    exact counted fun x => decide (x.1 = .holding) && x.2.any fun b =>
      s.du.bikes.any fun e => decide (e.bike = b.bike) && e.quarantine.isSome
  have w : (s.putDock n ((f (s.dock n)).refresh s.du)).countW = s.countW :=
    counted fun x => decide (x.1 = .empty) || decide (x.1 = .holding) || decide (x.1 = .releasing)
  have still : s.updateDock n f = s.putDock n ((f (s.dock n)).refresh s.du) := if_pos ⟨a, qd, w⟩
  rw [still]
  rfl

/-! ### The transient lamp (R44) -/

/-- A dock that changes while a transient holds its lamp keeps what the lamp shows. -/
theorem State.lampSlot_updateDock (s : State) {n : Nat} (f : Dock → Dock) (inside : 1 ≤ n ∧ n ≤ 24)
    (h : (f (s.dock n)).transient.isSome = true) : ((s.updateDock n f).dock n).lampSlot = (f (s.dock n)).lampSlot := by
  rw [s.dock_updateDock n f inside, Dock.refresh_lampSlot _ _ h]

theorem Dock.placeResting_shows {k : Dock} {p : Lamp} (h : k.placeResting.resting = some p) : k.placeResting.lampSlot = some p := by
  rw [k.placeResting_frame.2.2.2.2.2.2.2.2.2.2.2.2.2.2] at h
  simp [Dock.placeResting, h, Dock.placeLamp]

/-- Without a transient the resting pattern placed is what the lamp shows, also when it has changed. -/
theorem Dock.refresh_shows {du : Du} {k : Dock} {p : Lamp} (free : k.transient = none)
    (h : (k.placeResting.refresh du).resting = some p) : (k.placeResting.refresh du).lampSlot = some p := by
  unfold Dock.refresh at h ⊢
  dsimp only at h ⊢
  split at h
  · next same =>
    rw [if_pos same]
    exact Dock.placeResting_shows h
  · next changed =>
    rw [if_neg changed]
    rw [if_neg (by simp [free])] at h ⊢
    exact Dock.placeResting_shows h

/-- The lamp at rest after a transient. -/
def Dock.rested (k : Dock) : Dock := Dock.placeResting { k with transient := none }

theorem exec_lampTransientEnd {s : State} {d : Nat} {w : Transient} (runs : s.busRuns = true) (held : (s.dock d).transient = some w) :
    exec (.lampTransientEnd d) s = .next ((s.reached (w.start + 3000)).updateDock d Dock.rested) := by
  show Host.Outcome.next (match (s.dock d).transient with | some t => _ | none => _) = _
  rw [held]
  exact congrArg Host.Outcome.next (if_pos runs)

/-! ### The return window (R53) -/

/-- The dock with its return window gone. -/
def Dock.unwindowed (k : Dock) : Dock := { k with window := none }

theorem exec_returnWindowExpiry {s : State} {d : Nat} {w : ReturnWindow} (runs : s.busRuns = true)
    (held : (s.dock d).window = some w) :
    exec (.returnWindowExpiry d) s = .next ((s.reached (w.start + 60000)).updateDock d Dock.unwindowed) := by
  show Host.Outcome.next (match (s.dock d).window with | some t => _ | none => _) = _
  rw [held]
  exact congrArg Host.Outcome.next (if_pos runs)

/-! ### The release timeout (R49) -/

theorem Dock.base_faulted (k : Dock) : k.faulted.base = k.base.faulted := by
  unfold Dock.faulted
  rw [show k.base.state = k.state from rfl]
  split <;> simp [Dock.base_marked]

theorem Dock.faulted_of_holding {k : Dock} (h : k.state = .holding) : k.faulted = k.marked.enter .faulted := by
  unfold Dock.faulted
  rw [h]

/-- The dock whose release has timed out, before its untaken releases are counted. -/
def Dock.timedOut (k : Dock) (t : Millis) : Dock := (k.endRelease .holding).show .red t

/-- The state with the release of a dock timed out, and a van's take lapsed. -/
def State.timedOut (s : State) (d : Nat) : State :=
  if (s.dock d).releasesFor .van then (s.updateDock d fun k => k.timedOut s.timebase).releaseLapsed d
  else s.updateDock d fun k => k.timedOut s.timebase

theorem State.releaseTimesOut_counted {s : State} {d : Nat} (h : (s.dock d).untaken < 2) :
    s.releaseTimesOut d = (s.timedOut d).updateDock d fun k => { k with untaken := k.untaken + 1 } :=
  if_neg (by omega)

theorem State.releaseTimesOut_jammed {s : State} {d : Nat} (h : 2 ≤ (s.dock d).untaken) : s.releaseTimesOut d =
    (((s.timedOut d).report (.dock d) .dockJam 2).dockFaultRaised d).updateDock d fun k => { k with untaken := 0 } :=
  if_pos (by omega)

theorem State.timedOut_du (s : State) (d : Nat) : (s.timedOut d).du = (s.updateDock d fun k => k.timedOut s.timebase).du := by
  unfold State.timedOut
  split
  · exact (State.releaseLapsed_frame _ _).2.1
  · rfl

theorem Dock.timedOut_frame (k : Dock) (t : Millis) : (k.timedOut t).state = .holding ∧ (k.timedOut t).release = none ∧
    (k.timedOut t).lockSlot = some .lock ∧ (k.timedOut t).bike = k.bike ∧ (k.timedOut t).untaken = k.untaken ∧
    (k.timedOut t).faultMark = k.faultMark ∧ (k.timedOut t).transient = some { lamp := .red, start := t } ∧
    (k.timedOut t).lampSlot = some .red := by
  simp [Dock.timedOut, Dock.show, Dock.endRelease, Dock.placeLamp]

theorem Dock.timedOut_forMember (k : Dock) (t : Millis) : (k.timedOut t).forMember = false := by
  simp [Dock.timedOut]

theorem State.timedOut_dock (s : State) {d : Nat} (inside : 1 ≤ d ∧ d ≤ 24) :
    ((s.timedOut d).dock d).base = ((s.dock d).timedOut s.timebase).base ∧ ((s.timedOut d).dock d).lampSlot = some .red := by
  rw [State.dock_congr (s.timedOut_du d)]
  exact ⟨s.base_updateDock_self _ inside, s.lampSlot_updateDock _ inside (by simp [Dock.timedOut_frame])⟩

theorem State.timedOut_other (s : State) {d n : Nat} (h : n ≠ d) : (s.timedOut d).dock n = s.dock n := by
  rw [State.dock_congr (s.timedOut_du d), s.dock_updateDock_ne _ _ _ h]

@[simp] theorem State.timedOut_frame (s : State) (d : Nat) : (s.timedOut d).clk = s.clk ∧ (s.timedOut d).hu = s.hu ∧
    (s.timedOut d).fu = s.fu ∧ (s.timedOut d).flt = s.flt ∧ (s.timedOut d).sup = s.sup ∧ (s.timedOut d).timebase = s.timebase ∧
    (s.timedOut d).draws = s.draws ∧ (s.timedOut d).pending = s.pending ∧ (s.timedOut d).du.bikes = s.du.bikes := by
  rw [s.timedOut_du]
  unfold State.timedOut
  split <;> simp

/-- A fault raised on a dock that is not released leaves the street and the queue. -/
theorem State.dockFaultRaised_alike {s : State} {d : Nat} (h : (s.dock d).state ≠ .releasing) :
    s.Alike (s.dockFaultRaised d) ∧ (s.dockFaultRaised d).sq = s.sq := by
  have marked : s.Alike (s.updateDock d fun k => { k with faultMark := true }) := (State.Alike.refl s).updateDock d fun e => e
  unfold State.dockFaultRaised
  dsimp only
  cases held : (s.dock d).state with
  | releasing => exact absurd held h
  | empty => exact ⟨marked.updateDock d (by simp), by simp⟩
  | holding => exact ⟨marked.updateDock d (by simp), by simp⟩
  | faulted => exact ⟨marked, by simp⟩
  | offline => exact ⟨marked, by simp⟩
  | disabled => exact ⟨marked, by simp⟩

/-- A dock fault reported and raised on a dock that is not released. -/
theorem State.lockFailed_alike {s : State} {d : Nat} (inside : 1 ≤ d ∧ d ≤ 24) (h : (s.dock d).state ≠ .releasing)
    {kind : FaultKind} (other : kind ≠ .postSilent) : s.Alike ((s.report (.dock d) kind 2).dockFaultRaised d) ∧
    s.sq.queue ⊆ ((s.report (.dock d) kind 2).dockFaultRaised d).sq.queue := by
  obtain ⟨v, logged, noted⟩ := s.report_dock d other
  obtain ⟨raised, sq⟩ := State.dockFaultRaised_alike (s := v) (d := d) (by rw [logged.dock]; exact h)
  have faulted : ((s.report (.dock d) kind 2).dock d).state = (s.dock d).faulted.state := by
    rw [State.dock_congr noted.du, (Dock.fields_of_base (v.dockFaultRaised_dock inside)).1, logged.dock]
  obtain ⟨again, sq'⟩ := State.dockFaultRaised_alike (s := s.report (.dock d) kind 2) (d := d) (by
    rw [faulted]
    obtain e | e | e := (s.dock d).faulted_state <;> rw [e] <;> nofun)
  refine ⟨((logged.alike.trans raised).trans noted.alike).trans again, ?_⟩
  rw [sq', ← logged.sq, ← sq]
  exact noted.queue

/-- The dock with its count of untaken releases set. -/
def Dock.recount (k : Dock) (n : Nat) : Dock := { k with untaken := n }

theorem Dock.base_recount (k : Dock) (n : Nat) : (k.recount n).base = k.base.recount n := rfl

/-- The release timed out is given up, seen from a state alike. -/
theorem State.Alike.timedOut {s u : State} (h : s.Alike u) (sq : u.sq = s.sq) (du : u.du = s.du) {d : Nat}
    (releasing : (s.dock d).state = .releasing) : s.ReleaseGivenUp (u.timedOut d) d := by
  have van : (u.dock d).releasesFor .van = (s.dock d).releasesFor .van := by rw [State.dock_congr du]
  unfold State.timedOut
  rw [van]
  exact State.Alike.givenUp (h.updateDock d (by simp [Dock.timedOut_forMember])) (by simp [sq]) releasing

/-- A release that times out for the first or the second time (R49). -/
theorem State.releaseTimesOut_counted_dock {s : State} {d : Nat} (inside : 1 ≤ d ∧ d ≤ 24) (few : (s.dock d).untaken < 2) :
    ((s.releaseTimesOut d).dock d).base = (((s.dock d).timedOut s.timebase).recount ((s.dock d).untaken + 1)).base ∧
    ((s.releaseTimesOut d).dock d).lampSlot = some .red ∧ (∀ n, n ≠ d → (s.releaseTimesOut d).dock n = s.dock n) := by
  obtain ⟨base, lamp⟩ := s.timedOut_dock inside
  have fields := Dock.fields_of_base base
  have untaken : ((s.timedOut d).dock d).untaken = (s.dock d).untaken :=
    fields.2.2.2.2.1.trans (Dock.timedOut_frame _ _).2.2.2.2.1
  rw [State.releaseTimesOut_counted few]
  refine ⟨?_, ?_, fun n hn => ?_⟩
  · rw [State.base_updateDock_self _ _ inside]
    show (((s.timedOut d).dock d).recount _).base = _
    rw [Dock.base_recount, base, untaken, Dock.base_recount]
  · rw [State.lampSlot_updateDock _ _ inside]
    · exact lamp
    · rw [fields.2.2.2.2.2.2.2.2.2.2.2.2.1]
      simp [Dock.timedOut_frame]
  · rw [State.dock_updateDock_ne _ _ _ _ hn, s.timedOut_other hn]

/-- A release that times out for the third time faults the dock (R49, R55). -/
theorem State.releaseTimesOut_jammed_dock {s : State} {d : Nat} (inside : 1 ≤ d ∧ d ≤ 24) (many : 2 ≤ (s.dock d).untaken) :
    ((s.releaseTimesOut d).dock d).base = (((s.dock d).timedOut s.timebase).faulted.recount 0).base ∧
    (∀ n, n ≠ d → (s.releaseTimesOut d).dock n = s.dock n) ∧
    (s.releaseTimesOut d).flt = ((s.timedOut d).report (.dock d) .dockJam 2).flt := by
  obtain ⟨base, -⟩ := s.timedOut_dock inside
  obtain ⟨-, faulted, others, -⟩ := (State.Alike.refl (s.timedOut d)).lockFailed (Nat.le_succ _) inside rfl rfl rfl
    (kind := .dockJam) nofun
  rw [State.releaseTimesOut_jammed many]
  refine ⟨?_, fun n hn => ?_, ?_⟩
  · rw [State.base_updateDock_self _ _ inside]
    show (Dock.recount _ _).base = _
    rw [Dock.base_recount, faulted, Dock.base_recount, Dock.base_faulted, base, Dock.base_faulted]
  · rw [State.dock_updateDock_ne _ _ _ _ hn, others n hn, s.timedOut_other hn]
  · simp

/-- The end of a release that times out, for the session and the street. -/
theorem State.Alike.releaseTimesOut {s u : State} (h : s.Alike u) (sq : u.sq = s.sq) (du : u.du = s.du) {d : Nat}
    (inside : 1 ≤ d ∧ d ≤ 24) (releasing : (s.dock d).state = .releasing) : s.ReleaseGivenUp (u.releaseTimesOut d) d := by
  have lapsed := h.timedOut sq du releasing
  by_cases few : (u.dock d).untaken < 2
  · rw [State.releaseTimesOut_counted few]
    exact lapsed.then ((State.Alike.refl _).updateDock d fun e => e) (by simp) (by simp)
  · rw [State.releaseTimesOut_jammed (Nat.not_lt.mp few)]
    have still : ((u.timedOut d).dock d).state ≠ .releasing := by
      rw [(Dock.fields_of_base (u.timedOut_dock inside).1).1, (Dock.timedOut_frame _ _).1]
      nofun
    obtain ⟨alike, queue⟩ := State.lockFailed_alike inside still (kind := .dockJam) nofun
    exact lapsed.then (alike.updateDock d fun e => e) (by simp) (by simpa using queue)

theorem State.releaseTimesOut_frame (s : State) (d : Nat) : (s.releaseTimesOut d).clk = s.clk ∧ (s.releaseTimesOut d).hu = s.hu ∧
    (s.releaseTimesOut d).fu = s.fu ∧ (s.releaseTimesOut d).sup = s.sup ∧ (s.releaseTimesOut d).timebase = s.timebase ∧
    (s.releaseTimesOut d).draws = s.draws ∧ (s.releaseTimesOut d).pending = s.pending := by
  by_cases few : (s.dock d).untaken < 2
  · rw [State.releaseTimesOut_counted few]
    simp
  · rw [State.releaseTimesOut_jammed (Nat.not_lt.mp few)]
    simp

theorem State.releaseTimesOut_bikes {s : State} {d : Nat} (inside : 1 ≤ d ∧ d ≤ 24) :
    (s.releaseTimesOut d).du.bikes = s.du.bikes := by
  by_cases few : (s.dock d).untaken < 2
  · rw [State.releaseTimesOut_counted few]
    simp
  · rw [State.releaseTimesOut_jammed (Nat.not_lt.mp few)]
    have faulted := ((State.Alike.refl (s.timedOut d)).lockFailed (Nat.le_succ _) inside rfl rfl rfl (kind := .dockJam) nofun).1
    simpa using faulted.bikes

/-- A member's release that times out and jams nothing touches the dock unit and the need score alone. -/
theorem State.releaseTimesOut_rest {s : State} {d : Nat} {r : Release} (few : (s.dock d).untaken < 2)
    (held : (s.dock d).release = some r) (member : r.purpose = .member) :
    s.releaseTimesOut d = { s with du := (s.releaseTimesOut d).du, bu := (s.releaseTimesOut d).bu } := by
  have ended : s.timedOut d = s.updateDock d fun k => k.timedOut s.timebase :=
    if_neg (by simp [Dock.releasesFor, held, member])
  rw [State.releaseTimesOut_counted few, ended]
  apply State.eq_of_blocks <;> simp

theorem exec_releaseTimeout {s : State} {d : Nat} {r : Release} (runs : s.busRuns = true)
    (releasing : (s.dock d).state = .releasing) (held : (s.dock d).release = some r) :
    exec (.releaseTimeout d) s = .next ((s.reached (r.start + 20000)).releaseTimesOut d) := by
  show Host.Outcome.next (match (s.dock d).release with | some t => _ | none => _) = _
  rw [held]
  exact congrArg Host.Outcome.next (if_pos ⟨runs, releasing⟩)

end Sys2Proof.Machine
end

section
/-!
PROOFS. What follows a report of a fault (R60 to R62, R110 to R115).
-/
namespace Sys2Proof.Machine
open Sys2Proof

/-! ### Before and after a report -/

/-- The dock table and the bike status list of u read as those of s do to what follows a report. -/
structure State.SameDocks (s u : State) : Prop where
  bikes : u.du.bikes = s.du.bikes
  drops : u.du.statusDrops = s.du.statusDrops
  docks : ∀ n, (u.dock n).state = (s.dock n).state ∧ (u.dock n).release = (s.dock n).release ∧ (u.dock n).bike = (s.dock n).bike ∧
    (u.dock n).untaken = (s.dock n).untaken

/-- The docks of u show, besides, what those of s do. -/
structure State.SameShown (s u : State) : Prop extends s.SameDocks u where
  shown : ∀ n, (u.dock n).faultMark = (s.dock n).faultMark ∧ (u.dock n).lockSlot = (s.dock n).lockSlot ∧
    (u.dock n).lastRefusal = (s.dock n).lastRefusal ∧ (u.dock n).transient = (s.dock n).transient ∧
    ((s.dock n).transient.isSome = true → (u.dock n).lampSlot = (s.dock n).lampSlot)

theorem State.SameShown.of_du {s u : State} (h : u.du = s.du) : s.SameShown u := by
  have docks (n : Nat) : u.dock n = s.dock n := State.dock_congr h n
  exact ⟨⟨by rw [h], by rw [h], fun n => by simp [docks n]⟩, fun n => by simp [docks n]⟩

theorem State.SameShown.trans {s u v : State} (h : s.SameShown u) (k : u.SameShown v) : s.SameShown v := by
  refine ⟨⟨k.bikes.trans h.bikes, k.drops.trans h.drops, fun n => ?_⟩, fun n => ?_⟩
  · obtain ⟨a, b, c, d⟩ := h.docks n
    obtain ⟨a', b', c', d'⟩ := k.docks n
    exact ⟨a'.trans a, b'.trans b, c'.trans c, d'.trans d⟩
  · obtain ⟨a, b, c, d, e⟩ := h.shown n
    obtain ⟨a', b', c', d', e'⟩ := k.shown n
    exact ⟨a'.trans a, b'.trans b, c'.trans c, d'.trans d, fun run => (e' (by rw [d]; exact run)).trans (e run)⟩

/-- The state u reads as s does to what follows a report, but for the docks. -/
structure State.Reads (s u : State) : Prop extends s.Alike u where
  bu : u.bu = s.bu
  sq : u.sq = s.sq
  fault : u.kl.raised.fault = s.kl.raised.fault
  timebase : u.timebase = s.timebase

/-! ### A bike quarantined (R60 to R62) -/

/-- The bike status list with a part of a bike's entry set. -/
theorem State.setBikePart_listed {s : State} {b : Bike} {f : BikeStatus → BikeStatus} {before rest : List BikeStatus} {x : BikeStatus}
    (listed : s.du.bikes = before ++ x :: rest) (same : x.bike = b) (first : ∀ y ∈ before, y.bike ≠ b) :
    (s.setBikePart b f).du.bikes = before ++ f x :: rest ∧ (s.setBikePart b f).du.statusDrops = s.du.statusDrops := by
  have any : (s.du.bikes.any fun e => decide (e.bike = b)) = true := by simp [listed, same]
  rw [State.setBikePart, if_pos any, listed,
    updateFirst_middle _ _ _ _ _ (fun y hy => decide_eq_false (first y hy)) (decide_eq_true same)]
  simp

theorem State.setBikePart_new {s : State} {b : Bike} {f : BikeStatus → BikeStatus} (new : ∀ x ∈ s.du.bikes, x.bike ≠ b) :
    (s.setBikePart b f).du.bikes = roomForBike s.du.bikes ++ [f { bike := b, quarantine := none, missing := none }] ∧
    (s.setBikePart b f).du.statusDrops =
      if s.du.bikes.length < 64 then s.du.statusDrops else min 65535 (s.du.statusDrops + 1) := by
  have any : ¬ (s.du.bikes.any fun e => decide (e.bike = b)) = true := by simpa using new
  rw [State.setBikePart, if_neg any]
  simp [saturate]

/-- A full list makes room by its oldest entry without a quarantine part, or by its oldest. -/
theorem roomForBike_evicts {before rest : List BikeStatus} {x : BikeStatus} (full : 64 ≤ (before ++ x :: rest).length)
    (h : x.quarantine = none ∧ (∀ y ∈ before, y.quarantine ≠ none) ∨
      before = [] ∧ ∀ y ∈ before ++ x :: rest, y.quarantine ≠ none) : roomForBike (before ++ x :: rest) = before ++ rest := by
  rw [roomForBike, if_neg (Nat.not_lt.mpr full)]
  obtain ⟨free, held⟩ | ⟨rfl, held⟩ := h
  · rw [if_pos (by simp [free])]
    exact eraseP_middle _ _ _ _ (fun y hy => by simpa [Option.isSome_iff_ne_none] using held y hy) (by simp [free])
  · rw [if_neg (by simpa using held)]
    rfl

theorem State.setQuarantine_quarantined (s : State) (b : Bike) (i : Ident) (v : Nat) :
    s.Quarantined (s.setQuarantine b i v) b { id := i, severity := v } := by
  obtain ⟨bikes, drops, -⟩ := s.setQuarantine_du b i v
  refine ⟨fun before x rest listed same first => ?_, fun new room => ?_, fun before x rest new full listed which => ?_,
    fun d r x releasing held member bike same => ?_, fun d van => ?_⟩
  · rw [bikes, drops]
    exact State.setBikePart_listed listed same first
  · obtain ⟨list, count⟩ := State.setBikePart_new (f := fun e => { e with quarantine := some { id := i, severity := v } }) new
    rw [bikes, drops, list, count, if_pos room, roomForBike, if_pos room]
    exact ⟨rfl, rfl⟩
  · obtain ⟨list, count⟩ := State.setBikePart_new (f := fun e => { e with quarantine := some { id := i, severity := v } }) new
    rw [bikes, drops, list, count, if_neg (Nat.not_lt.mpr full)]
    rw [listed] at full which ⊢
    rw [roomForBike_evicts full which]
    exact ⟨rfl, rfl⟩
  · have releases : (s.dock d).releasesToMember b :=
      ⟨releasing, by simp [Dock.releasesFor, held, member], by simp [Dock.records, bike, same]⟩
    obtain ⟨base, lamp⟩ := State.dock_setQuarantine_member releases i v
    rw [Dock.quarantineAbandoned_eq] at base
    obtain ⟨state', bike', -, release', untaken', refusal', -, -, -, -, -, -, transient', lock'⟩ := Dock.fields_of_base base
    exact ⟨state', release', bike'.trans bike, lock', refusal', untaken', transient', lamp⟩
  · have kept : ¬ (s.dock d).releasesToMember b := by
      rintro ⟨releasing, member, records⟩
      cases held : (s.dock d).release with
      | none => simp [Dock.releasesFor, held] at member
      | some r =>
        cases bike : (s.dock d).bike with
        | none => simp [Dock.records, bike] at records
        | some x =>
          have purpose := van r x releasing held bike (by simpa [Dock.records, bike] using records)
          simp [Dock.releasesFor, held, purpose] at member
    obtain ⟨state, bike, -, release, -⟩ := Dock.fields_of_base (State.dock_setQuarantine_other kept i v)
    exact ⟨state, release, bike⟩

/-- A quarantine set between two states that read alike. -/
theorem State.Quarantined.between {s u v t : State} {b : Bike} {q : QuarantinePart} (h : u.Quarantined v b q) (start : s.SameDocks u)
    (time : u.timebase = s.timebase) (after : v.SameShown t) : s.Quarantined t b q := by
  have back (n : Nat) := start.docks n
  have on (n : Nat) := after.docks n
  refine ⟨fun before x rest listed same first => ?_, fun new room => ?_, fun before x rest new full listed which => ?_,
    fun d r x releasing held member bike same => ?_, fun d van => ?_⟩
  · rw [after.bikes, after.drops, ← start.drops]
    exact h.changed before x rest (start.bikes.trans listed) same first
  · rw [after.bikes, after.drops, ← start.drops, ← start.bikes]
    rw [← start.bikes] at new room
    exact h.entered new room
  · rw [after.bikes, after.drops, ← start.drops]
    rw [← start.bikes] at new full listed which
    exact h.evicted before x rest new full listed which
  · obtain ⟨state', release', bike', untaken'⟩ := back d
    obtain ⟨state, release, docked, lock, refusal, untaken, transient, lamp⟩ :=
      h.abandoned d r x (state'.trans releasing) (release'.trans held) member (bike'.trans bike) same
    obtain ⟨state'', release'', bike'', untaken''⟩ := on d
    obtain ⟨-, lock'', refusal'', transient'', lamp''⟩ := after.shown d
    exact ⟨state''.trans state, release''.trans release, bike''.trans docked, lock''.trans lock, refusal''.trans refusal,
      (untaken''.trans untaken).trans untaken', by rw [transient'', transient, time],
      (lamp'' (by rw [transient]; rfl)).trans lamp⟩
  · obtain ⟨state', release', bike', -⟩ := back d
    obtain ⟨state'', release'', bike'', -⟩ := on d
    obtain ⟨state, release, bike⟩ := h.others d fun r x releasing held docked same =>
      van r x (state'.symm.trans releasing) (release'.symm.trans held) (bike'.symm.trans docked) same
    exact ⟨(state''.trans state).trans state', (release''.trans release).trans release', (bike''.trans bike).trans bike'⟩

/-! ### Member releases after a quarantine (R61, R150) -/

theorem Du.docks_toList (d : Du) : d.docks.toList = dockNumbers.map d.dock := by
  refine List.ext_getElem (by simp [dockNumbers]) fun i hi _ => ?_
  have inside : i < 24 := by simpa using hi
  simp [dockNumbers, Du.dock]
  omega

/-- Docks released for a member only where they were before. -/
theorem Du.memberReleases_le {d e : Du} (h : ∀ n, (e.dock n).forMember = true → (d.dock n).forMember = true) :
    e.memberReleases ≤ d.memberReleases := by
  rw [Du.memberReleases_eq, Du.memberReleases_eq, Du.docks_toList, Du.docks_toList, List.countP_map, List.countP_map]
  exact List.countP_mono_left fun n _ => h n

theorem Dock.forMember_of_base {k l : Dock} (h : k.base = l.base) : k.forMember = l.forMember := by
  obtain ⟨state, -, -, release, -⟩ := Dock.fields_of_base h
  simp [Dock.forMember, Dock.releasesFor, state, release]

theorem State.Alike.setQuarantine (s : State) (b : Bike) (i : Ident) (v : Nat) : s.Alike (s.setQuarantine b i v) := by
  refine ⟨by simp, by simp, by simp, by simp, by simp, by simp, by simp, Du.memberReleases_le fun n => ?_⟩
  by_cases releases : (s.dock n).releasesToMember b
  · have ended := Dock.forMember_of_base (State.dock_setQuarantine_member releases i v).1
    rw [Dock.quarantineAbandoned_eq] at ended
    intro e
    rw [State.dock] at ended
    exact absurd (ended.symm.trans e) (by simp [Dock.forMember])
  · have kept := Dock.forMember_of_base (State.dock_setQuarantine_other releases i v)
    intro e
    exact kept.symm.trans e

/-! ### What follows a report on a bike (R114, R115) -/

theorem State.noteRise_sq (s : State) (e : FaultEntry) :
    (s.noteRise e).sq = (s.postNote (.fault e.id e.subject e.kind e.severity)).sq := by
  simp [State.noteRise]

section
variable {s u : State} {e : FaultEntry} {b : Bike} (subject : e.subject = .bike b) (old : Nat)
include subject

theorem State.faultEffects_mild (mild : e.severity < 2) : u.faultEffects e old = u := by
  unfold State.faultEffects
  rw [subject]
  exact if_neg (Nat.not_le.mpr mild)

theorem State.faultEffects_still (high : 2 ≤ e.severity) (still : e.severity ≤ old) :
    u.faultEffects e old = u.setQuarantine b e.id e.severity := by
  unfold State.faultEffects
  rw [subject]
  dsimp only
  rw [if_pos high, if_neg (Nat.not_lt.mpr still)]

theorem State.faultEffects_risen (high : 2 ≤ e.severity) (rises : old < e.severity) :
    u.faultEffects e old = ((u.setQuarantine b e.id e.severity).flood (.fault e.id b e.kind e.severity)).noteRise e := by
  unfold State.faultEffects
  rw [subject]
  dsimp only
  rw [if_pos high, if_pos rises]

/-- The dock unit after a report on a bike of severity 2 or more. -/
theorem State.faultEffects_du (high : 2 ≤ e.severity) : (u.faultEffects e old).du = (u.setQuarantine b e.id e.severity).du := by
  obtain rises | still := Nat.lt_or_ge old e.severity
  · rw [State.faultEffects_risen subject old high rises]
    simp
  · rw [State.faultEffects_still subject old high still]

/-- A report taken into the entry e, from a state that reads as s and before one that reads as its outcome. -/
theorem State.faultEffects_taken {t : State} (before : s.Reads u) (docks : s.SameDocks u) (after : (u.faultEffects e old).Reads t)
    (shown : (u.faultEffects e old).SameShown t) : s.FaultTaken t e old := by
  have quarantined (high : 2 ≤ e.severity) : s.Quarantined t b { id := e.id, severity := e.severity } :=
    (u.setQuarantine_quarantined b e.id e.severity).between docks before.timebase
      ((State.SameShown.of_du (State.faultEffects_du subject old high)).trans shown)
  have alike : s.Alike (u.setQuarantine b e.id e.severity) := before.toAlike.trans (State.Alike.setQuarantine u b e.id e.severity)
  have sq : ((u.setQuarantine b e.id e.severity).flood (.fault e.id b e.kind e.severity)).sq = s.sq := by simp [before.sq]
  have limit : ((u.setQuarantine b e.id e.severity).flood (.fault e.id b e.kind e.severity)).noteLimit =
      (u.setQuarantine b e.id e.severity).noteLimit := by simp [State.noteLimit]
  refine ⟨fun mild => ?_, fun x same high => ?_, fun d same => ?_, fun x same high rises => ?_, fun high rises _ room => ?_,
    fun high rises members unheld full => ?_, fun high rises => ?_, fun h => ?_, fun x same still => ?_⟩
  · rw [State.faultEffects_mild subject old mild] at after shown
    exact ⟨shown.bikes.trans docks.bikes, after.bu.trans before.bu, after.slc.trans before.slc, after.sq.trans before.sq⟩
  · cases subject.symm.trans same
    exact quarantined high
  · cases subject.symm.trans same
  · cases subject.symm.trans same
    rw [State.faultEffects_risen subject old high rises] at after
    refine (after.slc.trans (State.noteRise_frame _ _).2.1).trans ?_
    exact State.originate_slc_congr _ _ alike.slc alike.sup (by simp [before.timebase])
  · rw [State.faultEffects_risen subject old high rises] at after
    have noted := (State.postNote_room (.fault e.id e.subject e.kind e.severity)
      (s := (u.setQuarantine b e.id e.severity).flood (.fault e.id b e.kind e.severity))
      (by rw [sq, limit]; exact room.trans_le alike.limit)).1
    exact ⟨_, by rw [after.sq, State.noteRise_sq, noted, sq], rfl⟩
  · rw [State.faultEffects_risen subject old high rises] at after
    have none_left : (u.setQuarantine b e.id e.severity).noteLimit = s.noteLimit := by
      have := alike.releases
      rw [State.noteLimit, State.noteLimit, alike.hu]
      omega
    have dropped := (State.postNote_full (.fault e.id e.subject e.kind e.severity)
      (s := (u.setQuarantine b e.id e.severity).flood (.fault e.id b e.kind e.severity))
      (by rw [sq, limit, none_left]; exact full)).1
    rw [after.sq, State.noteRise_sq, dropped, sq]
    rfl
  · rw [State.faultEffects_risen subject old high rises] at after
    exact after.fault
  · obtain mild | high := Nat.lt_or_ge e.severity 2
    · rw [State.faultEffects_mild subject old mild] at after
      exact after.fault.trans before.fault
    · rw [State.faultEffects_still subject old high (h.resolve_left (Nat.not_lt.mpr high))] at after
      exact after.fault.trans (by simp [before.fault])
  · obtain mild | high := Nat.lt_or_ge e.severity 2
    · rw [State.faultEffects_mild subject old mild] at after
      exact ⟨after.slc.trans before.slc, after.sq.trans before.sq⟩
    · rw [State.faultEffects_still subject old high still] at after
      exact ⟨after.slc.trans alike.slc, after.sq.trans (by simp [before.sq])⟩

end

end Sys2Proof.Machine
end

section
/-!
PROOFS. The dock's own timers and its fault button (R44, R49, R53, R110 to R115).
-/
namespace Sys2Proof.Machine
open Sys2Proof

/-! ### Member reports (R111 to R113) -/

theorem State.Reads.refl (s : State) : s.Reads s := ⟨.refl s, rfl, rfl, rfl, rfl⟩

theorem State.Reads.logged {s u v : State} (h : s.Reads u) (k : u.Logged v) : s.Reads v :=
  ⟨h.toAlike.trans k.alike, (congrArg State.bu k.rest :).trans h.bu, k.sq.trans h.sq,
    (congrArg (fun v => v.kl.raised.fault) k.rest :).trans h.fault, (congrArg State.timebase k.rest :).trans h.timebase⟩

theorem State.SameDocks.logged {s u v : State} (h : s.SameDocks u) (k : u.Logged v) : s.SameDocks v :=
  ⟨by rw [k.du]; exact h.bikes, by rw [k.du]; exact h.drops, fun n => by rw [k.dock]; exact h.docks n⟩

theorem addReporter_eq (cards : List Card) (card : Option Card) :
    addReporter cards card = cards ++ card.toList.filter fun c => decide (c ∉ cards ∧ cards.length < 3) := by
  cases card with
  | none => simp [addReporter]
  | some c =>
    by_cases joins : c ∈ cards ∨ 3 ≤ cards.length
    · have refused : ¬ (c ∉ cards ∧ cards.length < 3) := fun h => joins.elim h.1 (Nat.not_le.mpr h.2)
      simp [addReporter, joins, refused]
    · have taken : c ∉ cards ∧ cards.length < 3 := by simpa using joins
      simp [addReporter, taken]

section
variable {s u t : State} {b : Bike} {card : Option Card} (before : s.Reads u) (docks : s.SameDocks u)
  (flt : u.flt = s.flt) (now : u.now = s.now) (after : (u.memberReport b card).Reads t) (shown : (u.memberReport b card).SameShown t)
  (log : t.flt = (u.memberReport b card).flt)
include before docks flt now after shown log

/-- A member report that merges (R112). -/
theorem State.memberReport_merged {l : List FaultEntry} {e : FaultEntry} {rest : List FaultEntry}
    (listed : s.flt.log = l ++ e :: rest) (same : e.subject = .bike b ∧ e.kind = .reported ∧ e.state ≠ .cleared)
    (first : ∀ x ∈ l, ¬ (x.subject = .bike b ∧ x.kind = .reported ∧ x.state ≠ .cleared)) :
    t.flt = { s.flt with log := l ++ e.merged none card s.now :: rest } ∧ s.FaultTaken t (e.merged none card s.now) e.severity := by
  have merges : u.memberReport b card = (u.setLog (l ++ e.merged none card s.now :: rest)).faultEffects
      (e.merged none card s.now) e.severity := by
    rw [← now]
    refine State.reportFault_merged (flt ▸ listed) ((e.matches_iff _ _).mpr ⟨same.2.2, same.1, same.2.1⟩) fun x hx => ?_
    refine Bool.eq_false_iff.mpr fun found => first x hx ?_
    obtain ⟨live, subject, kind⟩ := (x.matches_iff _ _).mp found
    exact ⟨subject, kind, live⟩
  rw [merges] at after shown log
  refine ⟨log.trans ?_, State.faultEffects_taken (e := e.merged none card s.now) same.1 _ (before.logged ⟨rfl⟩)
    (docks.logged ⟨rfl⟩) after shown⟩
  simp [State.setLog, flt]

/-- A member report that makes a new entry (R113). -/
theorem State.memberReport_fresh (new : ∀ e ∈ s.flt.log, ¬ (e.subject = .bike b ∧ e.kind = .reported ∧ e.state ≠ .cleared))
    (room : s.flt.log.length < 32) :
    t.flt = { s.flt with log := s.flt.log ++ [newFault s.nextFaultId (.bike b) .reported 1 card s.now],
                         serial := (s.flt.serial + 1) % 65536 } ∧
    s.FaultTaken t (newFault s.nextFaultId (.bike b) .reported 1 card s.now) 0 := by
  have id : u.nextFaultId = s.nextFaultId := by rw [State.nextFaultId, State.nextFaultId, State.node, before.sup, flt]; rfl
  have makes : u.memberReport b card =
      ((u.setLog (s.flt.log ++ [newFault s.nextFaultId (.bike b) .reported 1 card s.now])).useFaultSerial).faultEffects
        (newFault s.nextFaultId (.bike b) .reported 1 card s.now) 0 := by
    rw [← now, ← id, ← flt]
    refine State.reportFault_fresh (fun e he => Bool.eq_false_iff.mpr fun found => new e (flt ▸ he) ?_)
      (roomForFault_room (by rw [flt]; exact room))
    obtain ⟨live, subject, kind⟩ := (e.matches_iff _ _).mp found
    exact ⟨subject, kind, live⟩
  rw [makes] at after shown log
  refine ⟨log.trans ?_, State.faultEffects_taken rfl _ (before.logged ⟨rfl⟩) (docks.logged ⟨rfl⟩) after shown⟩
  simp [State.setLog, State.useFaultSerial, nextSerial, flt]

end

/-- A quarantine leaves every recorded bike and every return window. -/
theorem State.setQuarantine_docks (s : State) (b : Bike) (i : Ident) (v n : Nat) :
    ((s.setQuarantine b i v).dock n).bike = (s.dock n).bike ∧ ((s.setQuarantine b i v).dock n).window = (s.dock n).window := by
  by_cases releases : (s.dock n).releasesToMember b
  · have base := (State.dock_setQuarantine_member releases i v).1
    rw [Dock.quarantineAbandoned_eq] at base
    obtain ⟨-, bike, -, -, -, -, window, -⟩ := Dock.fields_of_base base
    exact ⟨bike, window⟩
  · obtain ⟨-, bike, -, -, -, -, window, -⟩ := Dock.fields_of_base (State.dock_setQuarantine_other releases i v)
    exact ⟨bike, window⟩

/-- The docks after a member report: every bike and every window is as it was. -/
theorem State.memberReport_docks (s : State) (b : Bike) (card : Option Card) (n : Nat) :
    ((s.memberReport b card).dock n).bike = (s.dock n).bike ∧ ((s.memberReport b card).dock n).window = (s.dock n).window := by
  have effects {u : State} (logged : s.Logged u) (e : FaultEntry) (old : Nat) (subject : e.subject = .bike b) :
      ((u.faultEffects e old).dock n).bike = (s.dock n).bike ∧ ((u.faultEffects e old).dock n).window = (s.dock n).window := by
    obtain mild | high := Nat.lt_or_ge e.severity 2
    · rw [State.faultEffects_mild subject old mild, logged.dock]
      exact ⟨rfl, rfl⟩
    · rw [State.dock_congr (State.faultEffects_du subject old high), ← logged.dock]
      exact u.setQuarantine_docks b e.id e.severity n
  unfold State.memberReport
  obtain new | ⟨before, e, rest, listed, same, first⟩ := FaultEntry.new_or_listed s.flt.log (.bike b) .reported
  · cases room : roomForFault s.flt.log with
    | none =>
      rw [State.reportFault_refused new room]
      exact ⟨rfl, rfl⟩
    | some log =>
      rw [State.reportFault_fresh new room]
      exact effects ⟨rfl⟩ _ _ rfl
  · rw [State.reportFault_merged listed same first]
    exact effects ⟨rfl⟩ _ _ ((e.matches_iff _ _).mp same).2.1

/-! ### The fault button (R53) -/

/-- The dock with its return window taken for a report. -/
def Dock.windowTaken (k : Dock) : Dock := { k with window := k.window.map fun w => { w with taken := true } }

theorem State.pressButton_window {s : State} {d : Nat} {w : ReturnWindow} {x : DockedBike} (window : (s.dock d).window = some w)
    (bike : (s.dock d).bike = some x) (untaken : w.taken = false) :
    s.pressButton d = (s.memberReport x.bike w.card).updateDock d Dock.windowTaken := by
  rw [State.pressButton, window, bike]
  dsimp only
  rw [untaken]
  rfl

theorem State.pressButton_taken {s : State} {d : Nat} {w : ReturnWindow} (window : (s.dock d).window = some w)
    (taken : w.taken = true) : s.pressButton d = s := by
  rw [State.pressButton, window]
  cases (s.dock d).bike with
  | none => rfl
  | some x => exact if_pos taken

theorem State.pressButton_holding {s : State} {d : Nat} {x : DockedBike} (window : (s.dock d).window = none)
    (bike : (s.dock d).bike = some x) (holding : (s.dock d).state = .holding) : s.pressButton d = s.memberReport x.bike none := by
  rw [State.pressButton, window, bike]
  exact if_pos holding

theorem State.pressButton_other {s : State} {d : Nat} (window : (s.dock d).window = none) (other : (s.dock d).state ≠ .holding) :
    s.pressButton d = s := by
  rw [State.pressButton, window]
  cases (s.dock d).bike with
  | none => rfl
  | some x => exact if_neg other

/-- A dock changed in its window alone reads as it did. -/
theorem State.Reads.updateDock (s : State) (n : Nat) {f : Dock → Dock} (state : (f (s.dock n)).state = (s.dock n).state)
    (bike : (f (s.dock n)).bike = (s.dock n).bike) (member : (f (s.dock n)).forMember = (s.dock n).forMember) :
    s.Reads (s.updateDock n f) :=
  ⟨(State.Alike.refl s).updateDock n (by rw [member]; exact fun e => e), (congrArg State.bu (s.updateDock_unseen n f state bike) :),
    by simp, by simp, by simp⟩

theorem State.SameShown.windowTaken (s : State) {d : Nat} (inside : 1 ≤ d ∧ d ≤ 24) : s.SameShown (s.updateDock d Dock.windowTaken) := by
  have fields := Dock.fields_of_base (s.base_updateDock_self Dock.windowTaken inside)
  have lamp := s.lampSlot_updateDock Dock.windowTaken inside
  refine ⟨⟨by simp, by simp, fun n => ?_⟩, fun n => ?_⟩
  · by_cases same : n = d
    · subst same
      exact ⟨fields.1, fields.2.2.2.1, fields.2.1, fields.2.2.2.2.1⟩
    · rw [s.dock_updateDock_ne _ _ _ same]
      exact ⟨rfl, rfl, rfl, rfl⟩
  · by_cases same : n = d
    · subst same
      obtain ⟨-, -, mark, -, -, refusal, -, -, -, -, -, -, transient, lock⟩ := fields
      exact ⟨mark, lock, refusal, transient, lamp⟩
    · rw [s.dock_updateDock_ne _ _ _ same]
      exact ⟨rfl, rfl, rfl, rfl, fun _ => rfl⟩

/-- A post's answer leaves what a report reads. -/
theorem State.Reads.postHeard (s : State) (d : Nat) : s.Reads (s.postHeard d) := ⟨.postHeard s d, rfl, rfl, rfl, rfl⟩

theorem State.SameDocks.postHeard (s : State) (d : Nat) : s.SameDocks (s.postHeard d) := by
  refine ⟨(s.postHeard_frame d).1, (s.postHeard_frame d).2.1, fun n => ?_⟩
  by_cases same : n = d
  · subst same
    by_cases inside : 1 ≤ n ∧ n ≤ 24
    · rw [s.postHeard_dock inside]
      exact ⟨rfl, rfl, rfl, rfl⟩
    · rw [State.dock_outside _ _ inside, State.dock_outside _ _ inside]
      exact ⟨rfl, rfl, rfl, rfl⟩
  · rw [s.postHeard_dock_ne same]
    exact ⟨rfl, rfl, rfl, rfl⟩

end Sys2Proof.Machine
end

section
/-!
PROOFS. The statement on the dock's timers and its fault button.
-/
namespace Sys2Proof.Machine
open Sys2Proof

theorem Dock.rested_frame (k : Dock) : k.rested.state = k.state ∧ k.rested.bike = k.bike ∧ k.rested.transient = none := by
  simp [Dock.rested]

/-- A dock whose change no count sees: what is left of the state. -/
theorem State.updateDock_quiet (s : State) (d : Nat) (f : Dock → Dock) (deadline : Millis)
    (hf : ∀ k, (f k).state = k.state ∧ (f k).bike = k.bike) :
    (s.reached deadline).updateDock d f =
      { s with timebase := max s.timebase deadline, du := ((s.reached deadline).updateDock d f).du } := by
  conv_lhs => rw [State.updateDock_unseen _ d f (hf _).1 (hf _).2]
  rfl

theorem Dock.faulted_timedOut (k : Dock) (t : Millis) : (k.timedOut t).faulted.state = .faulted ∧
    (k.timedOut t).faulted.release = none ∧ (k.timedOut t).faulted.lockSlot = some .lock ∧
    (k.timedOut t).faulted.faultMark = true ∧ (k.timedOut t).faulted.transient = none ∧ (k.timedOut t).faulted.bike = k.bike := by
  obtain ⟨state, release, lock, bike, -⟩ := k.timedOut_frame t
  rw [Dock.faulted_of_holding state, Dock.enter_eq]
  simp [Dock.marked, state, release, lock, bike]

/-- A member report merged: the count, the cards and the severity they warrant (R112). -/
theorem FaultEntry.merged_member (e : FaultEntry) (card : Option Card) (now : Time) : e.merged none card now =
    let cards := e.cards ++ card.toList.filter fun c => decide (c ∉ e.cards ∧ e.cards.length < 3)
    { e with count := min 15 (e.count + 1), last := now, cards := cards, severity := max e.severity (min 3 cards.length) } := by
  rw [FaultEntry.merged, addReporter_eq]

/-- A press of the button leaves every recorded bike. -/
theorem State.pressButton_kept (s : State) {d : Nat} (inside : 1 ≤ d ∧ d ≤ 24) :
    (∀ n, ((s.pressButton d).dock n).bike = (s.dock n).bike) ∧ (s.pressButton d).clk = s.clk ∧ (s.pressButton d).hu = s.hu ∧
    (s.pressButton d).fu = s.fu ∧ (s.pressButton d).sup = s.sup ∧ (s.pressButton d).timebase = s.timebase ∧
    (s.pressButton d).draws = s.draws ∧ (s.pressButton d).pending = s.pending := by
  unfold State.pressButton
  split
  · next w x _ _ =>
    split
    · simp
    · refine ⟨fun n => ?_, by simp⟩
      exact ((State.SameShown.windowTaken (s.memberReport x.bike w.card) inside).docks n).2.2.1.trans
        (s.memberReport_docks x.bike w.card n).1
  · next x _ _ =>
    split
    · exact ⟨fun n => (s.memberReport_docks x.bike none n).1, by simp⟩
    · simp
  · simp

/-- Settles O40: each timer by the dock it leaves, the release timeout also by what it gives up, and the button by its report. -/
theorem dockTimersAndButtonsAct : Obligations.DockTimersAndButtonsAct := by
  intro s d runs low high k kept
  have inside : 1 ≤ d ∧ d ≤ 24 := ⟨low, high⟩
  refine ⟨fun r releasing held => ?_, fun w held => ?_, fun w held => ?_, fun configured polled => ?_⟩
  · have alike : s.Alike (s.reached (r.start + 20000)) := .of_frame (by simp)
    have givenUp := alike.releaseTimesOut (by simp) (by simp) inside releasing
    obtain ⟨clk, hu, fu, sup, timebase, draws, pending⟩ := (s.reached (r.start + 20000)).releaseTimesOut_frame d
    have list := (State.releaseTimesOut_bikes inside : ((s.reached (r.start + 20000)).releaseTimesOut d).du.bikes = _)
    refine ⟨_, exec_releaseTimeout runs releasing held, ?_⟩
    obtain few | many := Nat.lt_or_ge k.untaken 2
    · obtain ⟨base, lamp, others⟩ := State.releaseTimesOut_counted_dock (s := s.reached (r.start + 20000)) inside few
      obtain ⟨state, bike, mark, release, untaken, -, -, -, -, -, -, -, transient, lock⟩ := Dock.fields_of_base base
      obtain ⟨state', release', lock', bike', -, mark', transient', -⟩ := k.timedOut_frame (s.reached (r.start + 20000)).timebase
      refine ⟨⟨bike.trans bike', fun n hn => congrArg _ (others n hn), clk, hu, fu, sup, draws, pending⟩, timebase,
        release.trans release', lock.trans lock', givenUp, others, list, fun _ => ⟨state.trans state', untaken, mark.trans mark',
          (transient.trans transient').trans (by rw [timebase]), lamp, fun member => ?_⟩, fun h => absurd h (Nat.not_le.mpr few)⟩
      rw [timebase]
      exact State.releaseTimesOut_rest few held member
    · obtain ⟨base, others, log⟩ := State.releaseTimesOut_jammed_dock (s := s.reached (r.start + 20000)) inside many
      obtain ⟨state, bike, mark, release, untaken, -, -, -, -, -, -, -, transient, lock⟩ := Dock.fields_of_base base
      obtain ⟨state', release', lock', mark', transient', bike'⟩ := k.faulted_timedOut (s.reached (r.start + 20000)).timebase
      refine ⟨⟨bike.trans bike', fun n hn => congrArg _ (others n hn), clk, hu, fu, sup, draws, pending⟩, timebase,
        release.trans release', lock.trans lock', givenUp, others, list, fun h => absurd many (Nat.not_le.mpr h),
        fun _ => ⟨state.trans state', untaken, mark.trans mark', transient.trans transient', fun room => ?_⟩⟩
      rw [log]
      exact State.report_entry (.dock d) .dockJam 2 (by simpa using room)
  · refine ⟨_, exec_returnWindowExpiry runs held, ?_⟩
    have fields := Dock.fields_of_base ((s.reached (w.start + 60000)).base_updateDock_self Dock.unwindowed inside)
    have others (n : Nat) (hn : n ≠ d) := (s.reached (w.start + 60000)).dock_updateDock_ne d n Dock.unwindowed hn
    exact ⟨⟨fields.2.1, fun n hn => congrArg _ (others n hn), by simp⟩, s.updateDock_quiet d _ _ fun k => ⟨rfl, rfl⟩,
      fields.2.2.2.2.2.2.1, fields.1, others⟩
  · refine ⟨_, exec_lampTransientEnd runs held, ?_⟩
    obtain ⟨state, bike, -, -, -, -, -, -, -, -, -, -, transient, -⟩ :=
      Dock.fields_of_base ((s.reached (w.start + 3000)).base_updateDock_self Dock.rested inside)
    obtain ⟨state', bike', transient'⟩ := k.rested_frame
    have others (n : Nat) (hn : n ≠ d) := (s.reached (w.start + 3000)).dock_updateDock_ne d n Dock.rested hn
    refine ⟨⟨bike.trans bike', fun n hn => congrArg _ (others n hn), by simp⟩,
      s.updateDock_quiet d _ _ fun k => ⟨k.rested_frame.1, k.rested_frame.2.1⟩,
      transient.trans transient', state.trans state', fun p resting => ?_, others⟩
    rw [State.dock_updateDock _ _ _ inside] at resting ⊢
    exact Dock.refresh_shows rfl resting
  · have heard := s.postHeard_dock inside
    have run : exec (.button d) s = .next ((s.postHeard d).pressButton d) :=
      congrArg Host.Outcome.next (State.takeAnswer_event runs ⟨low, configured⟩ polled _ _)
    have window : ((s.postHeard d).dock d).window = k.window := by rw [heard]; rfl
    have docked : ((s.postHeard d).dock d).bike = k.bike := by rw [heard]; rfl
    have state : ((s.postHeard d).dock d).state = k.state := by rw [heard]; rfl
    obtain ⟨bikes, clk, hu, fu, sup, timebase, draws, pending⟩ := (s.postHeard d).pressButton_kept inside
    have bike (n : Nat) := (bikes n).trans ((State.SameDocks.postHeard s d).docks n).2.2.1
    refine ⟨_, run, ⟨bike d, fun n _ => bike n, clk, hu, fu, sup, draws, pending⟩, timebase,
      fun w x held recorded untaken => ?_, fun w held taken => ?_, fun x none_held recorded holding => ?_, fun none_held other => ?_⟩
    · rw [State.pressButton_window (window.trans held) (docked.trans recorded) untaken]
      have after : ((s.postHeard d).memberReport x.bike w.card).Reads
          (((s.postHeard d).memberReport x.bike w.card).updateDock d Dock.windowTaken) := .updateDock _ d rfl rfl rfl
      have left := Dock.fields_of_base
        (State.base_updateDock_self ((s.postHeard d).memberReport x.bike w.card) Dock.windowTaken inside)
      refine ⟨?_, fun before e rest listed same first => ?_, fun new room => ?_⟩
      · refine left.2.2.2.2.2.2.1.trans ?_
        rw [Dock.windowTaken, (State.memberReport_docks _ _ _ _).2, window, held]
        rfl
      · have reported := State.memberReport_merged (.postHeard s d) (.postHeard s d) rfl rfl after (.windowTaken _ inside) (by simp)
          listed same first
        rw [FaultEntry.merged_member] at reported
        exact reported
      · exact State.memberReport_fresh (.postHeard s d) (.postHeard s d) rfl rfl after (.windowTaken _ inside) (by simp) new room
    · rw [State.pressButton_taken (window.trans held) taken]
      rfl
    · rw [State.pressButton_holding (window.trans none_held) (docked.trans recorded) (state.trans holding)]
      refine ⟨fun before e rest listed same first => ?_, fun new room => ?_⟩
      · have reported := State.memberReport_merged (b := x.bike) (card := none) (.postHeard s d) (.postHeard s d) rfl rfl (.refl _)
          (.of_du rfl) rfl listed same first
        rw [FaultEntry.merged_member] at reported
        exact reported
      · exact State.memberReport_fresh (.postHeard s d) (.postHeard s d) rfl rfl (.refl _) (.of_du rfl) rfl new room
    · rw [State.pressButton_other (window.trans none_held) (by rw [state]; exact other)]
      rfl

end Sys2Proof.Machine
end

section
/-!
PROOFS. Releases completed (R48, R72 to R74, R131): the hire a member opens and the bike a van collects.
-/
namespace Sys2Proof.Machine
open Sys2Proof

/-! ### A hire opened (R72 to R74) -/

/-- An out or an in counted in the current bin (R125). -/
theorem State.countActivity_ring {s : State} {bin : Bin} {rest : List Bin} (ring : s.bu.ring = bin :: rest) (out : Bool) :
    (s.countActivity out).bu.ring =
      (if out then { bin with outs := saturate 65535 bin.outs } else { bin with ins := saturate 65535 bin.ins }) :: rest := by
  rw [State.countActivity, ring]
  exact (State.recomputeNeed_bu _).2.2.2

/-- The owned record an open makes. -/
def State.openedFields (s : State) (d : Nat) (b : Bike) (c : CardRecord) : OwnedFields :=
  { serial := s.hu.hireSerial, card := c.card, cls := c.cls, bike := b, dock := d, start := s.now, band := s.clk.band,
    terms := s.fu.bandTerms s.clk.band, classTerms := (s.fu.classTerms c.cls).snapshot, stepped := false }

/-- The slot an open takes for its record. -/
def State.openedSlot (s : State) : Nat := (lowestFree 48 (s.hu.owned.map (·.slot))).getD 0

theorem State.openHire_spec (s : State) (d : Nat) (b : Bike) (c : CardRecord) :
    s.openHire d b c = { s with bu := (s.openHire d b c).bu, hu := (s.openHire d b c).hu, slc := (s.openHire d b c).slc,
                                jnl := (s.openHire d b c).jnl } ∧
    (s.openHire d b c).hu = { s.hu with
      hireSerial := (s.hu.hireSerial + 1) % 65536,
      owned := s.hu.owned ++ [{ fields := s.openedFields d b c, durable := false, slot := s.openedSlot }] } ∧
    s.jnl.Marked (s.openHire d b c).jnl [.counters, .owned s.openedSlot] ∧
    (s.openHire d b c).slc = (s.flood (.hireOpen { node := s.node, serial := s.hu.hireSerial } c.card c.cls b s.now d)).slc ∧
    ∀ bin rest, s.bu.ring = bin :: rest →
      (s.openHire d b c).bu.ring = { bin with outs := min 65535 (bin.outs + 1) } :: rest := by
  refine ⟨?_, ?_, ?_, ?_, fun bin rest ring => ?_⟩
  · apply State.eq_of_blocks <;> simp
  · simp [State.openHire, State.openedFields, State.openedSlot, nextSerial]
  · have marked := ((s.jnl.marked_mark .counters).trans (Jnl.marked_mark _ (.owned s.openedSlot))).trans
      (Jnl.marked_mark _ .counters)
    refine Jnl.Marked.of_mem (l := [.counters] ++ [.owned s.openedSlot] ++ [.counters]) ?_ (fun x => by simp; tauto)
    simpa [State.openHire, State.flood, State.openedSlot] using marked
  · have counted : (s.openHire d b c).slc = _ := (State.countActivity_frame _ true).2.1
    exact counted.trans (State.originate_slc_congr _ 0 rfl rfl rfl)
  · have counted : (s.openHire d b c).bu.ring = _ := State.countActivity_ring (bin := bin) (rest := rest) (by simpa using ring) true
    exact counted

/-! ### A release completed (R48) -/

section
variable {s : State} {d : Nat} {x : DockedBike} (bike : (s.dock d).bike = some x)
include bike

theorem State.completeRelease_member {c : CardRecord} {start : Millis}
    (held : (s.dock d).release = some { purpose := .member, card := some c, start := start }) :
    s.completeRelease d = (s.updateDock d Dock.taken).openHire d x.bike c := by
  rw [State.completeRelease, held, bike]
  rfl

theorem State.completeRelease_van {card : Option CardRecord} {start : Millis}
    (held : (s.dock d).release = some { purpose := .van, card := card, start := start }) :
    s.completeRelease d = (s.updateDock d Dock.taken).takeRecorded d x.bike := by
  rw [State.completeRelease, held, bike]
  rfl

end

theorem Dock.taken_frame (k : Dock) : k.taken.state = .empty ∧ k.taken.bike = none ∧ k.taken.release = none ∧ k.taken.untaken = 0 ∧
    k.taken.window = none ∧ k.taken.lockSlot = some .lock := by
  simp [Dock.taken]

/-- What the completion of a release leaves of its dock. -/
theorem State.completeRelease_taken (s : State) {d : Nat} (inside : 1 ≤ d ∧ d ≤ 24) : ((s.completeRelease d).dock d).state = .empty ∧
    ((s.completeRelease d).dock d).bike = none ∧ ((s.completeRelease d).dock d).release = none ∧
    ((s.completeRelease d).dock d).untaken = 0 ∧ ((s.completeRelease d).dock d).window = none ∧
    ((s.completeRelease d).dock d).lockSlot = some .lock := by
  rw [State.dock_congr (s.completeRelease_du d)]
  obtain ⟨state, bike, -, release, untaken, -, window, -, -, -, -, -, -, lock⟩ :=
    Dock.fields_of_base (s.base_updateDock_self Dock.taken inside)
  obtain ⟨state', bike', release', untaken', window', lock'⟩ := (s.dock d).taken_frame
  exact ⟨state.trans state', bike.trans bike', release.trans release', untaken.trans untaken', window.trans window', lock.trans lock'⟩

/-! ### The bike a van collects (R131) -/

/-- The session with a take recorded. -/
def Session.recorded (ss : Session) (f : TakeInFlight) (b : Bike) (left : List TakeInFlight) (now : Millis) : Session :=
  { ss with
    collected := if b ∈ ss.collected then ss.collected else ss.collected ++ [b],
    allowance := if f.counted then ss.allowance - 1 else ss.allowance,
    inFlight := left, idleStart := now }

/-- The state with a take recorded, before the van is told. -/
def State.takeNoted (s : State) (ss : Session) (b : Bike) : State :=
  if s.du.quarantined b then (s.setSession ss).collectFaults b else s.setSession ss

theorem State.takeRecorded_known {s : State} {ss : Session} {before rest : List TakeInFlight} {f : TakeInFlight} {d : Nat}
    (held : s.bu.session = some ss) (listed : ss.inFlight = before ++ f :: rest) (here : f.dock = d)
    (first : ∀ y ∈ before, y.dock ≠ d) (b : Bike) : s.takeRecorded d b =
      ((s.takeNoted (ss.recorded f b (before ++ rest) s.timebase) b).originate
        (.takeDone f.request d (some b) (!f.counted)) ss.van).endIfDone := by
  have found : (ss.inFlight.find? fun t => decide (t.dock = d)) = some f := by
    rw [listed]
    exact find?_middle _ _ _ _ (fun y hy => decide_eq_false (first y hy)) (decide_eq_true here)
  rw [State.takeRecorded, held]
  dsimp only
  rw [found, listed, eraseP_dock_middle here first]
  rfl

@[simp] theorem State.takeNoted_frame (s : State) (ss : Session) (b : Bike) :
    (s.takeNoted ss b).clk = s.clk ∧ (s.takeNoted ss b).slc = s.slc ∧ (s.takeNoted ss b).du = s.du ∧ (s.takeNoted ss b).hu = s.hu ∧
    (s.takeNoted ss b).fu = s.fu ∧ (s.takeNoted ss b).sq = s.sq ∧ (s.takeNoted ss b).jnl = s.jnl ∧ (s.takeNoted ss b).kl = s.kl ∧
    (s.takeNoted ss b).sup = s.sup ∧ (s.takeNoted ss b).timebase = s.timebase ∧ (s.takeNoted ss b).draws = s.draws ∧
    (s.takeNoted ss b).pending = s.pending ∧ (s.takeNoted ss b).bu = { s.bu with session := some ss } := by
  unfold State.takeNoted
  split
  · and_intros <;> rfl
  · and_intros <;> rfl

/-- The OPEN entries of a quarantined bike are COLLECTED with it (R117). -/
theorem State.takeNoted_flt (s : State) (ss : Session) (b : Bike) : (s.takeNoted ss b).flt = { s.flt with
    log := s.flt.log.map fun e =>
      if s.du.quarantined b = true ∧ e.subject = .bike b ∧ e.state = .opened then { e with state := .collected } else e } := by
  unfold State.takeNoted
  split
  · next q => simp [State.collectFaults, State.setSession, q]
  · next q => simp [State.setSession, q]

/-- A bike recorded for the van: the session, the fault log, the van told, and the end of a session in CLOSING. -/
theorem State.takeRecorded_spec {s : State} {ss : Session} {before rest : List TakeInFlight} {f : TakeInFlight} {d : Nat}
    (held : s.bu.session = some ss) (listed : ss.inFlight = before ++ f :: rest) (here : f.dock = d)
    (first : ∀ y ∈ before, y.dock ≠ d) (b : Bike) :
    let t := s.takeRecorded d b
    let done := ss.recorded f b (before ++ rest) s.timebase
    let told := s.originate (.takeDone f.request d (some b) (!f.counted)) ss.van
    let last := ss.closing = true ∧ before ++ rest = []
    t = { s with bu := t.bu, flt := t.flt, slc := t.slc, jnl := t.jnl, sq := t.sq, kl := t.kl } ∧ t.bu.ring = s.bu.ring ∧
    t.flt = (s.takeNoted done b).flt ∧
    (¬ last → t.bu.session = some done ∧ t.bu.claims = s.bu.claims ∧ t.slc = told.slc ∧ t.sq = s.sq ∧ t.kl = s.kl ∧
      s.jnl.Marked t.jnl [.counters]) ∧
    (last → t.bu.session = none ∧ t.bu.summary = some { van := ss.van, body := done.summary } ∧
      t.bu.claims = s.bu.claims.filter (fun c => decide (c.id.node ≠ ss.van)) ∧
      t.slc = (told.originate (.sessionSummary done.summary) ss.van).slc) := by
  intro t done told last
  have known : t = _ := State.takeRecorded_known held listed here first b
  have slc : ((s.takeNoted done b).originate (.takeDone f.request d (some b) (!f.counted)) ss.van).slc = told.slc :=
    State.originate_slc_congr _ _ (by simp) (by simp) (by simp)
  have frame : t = { s with bu := t.bu, flt := t.flt, slc := t.slc, jnl := t.jnl, sq := t.sq, kl := t.kl } := by
    apply State.eq_of_blocks <;> simp [known]
  generalize hv : (s.takeNoted done b).originate (.takeDone f.request d (some b) (!f.counted)) ss.van = v at known slc
  have session : v.bu.session = some done := by simp [← hv]
  by_cases ends : last
  · have ended : t = v.endSession done := known.trans (State.endIfDone_done session ends.1 ends.2)
    obtain ⟨rest', none, kept, ring, left, -⟩ := v.endSession_spec done
    rw [ended]
    refine ⟨ended ▸ frame, ring.trans (by simp [← hv]), ?_, fun h => absurd ends h, fun _ => ⟨none, kept, ?_, ?_⟩⟩
    · exact (congrArg State.flt rest').trans (by simp [← hv])
    · rw [left]
      simp only [← hv, State.originate_bu, State.takeNoted_frame]
      rfl
    · exact (congrArg State.slc rest').trans (State.originate_slc_congr _ _ slc (by simp [← hv, told]) (by simp [← hv, told]))
  · have same : t = v := known.trans (State.endIfDone_not fun x hx => by
      cases session.symm.trans hx
      by_contra closed
      simp only [not_or, not_not, Bool.not_eq_false] at closed
      exact ends closed)
    rw [same]
    refine ⟨same ▸ frame, by simp [← hv], by simp [← hv], fun _ => ⟨session, by simp [← hv], slc, by simp [← hv], by simp [← hv], ?_⟩,
      fun h => absurd h ends⟩
    rw [← hv, State.originate_jnl]
    simpa using s.jnl.marked_mark .counters

end Sys2Proof.Machine
end

section
/-!
PROOFS. Forced removals (R50), card taps (R46), and the statement on bikes that members and vans take.
-/
namespace Sys2Proof.Machine
open Sys2Proof

/-! ### Forced removals (R50) -/

/-- A bike whose part was set has the entry with the part, first of its entries. -/
theorem State.setBikePart_first (s : State) (b : Bike) {f : BikeStatus → BikeStatus} :
    ∃ before x rest, (s.setBikePart b f).du.bikes = before ++ f x :: rest ∧ x.bike = b ∧ ∀ y ∈ before, y.bike ≠ b := by
  cases found : s.du.bikes.find? fun e => decide (e.bike = b) with
  | none =>
    have new : ∀ x ∈ s.du.bikes, x.bike ≠ b := fun x hx => by simpa using List.find?_eq_none.mp found x hx
    exact ⟨roomForBike s.du.bikes, _, [], (State.setBikePart_new new).1, rfl, fun y hy => new y (mem_roomForBike hy)⟩
  | some x =>
    obtain ⟨same, before, rest, listed, first⟩ := List.find?_eq_some_iff_append.mp found
    have bike : x.bike = b := by simpa using same
    have others : ∀ y ∈ before, y.bike ≠ b := fun y hy => by simpa using first y hy
    exact ⟨before, x, rest, (State.setBikePart_listed listed bike others).1, bike, others⟩

/-- A report of severity 3 on a bike quarantines it (R113, R114). -/
theorem State.report_bike_severe (s : State) (b : Bike) (kind : FaultKind) :
    ∃ u i v, s.Logged u ∧ 3 ≤ v ∧ (s.report (.bike b) kind 3).du = (u.setQuarantine b i v).du := by
  unfold State.report
  obtain new | ⟨before, e, rest, listed, same, first⟩ := FaultEntry.new_or_listed s.flt.log (.bike b) kind
  · cases room : roomForFault s.flt.log with
    | none =>
      rw [State.reportFault_refused new room]
      refine ⟨State.useFaultSerial (s.setFlt { s.flt with drops := saturate 65535 s.flt.drops }), s.nextFaultId, 3, ⟨rfl⟩, le_rfl, ?_⟩
      rfl
    | some log =>
      rw [State.reportFault_fresh new room]
      exact ⟨_, _, _, ⟨rfl⟩, le_rfl, State.faultEffects_du (b := b) rfl _ (by exact Nat.le_succ 2)⟩
  · rw [State.reportFault_merged listed same first]
    have severe : 3 ≤ (e.merged (some 3) none s.now).severity := le_max_right _ _
    exact ⟨_, _, _, ⟨rfl⟩, severe, State.faultEffects_du (e := e.merged (some 3) none s.now)
      ((e.matches_iff _ _).mp same).2.1 _ (Nat.le_of_succ_le severe)⟩

theorem Dock.base_robbed (k : Dock) : k.robbed.base = k.base.robbed := by
  unfold Dock.robbed
  rw [show k.base.state = k.state from rfl]
  dsimp only
  split
  · rw [Dock.base_enter]
    rfl
  · rfl

/-- A forced removal: the bike quarantined and missing, and its dock robbed. -/
theorem State.forcedRemoval_spec {s : State} {d : Nat} (inside : 1 ≤ d ∧ d ≤ 24) (still : (s.dock d).state ≠ .releasing) (b : Bike) :
    ((s.forcedRemoval d b).dock d).base = (s.dock d).robbed.base ∧
    (∀ n, n ≠ d → ((s.forcedRemoval d b).dock n).bike = (s.dock n).bike) ∧
    (∃ e ∈ (s.forcedRemoval d b).du.bikes, e.bike = b ∧ e.missing = some { owner := s.node, since := s.now } ∧
      ∃ q, e.quarantine = some q ∧ 3 ≤ q.severity) ∧
    (s.forcedRemoval d b).flt = (s.report (.bike b) .forcedRemoval 3).flt ∧
    (s.forcedRemoval d b).hu = s.hu ∧ (s.forcedRemoval d b).fu = s.fu ∧ (s.forcedRemoval d b).clk = s.clk ∧
    (s.forcedRemoval d b).sup = s.sup ∧ (s.forcedRemoval d b).timebase = s.timebase ∧ (s.forcedRemoval d b).draws = s.draws ∧
    (s.forcedRemoval d b).pending = s.pending := by
  obtain ⟨u, i, v, logged, severe, du⟩ := s.report_bike_severe b .forcedRemoval
  have reported (n : Nat) : (s.report (.bike b) .forcedRemoval 3).dock n = (u.setQuarantine b i v).dock n := State.dock_congr du n
  have base : (((s.report (.bike b) .forcedRemoval 3).setMissing b s.node s.now).dock d).base = (s.dock d).base := by
    rw [State.base_setMissing, reported, State.dock_setQuarantine_other, logged.dock]
    rintro ⟨releasing, -⟩
    rw [logged.dock] at releasing
    exact still releasing
  obtain ⟨before, x, rest, listed, bike, first⟩ :=
    u.setBikePart_first b (f := fun e => { e with quarantine := some { id := i, severity := v } })
  have quarantined : (s.report (.bike b) .forcedRemoval 3).du.bikes =
      before ++ { x with quarantine := some { id := i, severity := v } } :: rest := by
    rw [du, (u.setQuarantine_du b i v).1, listed]
  have missing := (State.setBikePart_listed (f := fun e => { e with missing := some { owner := s.node, since := s.now } })
    quarantined bike first).1
  rw [State.forcedRemoval_eq]
  refine ⟨?_, fun n hn => ?_, ⟨{ x with
    quarantine := some { id := i, severity := v }, missing := some { owner := s.node, since := s.now } }, ?_, bike, rfl,
    { id := i, severity := v }, rfl, severe⟩, by simp, by simp⟩
  · rw [State.base_updateDock_self _ _ inside, Dock.base_robbed, base, ← Dock.base_robbed]
  · rw [State.dock_updateDock_ne _ _ _ _ hn, (Dock.fields_of_base (State.base_setMissing _ _ _ _ _)).2.1, reported,
      (u.setQuarantine_docks b i v n).1, logged.dock]
  · rw [(State.updateDock_du _ _ _).1, State.setMissing, missing]
    simp

/-! ### Card taps (R46) -/

theorem Dock.forMember_congr {k l : Dock} (state : k.state = l.state) (release : k.release = l.release) :
    k.forMember = l.forMember := by
  rw [Dock.forMember, Dock.forMember, Dock.releasesFor, Dock.releasesFor, state, release]

/-- A post's answer leaves what the checkout decision reads. -/
theorem State.checkout_postHeard (s : State) (d n : Nat) (c : CardRecord) : (s.postHeard d).checkout n c = s.checkout n c := by
  have docks := (State.SameDocks.postHeard s d).docks
  have member (m : Nat) : ((s.postHeard d).dock m).forMember = (s.dock m).forMember :=
    Dock.forMember_congr (docks m).1 (docks m).2.1
  have releases : (s.postHeard d).du.memberReleases = s.du.memberReleases :=
    le_antisymm (Du.memberReleases_le fun m e => (member m).symm.trans e) (Du.memberReleases_le fun m e => (member m).trans e)
  have capacity : (s.postHeard d).atCapacity = s.atCapacity := by
    rw [State.atCapacity, State.atCapacity, releases]
    rfl
  have pending : (s.postHeard d).du.pendingFor c.card = s.du.pendingFor c.card := by
    rw [Du.pendingFor, Du.pendingFor, Du.docks_toList, Du.docks_toList, List.any_map, List.any_map]
    congr 1
    funext m
    obtain ⟨state, release, -⟩ := docks m
    simp only [State.dock] at state release
    simp [state, release]
  obtain ⟨state, -, bike, -⟩ := docks n
  have quarantined : (s.postHeard d).du.quarantined = s.du.quarantined := by
    funext b
    rw [Du.quarantined, (s.postHeard_frame d).1, Du.quarantined]
  unfold State.checkout
  rw [capacity, pending, state, bike, quarantined]
  rfl

end Sys2Proof.Machine
end

section
/-!
PROOFS. The statement on card taps and on bikes that leave.
-/
namespace Sys2Proof.Machine
open Sys2Proof

/-- The dock with a refusal stored and shown. -/
def Dock.refused (k : Dock) (r : Refused) (t : Millis) : Dock := Dock.show { k with lastRefusal := some r } .red t

/-- The dock with no refusal stored. -/
def Dock.granted (k : Dock) : Dock := { k with lastRefusal := none }

theorem State.tapCard_refused {s : State} {d : Nat} {c : CardRecord} {r : Refused} (h : s.checkout d c = some r) :
    s.tapCard d c = s.updateDock d fun k => k.refused r s.timebase := by
  rw [State.tapCard, h]
  rfl

theorem State.tapCard_granted {s : State} {d : Nat} {c : CardRecord} (h : s.checkout d c = none) :
    s.tapCard d c = (s.updateDock d Dock.granted).release d .member (some c) := by
  rw [State.tapCard, h]
  rfl

/-- A card refused: the dock stays as it is, but for the refusal stored and its lamp. -/
theorem State.tapCard_refused_spec {s : State} {d : Nat} (inside : 1 ≤ d ∧ d ≤ 24) {c : CardRecord} {r : Refused}
    (h : s.checkout d c = some r) : s.tapCard d c = { s with du := (s.tapCard d c).du } ∧
    (∀ n, n ≠ d → (s.tapCard d c).dock n = s.dock n) ∧
    ((s.tapCard d c).dock d).base = ((s.dock d).refused r s.timebase).base ∧ ((s.tapCard d c).dock d).lampSlot = some .red := by
  rw [State.tapCard_refused h]
  exact ⟨s.updateDock_unseen d _ rfl rfl, fun n hn => s.dock_updateDock_ne _ _ _ hn, s.base_updateDock_self _ inside,
    s.lampSlot_updateDock _ inside rfl⟩

/-- A card granted: the dock is released for the member. -/
theorem State.tapCard_granted_spec {s : State} {d : Nat} (inside : 1 ≤ d ∧ d ≤ 24) {c : CardRecord} (h : s.checkout d c = none) :
    s.tapCard d c = { s with du := (s.tapCard d c).du, bu := (s.tapCard d c).bu } ∧
    (∀ n, n ≠ d → (s.tapCard d c).dock n = s.dock n) ∧ ((s.tapCard d c).dock d).state = .releasing ∧
    ((s.tapCard d c).dock d).bike = (s.dock d).bike ∧
    ((s.tapCard d c).dock d).release = some { purpose := .member, card := some c, start := s.timebase } ∧
    ((s.tapCard d c).dock d).lastRefusal = none ∧ ((s.tapCard d c).dock d).transient = none ∧
    ((s.tapCard d c).dock d).lockSlot = some .unlock := by
  obtain ⟨state, bike, -, -, -, refusal, -⟩ := Dock.fields_of_base (s.base_updateDock_self Dock.granted inside)
  obtain ⟨state', bike', -, release', -, refusal', -, -, -, -, -, -, transient', lock'⟩ := Dock.fields_of_base
    ((s.updateDock d Dock.granted).base_release inside (state.trans (State.checkout_granted_dock h).1) .member (some c))
  rw [State.tapCard_granted h]
  refine ⟨?_, fun n hn => ?_, state', bike'.trans bike, release'.trans (by simp), refusal'.trans refusal, transient', lock'⟩
  · apply State.eq_of_blocks <;> simp
  · rw [State.release_other _ hn, s.dock_updateDock_ne _ _ _ hn]

/-! ### Releases completed, seen from before (R48) -/

/-- A member's release completed (R72 to R74). -/
theorem State.completeRelease_member_spec {s : State} {d : Nat} {x : DockedBike} {c : CardRecord} {start : Millis}
    (bike : (s.dock d).bike = some x)
    (held : (s.dock d).release = some { purpose := .member, card := some c, start := start }) :
    let t := s.completeRelease d
    t = { s with du := t.du, bu := t.bu, hu := t.hu, slc := t.slc, jnl := t.jnl } ∧
    t.hu = { s.hu with
      hireSerial := (s.hu.hireSerial + 1) % 65536,
      owned := s.hu.owned ++ [{ fields := s.openedFields d x.bike c, durable := false, slot := s.openedSlot }] } ∧
    s.jnl.Marked t.jnl [.counters, .owned s.openedSlot] ∧
    t.slc = (s.flood (.hireOpen { node := s.node, serial := s.hu.hireSerial } c.card c.cls x.bike s.now d)).slc ∧
    ∀ bin rest, s.bu.ring = bin :: rest → t.bu.ring = { bin with outs := min 65535 (bin.outs + 1) } :: rest := by
  intro t
  obtain ⟨-, hu, marked, slc, ring⟩ := (s.updateDock d Dock.taken).openHire_spec d x.bike c
  have opened : t = (s.updateDock d Dock.taken).openHire d x.bike c := State.completeRelease_member bike held
  have fields : (s.updateDock d Dock.taken).openedFields d x.bike c = s.openedFields d x.bike c := by
    simp [State.openedFields, State.now]
  have slot : (s.updateDock d Dock.taken).openedSlot = s.openedSlot := by simp [State.openedSlot]
  rw [fields, slot] at hu
  rw [slot] at marked
  refine ⟨?_, ?_, ?_, ?_, fun bin rest h => ?_⟩
  · apply State.eq_of_blocks <;> simp [opened]
  · rw [opened, hu]
    simp
  · rw [opened]
    simpa using marked
  · rw [opened, slc]
    simp only [State.node, State.now, State.updateDock_frame]
    exact State.originate_slc_congr _ 0 (by simp) (by simp) (by simp)
  · rw [opened]
    exact ring bin rest (by simpa using h)

/-- A van's release completed (R131). -/
theorem State.completeRelease_van_spec {s : State} {d : Nat} {x : DockedBike} {card : Option CardRecord} {start : Millis}
    (bike : (s.dock d).bike = some x) (held : (s.dock d).release = some { purpose := .van, card := card, start := start })
    {ss : Session} {before rest : List TakeInFlight} {f : TakeInFlight} (session : s.bu.session = some ss)
    (listed : ss.inFlight = before ++ f :: rest) (here : f.dock = d) (first : ∀ y ∈ before, y.dock ≠ d) :
    let t := s.completeRelease d
    let done := ss.recorded f x.bike (before ++ rest) s.timebase
    let told := s.originate (.takeDone f.request d (some x.bike) (!f.counted)) ss.van
    let last := ss.closing = true ∧ before ++ rest = []
    t = { s with du := t.du, bu := t.bu, flt := t.flt, slc := t.slc, jnl := t.jnl, sq := t.sq, kl := t.kl } ∧
    t.du.bikes = s.du.bikes ∧ t.bu.ring = s.bu.ring ∧
    t.flt = { s.flt with log := s.flt.log.map fun e =>
      if s.du.quarantined x.bike = true ∧ e.subject = .bike x.bike ∧ e.state = .opened then { e with state := .collected } else e } ∧
    (¬ last → t.bu.session = some done ∧ t.bu.claims = s.bu.claims ∧ t.slc = told.slc ∧ t.sq = s.sq ∧ t.kl = s.kl ∧
      s.jnl.Marked t.jnl [.counters]) ∧
    (last → t.bu.session = none ∧ t.bu.summary = some { van := ss.van, body := done.summary } ∧
      t.bu.claims = s.bu.claims.filter (fun c => decide (c.id.node ≠ ss.van)) ∧
      t.slc = (told.originate (.sessionSummary done.summary) ss.van).slc) := by
  intro t done told last
  obtain ⟨rest', ring, flt, going, ended⟩ :=
    State.takeRecorded_spec (s := s.updateDock d Dock.taken) (by simpa using session) listed here first x.bike
  have taken : t = (s.updateDock d Dock.taken).takeRecorded d x.bike := State.completeRelease_van bike held
  have quarantined : (s.updateDock d Dock.taken).du.quarantined = s.du.quarantined := by
    funext b
    simp [Du.quarantined]
  have slc : ((s.updateDock d Dock.taken).originate (.takeDone f.request d (some x.bike) (!f.counted)) ss.van).slc = told.slc :=
    State.originate_slc_congr _ _ (by simp) (by simp) (by simp)
  rw [State.takeNoted_flt, quarantined] at flt
  simp only [State.updateDock_frame, State.updateDock_bu] at ring flt going ended
  rw [taken]
  refine ⟨?_, by simp, ring, flt, fun more => ?_, fun finished => ?_⟩
  · apply State.eq_of_blocks <;> simp
  · obtain ⟨session, claims, sent, sq, kl, marked⟩ := going more
    exact ⟨session, claims, sent.trans slc, sq, kl, marked⟩
  · obtain ⟨session, summary, claims, sent⟩ := ended finished
    exact ⟨session, summary, claims, sent.trans (State.originate_slc_congr _ _ slc (by simp [told]) (by simp [told]))⟩

/-! ### BIKE_OUT (R48, R50) -/

theorem State.bikeLeaves_releasing {s : State} {d : Nat} (h : (s.dock d).state = .releasing) : s.bikeLeaves d = s.completeRelease d := by
  rw [State.bikeLeaves, h]

theorem State.bikeLeaves_recorded {s : State} {d : Nat} {x : DockedBike}
    (h : (s.dock d).state = .holding ∨ (s.dock d).state = .faulted ∨ (s.dock d).state = .disabled)
    (bike : (s.dock d).bike = some x) : s.bikeLeaves d = s.forcedRemoval d x.bike := by
  rw [State.bikeLeaves, bike]
  obtain h | h | h := h <;> rw [h]

theorem State.bikeLeaves_nothing {s : State} {d : Nat} (h : (s.dock d).state = .empty ∨ (s.dock d).state = .offline) :
    s.bikeLeaves d = s := by
  rw [State.bikeLeaves]
  obtain h | h := h <;> rw [h]

theorem Dock.robbed_frame (k : Dock) : k.robbed.state = (if k.state = .holding then .empty else k.state) ∧ k.robbed.bike = none ∧
    k.robbed.window = none ∧ k.robbed.lockSlot = some .lock := by
  unfold Dock.robbed
  dsimp only
  split <;> simp

/-- Settles O46: the tap and the BIKE_OUT, in the state the answer leaves, by the state of the dock. -/
theorem membersTakeBikes : Obligations.MembersTakeBikes := by
  intro s d runs low high count polled k others
  have inside : 1 ≤ d ∧ d ≤ 24 := ⟨low, high.trans count⟩
  have heard := s.postHeard_dock inside
  have untouched (n : Nat) (hn : n ≠ d) := s.postHeard_dock_ne hn
  have tapped {a : CardAnswer} {c : CardRecord} (h : cardRecordOf a = some c) :
      exec (.card d a) s = .next ((s.postHeard d).tapCard d c) := by
    show Host.Outcome.next (match cardRecordOf a with | some c => _ | none => _) = _
    rw [h]
    exact congrArg Host.Outcome.next (State.takeAnswer_event runs ⟨low, high⟩ polled _ _)
  have left : exec (.bikeOut d) s = .next ((s.postHeard d).bikeLeaves d) :=
    congrArg Host.Outcome.next (State.takeAnswer_event runs ⟨low, high⟩ polled _ _)
  refine ⟨fun a bad => ?_, fun a c r good refused => ?_, fun a c good granted => ?_,
    fun c x start releasing held bike => ?_, fun card x start ss before f rest releasing held bike session listed here first => ?_,
    fun x still bike => ?_, fun empty => ?_⟩
  · show Host.Outcome.next (match cardRecordOf a with | some c => _ | none => _) = _
    rw [bad]
    exact congrArg Host.Outcome.next (if_pos runs)
  · obtain ⟨frame, other, base, lamp⟩ :=
      State.tapCard_refused_spec inside ((s.checkout_postHeard d d c).trans refused)
    obtain ⟨state, bike, -, release, -, refusal, -, -, -, -, -, -, transient, -⟩ := Dock.fields_of_base base
    rw [heard] at state bike release refusal transient
    exact ⟨_, tapped good, frame, fun n hn => (other n hn).trans (untouched n hn), state, bike, release, refusal, transient, lamp⟩
  · obtain ⟨frame, other, state, bike, release, refusal, transient, lock⟩ :=
      State.tapCard_granted_spec inside ((s.checkout_postHeard d d c).trans granted)
    rw [heard] at bike
    exact ⟨_, tapped good, frame, fun n hn => (other n hn).trans (untouched n hn), state, bike, release, refusal, transient, lock⟩
  · have state' : ((s.postHeard d).dock d).state = .releasing := by rw [heard]; exact releasing
    have bike' : ((s.postHeard d).dock d).bike = some x := by rw [heard]; exact bike
    have held' : ((s.postHeard d).dock d).release = some { purpose := .member, card := some c, start := start } := by
      rw [heard]; exact held
    obtain ⟨frame, hu, marked, slc, ring⟩ := State.completeRelease_member_spec bike' held'
    obtain ⟨state, bike, release, untaken, window, lock⟩ := (s.postHeard d).completeRelease_taken inside
    rw [left, State.bikeLeaves_releasing state']
    exact ⟨_, s.openedSlot, rfl, frame, fun n hn => (State.completeRelease_dock_ne _ hn).trans (untouched n hn), state, bike, release,
      untaken, window, lock, hu, marked, slc.trans (State.originate_slc_congr _ 0 rfl rfl rfl), ring⟩
  · have state' : ((s.postHeard d).dock d).state = .releasing := by rw [heard]; exact releasing
    have bike' : ((s.postHeard d).dock d).bike = some x := by rw [heard]; exact bike
    have held' : ((s.postHeard d).dock d).release = some { purpose := .van, card := card, start := start } := by
      rw [heard]; exact held
    obtain ⟨frame, bikes, ring, flt, going, ended⟩ := State.completeRelease_van_spec bike' held' session listed here first
    obtain ⟨state, bike, release, untaken, window, lock⟩ := (s.postHeard d).completeRelease_taken inside
    have quarantined : (s.postHeard d).du.quarantined x.bike = s.du.quarantined x.bike := by
      rw [Du.quarantined, (s.postHeard_frame d).1, Du.quarantined]
    have slc : ((s.postHeard d).originate (.takeDone f.request d (some x.bike) (!f.counted)) ss.van).slc =
        (s.originate (.takeDone f.request d (some x.bike) (!f.counted)) ss.van).slc := State.originate_slc_congr _ _ rfl rfl rfl
    rw [quarantined] at flt
    rw [left, State.bikeLeaves_releasing state']
    refine ⟨_, rfl, frame, fun n hn => (State.completeRelease_dock_ne _ hn).trans (untouched n hn), state, bike, release,
      untaken, window, lock, bikes.trans (s.postHeard_frame d).1, ring, flt, fun more => ?_, fun finished => ?_⟩
    · obtain ⟨session, claims, sent, sq, kl, marked⟩ := going more
      exact ⟨session, claims, sent.trans slc, sq, kl, marked⟩
    · obtain ⟨session, summary, claims, sent⟩ := ended finished
      exact ⟨session, summary, claims, sent.trans (State.originate_slc_congr _ _ slc (by simp) (by simp))⟩
  · have state' : ((s.postHeard d).dock d).state = k.state := by rw [heard]; rfl
    have bike' : ((s.postHeard d).dock d).bike = some x := by rw [heard]; exact bike
    rw [left, State.bikeLeaves_recorded (by rw [state']; exact still) bike']
    obtain ⟨base, bikes, entry, log, rest⟩ := State.forcedRemoval_spec (s := s.postHeard d) inside (by
      rw [state']
      obtain e | e | e := still <;> rw [e] <;> nofun) x.bike
    obtain ⟨hu, fu, clk, sup, timebase, draws, pending⟩ := rest
    obtain ⟨state, bike, -, -, -, -, window, -, -, -, -, -, -, lock⟩ := Dock.fields_of_base base
    obtain ⟨state'', bike'', window'', lock''⟩ := ((s.postHeard d).dock d).robbed_frame
    rw [state'] at state''
    refine ⟨_, rfl, hu, fu, clk, sup, timebase, draws, pending, state.trans state'', bike.trans bike'', window.trans window'',
      lock.trans lock'', fun n hn => (bikes n hn).trans (by rw [untouched n hn]), entry, fun room => ?_⟩
    rw [log]
    exact State.report_entry (.bike x.bike) .forcedRemoval 3 room
  · rw [left, State.bikeLeaves_nothing (by rw [heard]; exact .inl empty)]
    exact ⟨_, rfl, rfl, untouched, heard⟩

end Sys2Proof.Machine
end

section
/-!
PROOFS. What an arrival does (R77 to R80, R85, R132): the hire it ends here, the delivery, the late close and the return.
-/
namespace Sys2Proof.Machine
open Sys2Proof

/-! ### The last entry of a list -/

section
variable {α : Type} {p : α → Bool} {before rest : List α} {a : α}

theorem findLast_middle (ha : p a = true) (h : ∀ x ∈ rest, p x = false) : findLast p (before ++ a :: rest) = some a := by
  have none_after : rest.filter p = [] := List.filter_eq_nil_iff.mpr fun x hx => by simp [h x hx]
  rw [findLast, List.filter_append, List.filter_cons_of_pos ha, none_after, List.getLast?_append]
  rfl

theorem updateLast_middle (f : α → α) (ha : p a = true) (h : ∀ x ∈ rest, p x = false) :
    updateLast p f (before ++ a :: rest) = before ++ f a :: rest := by
  rw [updateLast, List.reverse_append, List.reverse_cons, List.append_assoc, List.singleton_append,
    updateFirst_middle _ _ _ _ _ (fun x hx => h x (List.mem_reverse.mp hx)) ha]
  simp

end

/-! ### The end of an owned hire here (R78) -/

theorem keptForMoney_of_room {q : List SettlementRecord} (h : q.length < 64) : keptForMoney q = q :=
  if_neg (by simp; omega)

theorem keptForMoney_full {q : List SettlementRecord} (h : 64 ≤ q.length) : keptForMoney q = q.eraseP fun r => !r.isMoney := by
  unfold keptForMoney
  split
  · rfl
  · next none_left =>
    rw [List.eraseP_of_forall_not]
    simpa [h] using none_left

/-- The fare of an owned hire that ends here and now. -/
def State.fareHere (s : State) (o : OwnedHire) : Fare := priceHire (s.questionOf o.fields s.now s.node s.clk.dom.grade)

/-- The CHARGE of an owned hire that ends here and now (R78). -/
def State.chargeHere (s : State) (o : OwnedHire) : RecordBody :=
  .charge { node := s.node, serial := o.fields.serial } o.fields.card o.fields.cls o.fields.bike o.fields.start s.now s.node
    (s.fareHere o).minutes o.fields.band (s.fareHere o).amount (s.fareHere o).flags

/-- The state with the fare of the hire charged (R78, R98, R149). -/
def State.chargedHere (s : State) (o : OwnedHire) : State :=
  (s.setFu { s.fu with spend := addSpend s.fu.spend o.fields.card (s.fareHere o).capped }).postMoney (s.chargeHere o) o.slot

/-- The state with the record of the hire ended. -/
def State.settledHere (s : State) (o : OwnedHire) : State :=
  let s3 := (s.chargedHere o).pushSettled o.fields (some (s.node, s.now)) (s.fareHere o).outcome
  (s3.setOwned (s3.hu.owned.filter fun x => !decide (x.fields.serial = o.fields.serial))).mark (.owned o.slot)

theorem State.closeOwned_eq (s : State) (o : OwnedHire) : s.closeOwned o s.now s.node s.clk.dom.grade =
    (s.settledHere o).flood (.hireSettled { node := s.node, serial := o.fields.serial } o.fields.bike s.node s.now
      (s.fareHere o).outcome) := rfl

theorem State.settledHere_spec (s : State) (o : OwnedHire) :
    (s.settledHere o).sq.queue = keptForMoney s.sq.queue ++
      [s.newRecord (s.chargeHere o) (lowestFree 64 s.sq.slotsInUse) o.slot] ∧
    (s.settledHere o).fu = { s.fu with spend := addSpend s.fu.spend o.fields.card (s.fareHere o).capped } ∧
    (s.settledHere o).hu = { s.hu with
      owned := s.hu.owned.filter fun x => decide (x.fields.serial ≠ o.fields.serial)
      settled := pushBounded 32 s.hu.settled
        { hire := { node := s.node, serial := o.fields.serial }, bike := o.fields.bike, card := o.fields.card,
          start := o.fields.start, terms := o.fields.terms, classTerms := o.fields.classTerms,
          ending := some (s.node, s.now), outcome := (s.fareHere o).outcome } } ∧
    Slot.owned o.slot ∈ (s.settledHere o).jnl.writeList ∧ (s.settledHere o).slc = s.slc ∧ (s.settledHere o).sup = s.sup ∧
    (s.settledHere o).timebase = s.timebase := by
  refine ⟨?_, by simp [State.settledHere, State.chargedHere], ?_, Jnl.mem_mark _ _, by simp [State.settledHere, State.chargedHere],
    by simp [State.settledHere, State.chargedHere], by simp [State.settledHere, State.chargedHere]⟩
  · have same : (s.settledHere o).sq = (s.chargedHere o).sq := by simp [State.settledHere]
    rw [same]
    exact (State.postMoney_sq _ (s.chargeHere o) o.slot).1
  · simp [State.settledHere, State.chargedHere, State.pushSettled, State.setOwned, State.setSettled, State.node]

theorem State.closeOwned_closedHere (s : State) (o : OwnedHire) :
    s.ClosedHere (s.closeOwned o s.now s.node s.clk.dom.grade) o := by
  obtain ⟨sq, fu, hu, marked, slc, sup, timebase⟩ := s.settledHere_spec o
  have fare : s.fareHere o = priceHire
      { terms := o.fields.terms, classTerms := o.fields.classTerms, start := o.fields.start, endTime := s.now, endsHere := true,
        late := false, endGrade := s.clk.dom.grade, ownGrade := s.clk.dom.grade, stepped := o.fields.stepped,
        maxHire := s.sup.image.maxHire, spent := spentBy s.fu.spend o.fields.card } := by
    simp [State.fareHere, State.questionOf]
  rw [State.closeOwned_eq]
  unfold State.ClosedHere
  dsimp only
  rw [← fare]
  refine ⟨⟨s.newRecord (s.chargeHere o) (lowestFree 64 s.sq.slotsInUse) o.slot, keptForMoney s.sq.queue, ?_, keptForMoney_of_room,
    keptForMoney_full, rfl, rfl, rfl, rfl, rfl⟩, ?_, ?_, ?_, ?_, ?_⟩
  · rw [(State.flood_frame _ _).2.2.2.2.2.1, sq]
  · rw [(State.flood_frame _ _).2.2.2.1, fu]
  · rw [(State.flood_frame _ _).2.2.1, hu]
  · rw [(State.flood_frame _ _).2.2.1, hu]
    rfl
  · rw [State.flood, State.originate_jnl]
    exact (Jnl.marked_mark _ _).placed.subset marked
  · exact State.originate_slc_congr _ 0 slc sup timebase

/-! ### An arrival seen from before and after -/

/-- The state u is m but for the dock unit and the need score, with no more member releases. -/
structure State.Arriving (m u : State) : Prop extends m.Alike u where
  rest : u = { m with du := u.du, bu := u.bu }

namespace State.Arriving
variable {m u v : State}

theorem refl (m : State) : m.Arriving m := ⟨.refl m, rfl⟩

theorem trans (h : m.Arriving u) (k : u.Arriving v) : m.Arriving v := by
  refine ⟨h.toAlike.trans k.toAlike, ?_⟩
  have kept := k.rest
  rw [h.rest] at kept
  exact kept

theorem updateDock (h : m.Arriving u) (n : Nat) {f : Dock → Dock} (hf : (f (u.dock n)).forMember = true → (u.dock n).forMember = true) :
    m.Arriving (u.updateDock n f) := by
  refine h.trans ⟨(State.Alike.refl u).updateDock n hf, ?_⟩
  apply State.eq_of_blocks <;> simp

theorem removeMissing (h : m.Arriving u) (b : Bike) : m.Arriving (u.removeMissing b) := by
  refine h.trans ⟨⟨by simp, by simp, by simp, by simp, by simp, by simp, by simp, ?_⟩, ?_⟩
  · exact Du.memberReleases_le fun n => by
      have := Dock.forMember_of_base (u.base_removeMissing b n)
      rw [State.dock, State.dock] at this
      rw [this]
      exact id
  · apply State.eq_of_blocks <;> simp

end State.Arriving

/-- A hire ended here, seen from a state that is the same but for the dock unit and the need score. -/
theorem State.ClosedHere.between {m u t v : State} {o : OwnedHire} (h : u.ClosedHere t o)
    (before : u = { m with du := u.du, bu := u.bu }) (after : v = { t with du := v.du, bu := v.bu }) : m.ClosedHere v o := by
  obtain ⟨d, s, rfl⟩ : ∃ d s, u = { m with du := d, bu := s } := ⟨_, _, before⟩
  obtain ⟨d', s', rfl⟩ : ∃ d s, v = { t with du := d, bu := s } := ⟨_, _, after⟩
  obtain ⟨posted, fu, owned, settled, marked, slc⟩ := h
  exact ⟨posted, fu, owned, settled, marked, slc.trans (State.originate_slc_congr _ 0 rfl rfl rfl)⟩

/-- What an arrival leaves, seen from before and after. -/
theorem State.ArrivalTaken.between {m u t v : State} {d : Nat} {b : Bike} {card : Option Card} (h : u.ArrivalTaken t d b card)
    (before : m.Arriving u) (after : t.Arriving v) (bikes : v.du.bikes = t.du.bikes) : m.ArrivalTaken v d b card := by
  have closes {o : OwnedHire} (c : u.ClosedHere t o) : m.ClosedHere v o := c.between before.rest after.rest
  have session := before.session
  have ring := before.ring
  have limit := before.limit
  have session' := after.session
  have ring' := after.ring
  obtain ⟨e, s, rfl⟩ : ∃ e s, u = { m with du := e, bu := s } := ⟨_, _, before.rest⟩
  obtain ⟨e', s', rfl⟩ : ∃ e s, v = { t with du := e, bu := s } := ⟨_, _, after.rest⟩
  refine {
    found := fun x hx => h.found x (bikes ▸ hx)
    heard := h.heard
    kept := h.kept
    counted := fun c bin rest listed => ring'.trans (h.counted (c.imp id fun n ss held => n ss (session.symm.trans held)) bin rest
      (ring.trans listed))
    closed := fun l o rest listed same first => ⟨(h.closed l o rest listed same first).1, closes (h.closed l o rest listed same first).2⟩
    delivered := fun free ss held expected => ?_
    late := fun free unexpected l x rest listed same overdue unended last => ?_
    returned := fun free unexpected settled => ?_ }
  · obtain ⟨none_known, counted, kept, same⟩ := h.delivered free ss (session.trans held) expected
    refine ⟨none_known, (ring'.trans counted).trans ring, session'.trans kept, ?_⟩
    conv_lhs => rw [same]
  · obtain ⟨known, owned, fu, settled, held, lifted, note⟩ := h.late free (fun ss held => unexpected ss (session.symm.trans held))
      l x rest listed same overdue unended last
    have told := State.originate_slc_congr (s := { m with du := e, bu := s }) (t := m)
      (.hireSettled x.hire b m.node m.now .late) 0 rfl rfl rfl
    exact ⟨known, owned, fu, settled, fun barred => ⟨(held barred).1, (held barred).2.trans told⟩,
      fun free => ⟨(lifted free).1, (lifted free).2.trans (State.originate_slc_congr _ 0 told (by simp) (by simp))⟩,
      fun room => note (room.trans_le limit)⟩
  · obtain ⟨known, owned, kept, fu, slc, entry, note⟩ := h.returned free
      (fun ss held => unexpected ss (session.symm.trans held)) settled
    exact ⟨known, owned, kept, fu, slc.trans (State.originate_slc_congr _ 0 rfl rfl rfl), entry, fun room => note (room.trans_le limit)⟩

end Sys2Proof.Machine
end

section
/-!
PROOFS. An arrival handed to the hire unit (R77 to R80, R85, R132).
-/
namespace Sys2Proof.Machine
open Sys2Proof

/-! ### The four cases of an arrival -/

theorem State.ownedOf_none {s : State} {b : Bike} (h : s.ownedOf b = none) : ∀ o ∈ s.hu.owned, o.fields.bike ≠ b := fun o ho => by
  simpa using List.find?_eq_none.mp h o ho

theorem State.ownedOf_of_none {s : State} {b : Bike} (h : ∀ o ∈ s.hu.owned, o.fields.bike ≠ b) : s.ownedOf b = none :=
  List.find?_eq_none.mpr fun o ho => by simpa using h o ho

theorem State.ownedOf_middle {s : State} {b : Bike} {before rest : List OwnedHire} {o : OwnedHire} (listed : s.hu.owned = before ++ o :: rest)
    (same : o.fields.bike = b) (first : ∀ x ∈ before, x.fields.bike ≠ b) : s.ownedOf b = some o := by
  rw [State.ownedOf, listed]
  exact find?_middle _ _ _ _ (fun x hx => decide_eq_false (first x hx)) (decide_eq_true same)

theorem SettledHire.awaitsReturn_iff (e : SettledHire) (b : Bike) :
    e.awaitsReturn b = true ↔ e.bike = b ∧ e.outcome = .overdue ∧ e.ending = none := by
  simp [SettledHire.awaitsReturn, and_assoc]

theorem State.delivery_none {s : State} {b : Bike} (h : ∀ ss, s.bu.session = some ss → b ∉ ss.expected) : s.delivery b = none := by
  unfold State.delivery
  split
  · rfl
  · next ss held => exact if_neg (h ss held)

/-- The session with a bike delivered (R132). -/
def Session.deliveredWith (ss : Session) (b : Bike) (now : Millis) : Session :=
  { ss with
    expected := ss.expected.erase b
    delivered := if b ∈ ss.delivered then ss.delivered else ss.delivered ++ [b]
    idleStart := now }

theorem State.delivery_some {s : State} {b : Bike} {ss : Session} (held : s.bu.session = some ss) (expected : b ∈ ss.expected) :
    s.delivery b = some (s.setSession (ss.deliveredWith b s.timebase)) := by
  rw [State.delivery, held]
  exact if_pos expected

section
variable {s : State} {b : Bike} (d : Nat)

theorem State.arrival_owned {o : OwnedHire} (h : s.ownedOf b = some o) (startUp : Bool) : s.arrival d b startUp =
    (if startUp then (s.forgetHeard b).closeOwned o s.now s.node s.clk.dom.grade
      else ((s.forgetHeard b).closeOwned o s.now s.node s.clk.dom.grade).countActivity false, some o.fields.card) := by
  rw [State.arrival, h]

variable (free : s.ownedOf b = none)
include free

theorem State.arrival_startUp : s.arrival d b true = (s.forgetHeard b, none) := by
  rw [State.arrival, free]
  rfl

theorem State.arrival_delivered {ss : Session} (held : s.bu.session = some ss) (expected : b ∈ ss.expected) :
    s.arrival d b false = ((s.setSession (ss.deliveredWith b s.timebase)).forgetHeard b, none) := by
  rw [State.arrival, free, State.delivery_some held expected]
  rfl

variable (unexpected : ∀ ss, s.bu.session = some ss → b ∉ ss.expected)
include unexpected

theorem State.arrival_late {e : SettledHire} (late : findLast (fun e => e.awaitsReturn b) s.hu.settled = some e) :
    s.arrival d b false = (((s.forgetHeard b).lateClose e (fun e => e.awaitsReturn b) (s.forgetHeard b).now (s.forgetHeard b).node
      (s.forgetHeard b).clk.dom.grade).countActivity false, some e.card) := by
  rw [State.arrival, free, State.delivery_none unexpected, late]
  rfl

theorem State.arrival_returned (late : findLast (fun e => e.awaitsReturn b) s.hu.settled = none) :
    s.arrival d b false = s.returnHere d b := by
  rw [State.arrival, free, State.delivery_none unexpected, late]
  rfl

end

/-! ### What each case leaves -/

@[simp] theorem State.closeOwned_heard (s : State) (o : OwnedHire) (t : Time) (n : Node) (g : Nat) :
    (s.closeOwned o t n g).hu.heard = s.hu.heard := by
  simp [State.closeOwned, State.setOwned, State.pushSettled, State.setSettled]

theorem State.countActivity_rest (s : State) (out : Bool) :
    s.countActivity out = { s with du := (s.countActivity out).du, bu := (s.countActivity out).bu } := by
  apply State.eq_of_blocks <;> simp

/-- A hire ended after the heard hire of its bike was forgotten. -/
theorem State.ClosedHere.forgetting {m t : State} {o : OwnedHire} {b : Bike} (h : (m.forgetHeard b).ClosedHere t o) :
    m.ClosedHere t o := by
  obtain ⟨posted, fu, owned, settled, marked, slc⟩ := h
  exact ⟨posted, fu, owned, settled, marked, slc.trans (State.originate_slc_congr _ 0 rfl rfl rfl)⟩

theorem State.mem_forgetHeard (s : State) (b : Bike) (e : HeardHire) :
    e ∈ (s.forgetHeard b).hu.heard ↔ e ∈ s.hu.heard ∧ e.bike ≠ b := by
  simp [State.forgetHeard, State.setHeard]

/-! ### A late close (R85) -/

/-- The fare of a settled hire that ends late, here and now. -/
def State.lateFare (s : State) (e : SettledHire) : Fare :=
  priceHire { terms := e.terms, classTerms := e.classTerms, start := e.start, endTime := s.now, endsHere := true, late := true,
              endGrade := s.clk.dom.grade, ownGrade := s.clk.dom.grade, stepped := false, maxHire := s.sup.image.maxHire,
              spent := spentBy s.fu.spend e.card }

/-- The state with the LATE_RETURN note posted, the settled entry ended and the end flooded. -/
def State.endedLate (s : State) (e : SettledHire) (p : SettledHire → Bool) : State :=
  let s1 := s.postNote (.lateReturn e.hire e.card e.bike s.node s.now (s.lateFare e).amount)
  ((s1.setSettled (updateLast p (fun x => { x with ending := some (s.node, s.now), outcome := .late }) s1.hu.settled)).flood
    (.hireSettled e.hire e.bike s.node s.now .late)).removeMissing e.bike

theorem State.lateClose_eq (s : State) (e : SettledHire) (p : SettledHire → Bool) :
    s.lateClose e p s.now s.node s.clk.dom.grade =
      if (s.endedLate e p).hu.settled.any fun x => decide (x.card = e.card) && decide (x.outcome = .overdue) && x.ending.isNone
      then s.endedLate e p
      else ((s.endedLate e p).liftHolds e.card (some .overdue)).flood (.cardLift e.card (some .overdue)) := by
  have fare : s.lateFare e = priceHire
      { terms := e.terms, classTerms := e.classTerms, start := e.start, endTime := s.now, endsHere := decide (s.node = s.node),
        late := true, endGrade := s.clk.dom.grade, ownGrade := s.clk.dom.grade, stepped := false, maxHire := s.sup.image.maxHire,
        spent := spentBy s.fu.spend e.card } := by simp [State.lateFare]
  rw [State.endedLate, fare]
  rfl

theorem State.endedLate_spec (s : State) (e : SettledHire) (p : SettledHire → Bool) :
    (s.endedLate e p).hu = { s.hu with
      settled := updateLast p (fun x => { x with ending := some (s.node, s.now), outcome := .late }) s.hu.settled } ∧
    (s.endedLate e p).slc = (s.flood (.hireSettled e.hire e.bike s.node s.now .late)).slc ∧
    (s.endedLate e p).sq = (s.postNote (.lateReturn e.hire e.card e.bike s.node s.now (s.lateFare e).amount)).sq ∧
    (s.endedLate e p).fu = s.fu ∧ (s.endedLate e p).sup = s.sup ∧ (s.endedLate e p).timebase = s.timebase ∧
    (s.endedLate e p).bu.ring = s.bu.ring := by
  refine ⟨by simp [State.endedLate, State.setSettled], ?_, by simp [State.endedLate], by simp [State.endedLate],
    by simp [State.endedLate], by simp [State.endedLate], by simp [State.endedLate]⟩
  have removed : (s.endedLate e p).slc = _ := (State.removeMissing_frame _ e.bike).2.1
  exact removed.trans (State.originate_slc_congr _ 0 (by simp) (by simp) (by simp))

/-- No entry of the bike of a late close keeps a missing part. -/
theorem State.endedLate_found {s : State} {e : SettledHire} {p : SettledHire → Bool} {b : Bike}
    (h : ∀ x ∈ s.du.bikes, x.bike = b → x.missing = none) : ∀ x ∈ (s.endedLate e p).du.bikes, x.bike = b → x.missing = none := by
  intro x hx same
  obtain hx | ⟨y, -, -, rfl⟩ := State.mem_clearBikePart hx
  · exact h x (by simpa using hx) same
  · rfl

theorem State.liftHolds_hu (s : State) (card : Card) (reason : Option HoldReason) :
    (s.liftHolds card reason).hu = { s.hu with holds := s.hu.holds.filter fun h => !h.liftedBy card reason } := by
  unfold State.liftHolds
  rw [foldl_kept State.hu (fun (s : State) (h : Hold) => s.mark (.hold h.slot)) (fun _ _ => by simp)]
  rfl

/-- What a late close leaves: the OVERDUE hold of the card is lifted unless another such hire bars it. -/
theorem State.lateClose_spec (s : State) (e : SettledHire) (p : SettledHire → Bool) :
    let t := s.lateClose e p s.now s.node s.clk.dom.grade
    let told := s.flood (.hireSettled e.hire e.bike s.node s.now .late)
    let ended := updateLast p (fun x => { x with ending := some (s.node, s.now), outcome := .late }) s.hu.settled
    let barred := ∃ x ∈ ended, x.card = e.card ∧ x.outcome = .overdue ∧ x.ending = none
    t.hu.heard = s.hu.heard ∧ t.hu.owned = s.hu.owned ∧ t.hu.settled = ended ∧
    (barred → t.hu.holds = s.hu.holds ∧ t.slc = told.slc) ∧
    (¬ barred → t.hu.holds = s.hu.holds.filter (fun h => !(decide (h.card = e.card) && decide (h.reason = .overdue))) ∧
      t.slc = (told.flood (.cardLift e.card (some .overdue))).slc) ∧
    t.sq = (s.postNote (.lateReturn e.hire e.card e.bike s.node s.now (s.lateFare e).amount)).sq ∧
    t.bu.ring = s.bu.ring ∧ t.du.bikes = (s.endedLate e p).du.bikes := by
  intro t told ended barred
  obtain ⟨hu, slc, sq, -, sup, timebase, ring⟩ := s.endedLate_spec e p
  have bars : ((s.endedLate e p).hu.settled.any fun x =>
      decide (x.card = e.card) && decide (x.outcome = .overdue) && x.ending.isNone) = true ↔ barred := by
    rw [hu]
    simp [barred, ended, and_assoc]
  have close : t = _ := s.lateClose_eq e p
  by_cases h : barred
  · rw [close, if_pos (bars.mpr h)]
    exact ⟨by rw [hu], by rw [hu], by rw [hu], fun _ => ⟨by rw [hu], slc⟩, fun free => absurd h free, sq, ring, rfl⟩
  · rw [close, if_neg fun e => h (bars.mp e)]
    have lifted := (s.endedLate e p).liftHolds_hu e.card (some .overdue)
    rw [hu] at lifted
    have kept : (((s.endedLate e p).liftHolds e.card (some .overdue)).flood (.cardLift e.card (some .overdue))).hu = _ :=
      (State.flood_frame _ _).2.2.1.trans lifted
    refine ⟨by rw [kept], by rw [kept], by rw [kept], fun held => absurd held h, fun _ => ⟨by rw [kept]; rfl, ?_⟩, by simpa using sq,
      by simpa using ring, by simp⟩
    exact State.originate_slc_congr _ 0 (by simpa using slc) (by simpa [told] using sup) (by simpa [told] using timebase)

/-! ### A return (R79, R81) -/

/-- The heard hire of a bike. -/
def State.heardHire (s : State) (b : Bike) : Option Ident := (s.hu.heard.find? fun e => decide (e.bike = b)).map (·.hire)

/-- The state with the RETURN note posted and the HIRE CLOSE flooded. -/
def State.returnTold (s : State) (d : Nat) (b : Bike) : State :=
  ((s.forgetHeard b).postNote (.returned b d s.now (s.heardHire b))).flood (.hireClose b s.now s.clk.dom.grade (s.heardHire b))

theorem State.returnHere_eq (s : State) (d : Nat) (b : Bike) : s.returnHere d b =
    (((s.returnTold d b).makePendingClose b (s.heardHire b)).countActivity false,
      (s.hu.heard.find? fun e => decide (e.bike = b)).map (·.card)) := rfl

/-- The pending close made stands last, and the rest of the hire unit is as it was. -/
theorem State.makePendingClose_hu (s : State) (b : Bike) (hire : Option Ident) :
    (∃ kept, (s.makePendingClose b hire).hu.pendingClose =
      kept ++ [{ bike := b, endTime := s.now, endGrade := s.clk.dom.grade, hire := hire, repeats := 0, timerStart := s.timebase }]) ∧
    (s.makePendingClose b hire).hu = { s.hu with pendingClose := (s.makePendingClose b hire).hu.pendingClose } := by
  unfold State.makePendingClose
  dsimp only
  split
  · next oldest rest _ =>
    split
    · exact ⟨⟨_, rfl⟩, rfl⟩
    · rw [(State.postNote_frame _ _).2.2.2.1]
      exact ⟨⟨rest, rfl⟩, rfl⟩
  · exact ⟨⟨[], rfl⟩, rfl⟩

theorem State.postNote_queue (s : State) (body : RecordBody) : ∃ more, (s.postNote body).sq.queue = s.sq.queue ++ more := by
  by_cases room : s.sq.queue.length < s.noteLimit
  · exact ⟨_, by rw [(State.postNote_room body room).1]⟩
  · exact ⟨[], by rw [(State.postNote_full body (Nat.not_lt.mp room)).1, List.append_nil]⟩

theorem State.makePendingClose_queue (s : State) (b : Bike) (hire : Option Ident) :
    ∃ more, (s.makePendingClose b hire).sq.queue = s.sq.queue ++ more := by
  unfold State.makePendingClose
  dsimp only
  split
  · split
    · exact ⟨[], (List.append_nil _).symm⟩
    · exact State.postNote_queue _ _
  · exact ⟨[], (List.append_nil _).symm⟩

section
variable {s : State} {b : Bike} (d : Nat) (found : ∀ e ∈ s.du.bikes, e.bike = b → e.missing = none)
include found

/-- An owned hire ended by an arrival (R78). -/
theorem State.arrival_owned_taken {o : OwnedHire} (owned : s.ownedOf b = some o) :
    s.ArrivalTaken (s.arrival d b false).1 d b (s.arrival d b false).2 := by
  have held : ∃ o ∈ s.hu.owned, o.fields.bike = b := ⟨o, List.mem_of_find?_eq_some owned, by simpa using List.find?_some owned⟩
  have absent {P : Prop} (none_held : ∀ o ∈ s.hu.owned, o.fields.bike ≠ b) : P :=
    let ⟨o, ho, same⟩ := held
    absurd same (none_held o ho)
  rw [State.arrival_owned d owned]
  dsimp only
  rw [if_neg Bool.false_ne_true]
  have closed := (s.forgetHeard b).closeOwned_closedHere o
  refine {
    found := by simpa using found
    heard := fun e => ?_
    kept := by simp
    counted := fun _ bin rest ring => ?_
    closed := fun before x rest listed same first => ?_
    delivered := fun free => absent free
    late := fun free => absent free
    returned := fun free => absent free }
  · rw [(State.countActivity_frame _ _).2.2.2.1, State.closeOwned_heard]
    exact s.mem_forgetHeard b e
  · exact State.countActivity_ring (by simpa [State.closeOwned] using ring) false
  · have same' : x = o := Option.some.inj ((State.ownedOf_middle listed same first).symm.trans owned)
    subst same'
    exact ⟨rfl, closed.forgetting.between rfl (State.countActivity_rest _ _)⟩

/-- A delivery (R132). -/
theorem State.arrival_delivered_taken (free : s.ownedOf b = none) {ss : Session} (held : s.bu.session = some ss)
    (expected : b ∈ ss.expected) : s.ArrivalTaken (s.arrival d b false).1 d b (s.arrival d b false).2 := by
  have absent {P : Prop} (unexpected : ∀ ss, s.bu.session = some ss → b ∉ ss.expected) : P :=
    absurd expected (unexpected ss held)
  rw [State.arrival_delivered d free held expected]
  refine {
    found := by simpa using found
    heard := fun e => (s.setSession (ss.deliveredWith b s.timebase)).mem_forgetHeard b e
    kept := by simp
    counted := fun h => ?_
    closed := fun before x rest listed same => absurd same (State.ownedOf_none free x (by simp [listed]))
    delivered := fun _ x hx _ => ?_
    late := fun _ unexpected => absent unexpected
    returned := fun _ unexpected => absent unexpected }
  · obtain ⟨o, ho, same⟩ | unexpected := h
    · exact absurd same (State.ownedOf_none free o ho)
    · exact absent unexpected
  · cases held.symm.trans hx
    exact ⟨rfl, rfl, rfl, rfl⟩

/-- A late close (R85). -/
theorem State.arrival_late_taken (free : s.ownedOf b = none) (unexpected : ∀ ss, s.bu.session = some ss → b ∉ ss.expected)
    {e : SettledHire} (late : findLast (fun e => e.awaitsReturn b) s.hu.settled = some e) :
    s.ArrivalTaken (s.arrival d b false).1 d b (s.arrival d b false).2 := by
  rw [State.arrival_late d free unexpected late]
  dsimp only
  have listed := List.mem_filter.mp (List.mem_of_getLast? late)
  obtain ⟨same, overdue, unended⟩ := (e.awaitsReturn_iff b).mp listed.2
  obtain ⟨heard, owned, settled, barred, lifted, sq, ring, bikes⟩ :=
    (s.forgetHeard b).lateClose_spec e fun e => e.awaitsReturn b
  refine {
    found := ?_
    heard := fun x => ?_
    kept := by simp
    counted := fun _ bin rest counted => ?_
    closed := fun before x rest listed same => absurd same (State.ownedOf_none free x (by simp [listed]))
    delivered := fun _ ss held expected => absurd expected (unexpected ss held)
    late := fun _ _ before x rest split bike late_ open_ last => ?_
    returned := fun _ _ settled => absurd ⟨same, overdue, unended⟩ (settled e listed.1) }
  · rw [(congrArg Du.bikes (State.countActivity_frame _ false).2.2.1).trans bikes]
    exact State.endedLate_found (s := s.forgetHeard b) found
  · rw [(congrArg Hu.heard (State.countActivity_frame _ false).2.2.2.1).trans heard]
    exact s.mem_forgetHeard b x
  · exact State.countActivity_ring (ring.trans counted) false
  · have last' : ∀ y ∈ rest, (fun e : SettledHire => e.awaitsReturn b) y = false := fun y hy =>
      Bool.eq_false_iff.mpr fun awaits => last y hy ((y.awaitsReturn_iff b).mp awaits)
    have awaits := (x.awaitsReturn_iff b).mpr ⟨bike, late_, open_⟩
    have found' := findLast_middle (before := before) awaits last'
    rw [← split] at found'
    obtain rfl : x = e := Option.some.inj (found'.symm.trans late)
    have ended : updateLast (fun e : SettledHire => e.awaitsReturn b)
        (fun x => { x with ending := some ((s.forgetHeard b).node, (s.forgetHeard b).now), outcome := .late })
        (s.forgetHeard b).hu.settled = before ++ { x with ending := some (s.node, s.now), outcome := .late } :: rest :=
      (congrArg (updateLast _ _) split).trans (updateLast_middle (p := fun e : SettledHire => e.awaitsReturn b) _ awaits last')
    have told : ((s.forgetHeard b).flood (.hireSettled x.hire x.bike (s.forgetHeard b).node (s.forgetHeard b).now .late)).slc =
        (s.flood (.hireSettled x.hire b s.node s.now .late)).slc := by
      rw [bike]
      exact State.originate_slc_congr _ 0 rfl rfl rfl
    rw [ended] at settled barred lifted
    obtain ⟨-, slc, -, hu, -⟩ := ((s.forgetHeard b).lateClose x (fun e => e.awaitsReturn b) (s.forgetHeard b).now
      (s.forgetHeard b).node (s.forgetHeard b).clk.dom.grade).countActivity_frame false
    refine ⟨rfl, (congrArg Hu.owned hu).trans owned, by simp, (congrArg Hu.settled hu).trans settled, fun bar => ?_, fun free => ?_,
      fun room => ?_⟩
    · exact ⟨(congrArg Hu.holds hu).trans (barred bar).1, slc.trans ((barred bar).2.trans told)⟩
    · exact ⟨(congrArg Hu.holds hu).trans (lifted free).1,
        slc.trans ((lifted free).2.trans (State.originate_slc_congr _ 0 told (by simp) (by simp)))⟩
    · have noted := (State.postNote_room (s := s.forgetHeard b)
        (.lateReturn x.hire x.card x.bike s.node s.now ((s.forgetHeard b).lateFare x).amount) room).1
      refine ⟨_, (congrArg Sq.queue ((State.countActivity_frame _ false).2.2.2.2.2.2.1.trans (sq.trans noted))), ?_⟩
      rw [← bike]
      rfl

/-- A return (R79). -/
theorem State.arrival_returned_taken (free : s.ownedOf b = none) (unexpected : ∀ ss, s.bu.session = some ss → b ∉ ss.expected)
    (late : findLast (fun e => e.awaitsReturn b) s.hu.settled = none) :
    s.ArrivalTaken (s.arrival d b false).1 d b (s.arrival d b false).2 := by
  rw [State.arrival_returned d free unexpected late]
  have unended : ∀ x ∈ s.hu.settled, ¬ (x.bike = b ∧ x.outcome = .overdue ∧ x.ending = none) := fun x hx h => by
    have none_left := List.getLast?_eq_none_iff.mp late
    exact List.filter_eq_nil_iff.mp none_left x hx ((x.awaitsReturn_iff b).mpr h)
  obtain ⟨⟨kept, pending⟩, hu⟩ := (s.returnTold d b).makePendingClose_hu b (s.heardHire b)
  obtain ⟨more, queued⟩ := (s.returnTold d b).makePendingClose_queue b (s.heardHire b)
  have counted := ((s.returnTold d b).makePendingClose b (s.heardHire b)).countActivity_frame false
  obtain ⟨-, slc, du, hu', fu, -, sq, -⟩ := counted
  have before : (s.returnTold d b).hu = (s.forgetHeard b).hu := by simp [State.returnTold]
  rw [before] at hu
  rw [s.returnHere_eq]
  refine {
    found := by simpa [State.returnTold] using found
    heard := fun x => ?_
    kept := by simp [State.returnTold]
    counted := fun _ bin rest ring => State.countActivity_ring (by simpa [State.returnTold] using ring) false
    closed := fun before x rest listed same => absurd same (State.ownedOf_none free x (by simp [listed]))
    delivered := fun _ ss held expected => absurd expected (unexpected ss held)
    late := fun _ _ before x rest split bike overdue open_ => absurd ⟨bike, overdue, open_⟩ (unended x (by simp [split]))
    returned := fun _ _ _ => ?_ }
  · rw [hu', hu]
    exact s.mem_forgetHeard b x
  · refine ⟨by simp, by rw [hu', hu]; rfl, by rw [hu', hu]; rfl, by rw [fu]; simp [State.returnTold], ?_,
      ⟨kept, ?_⟩, fun room => ?_⟩
    · rw [slc, (State.makePendingClose_frame _ _ _).2.1]
      exact State.originate_slc_congr _ 0 (by simp) (by simp) (by simp)
    · rw [hu', pending]
      simp [State.returnTold, State.now, State.heardHire]
    · have noted := (State.postNote_room (s := s.forgetHeard b) (.returned b d s.now (s.heardHire b)) room).1
      refine ⟨(s.forgetHeard b).newRecord (.returned b d s.now (s.heardHire b)) none 0, more, ?_, rfl⟩
      rw [sq, queued]
      simp [State.returnTold, noted]

/-- What an arrival leaves, of the state it is handed on in (R77). -/
theorem State.arrival_taken : s.ArrivalTaken (s.arrival d b false).1 d b (s.arrival d b false).2 := by
  cases owned : s.ownedOf b with
  | some o => exact State.arrival_owned_taken d found owned
  | none =>
    by_cases unexpected : ∀ ss, s.bu.session = some ss → b ∉ ss.expected
    · cases late : findLast (fun e => e.awaitsReturn b) s.hu.settled with
      | some e => exact State.arrival_late_taken d found owned unexpected late
      | none => exact State.arrival_returned_taken d found owned unexpected late
    · simp only [not_forall, not_not] at unexpected
      obtain ⟨ss, held, expected⟩ := unexpected
      exact State.arrival_delivered_taken d found owned held expected

end

end Sys2Proof.Machine
end

section
/-!
PROOFS. Bikes that arrive at the docks (R51, R52): the dock of the arrival, the dock the bike has left, and what is handed on.
-/
namespace Sys2Proof.Machine
open Sys2Proof

/-! ### The missing part removed (R60, R77) -/

/-- In a list with one entry for each bike, the one changed is the bike's. -/
theorem updateFirst_of_once {b : Bike} {f : BikeStatus → BikeStatus} {l : List BikeStatus}
    (once : (l.map (·.bike)).Nodup) : ∀ e ∈ updateFirst (fun e => decide (e.bike = b)) f l, e.bike = b → ∃ x ∈ l, e = f x := by
  induction l with
  | nil => intro e he; cases he
  | cons x l ih =>
    rw [List.map_cons, List.nodup_cons] at once
    intro e he same
    by_cases here : x.bike = b
    · rw [updateFirst, if_pos (decide_eq_true here)] at he
      obtain rfl | he := List.mem_cons.mp he
      · exact ⟨x, by simp, rfl⟩
      · exact absurd (List.mem_map.mpr ⟨e, he, same.trans here.symm⟩) once.1
    · rw [updateFirst, if_neg (by simpa using here)] at he
      obtain rfl | he := List.mem_cons.mp he
      · exact absurd same here
      · obtain ⟨y, hy, eq⟩ := ih once.2 e he same
        exact ⟨y, by simp [hy], eq⟩

theorem State.removeMissing_found {s : State} {b : Bike} (once : (s.du.bikes.map (·.bike)).Nodup) :
    ∀ e ∈ (s.removeMissing b).du.bikes, e.bike = b → e.missing = none := by
  intro e he same
  rw [State.removeMissing, State.clearBikePart, (State.setBikes_du _ _ _).1] at he
  obtain ⟨x, -, rfl⟩ := updateFirst_of_once (f := fun e => { e with missing := none }) once e (List.mem_filter.mp he).1 same
  rfl

/-! ### What an arrival leaves of the docks -/

theorem State.base_lateClose (s : State) (e : SettledHire) (p : SettledHire → Bool) (t : Time) (m : Node) (g n : Nat) :
    ((s.lateClose e p t m g).dock n).base = (s.dock n).base := by
  unfold State.lateClose
  dsimp only
  split
  · rw [State.base_removeMissing, State.dock_congr (s := s) (by simp)]
  · rw [State.dock_congr (State.flood_frame _ _).2.1, State.dock_congr (State.liftHolds_frame _ _ _).2.2.1, State.base_removeMissing,
      State.dock_congr (s := s) (by simp)]

/-- An arrival handed on leaves every dock as it is, but for its lamp. -/
theorem State.base_arrival (s : State) (d : Nat) (b : Bike) (startUp : Bool) (n : Nat) :
    ((s.arrival d b startUp).1.dock n).base = (s.dock n).base := by
  unfold State.arrival
  split
  · dsimp only
    split <;> rw [State.dock_congr (s := s) (by simp)]
  · split
    · rw [State.dock_congr (s := s) (by simp)]
    · split
      · next u moved =>
        have du : (u.forgetHeard b).du = s.du := by
          unfold State.delivery at moved
          split at moved
          · cases moved
          · split at moved
            · cases moved
              rfl
            · cases moved
        rw [State.dock_congr du]
      · split
        · rw [State.dock_congr (State.countActivity_frame _ _).2.2.1, State.base_lateClose, State.dock_congr (s := s) (by simp)]
        · rw [State.dock_congr (s := s) (by simp [State.returnHere])]

/-! ### The dock of the arrival (R51, R52) -/

/-- The dock with a bike docked. -/
def Dock.docked (k : Dock) (b : Bike) (t : Time) : Dock := Dock.enter { k with bike := some { bike := b, time := t } } .holding

/-- The dock with its return window open and the GREEN_FLASH shown. -/
def Dock.windowed (k : Dock) (t : Millis) (card : Option Card) : Dock :=
  Dock.show { k with window := some { start := t, card := card, taken := false } } .greenFlash t

/-- The state an arrival at an EMPTY dock is handed on in. -/
def State.docked (s : State) (d : Nat) (b : Bike) : State :=
  ((s.leaveOther d b).updateDock d fun k => k.docked b s.now).removeMissing b

theorem State.arrive_eq (s : State) (d : Nat) (b : Bike) : s.arrive d b =
    ((s.docked d b).arrival d b false).1.updateDock d fun k =>
      k.windowed s.timebase ((s.docked d b).arrival d b false).2 := rfl

/-- The state an arrival at a FAULTED or DISABLED dock is handed on in. -/
def State.recorded (s : State) (d : Nat) (b : Bike) : State :=
  (s.updateDock d fun k => { k with bike := some { bike := b, time := s.now }, window := none }).removeMissing b

theorem State.arriveUnavailable_eq (s : State) (d : Nat) (b : Bike) :
    s.arriveUnavailable d b = ((s.recorded d b).arrival d b false).1 := rfl

/-- The dock of an arrival, and every other that the bike has not left. -/
theorem State.arrive_dock (s : State) {d : Nat} (inside : 1 ≤ d ∧ d ≤ 24) (b : Bike) :
    ((s.arrive d b).dock d).state = .holding ∧ ((s.arrive d b).dock d).bike = some { bike := b, time := s.now } ∧
    ((s.arrive d b).dock d).window =
      some { start := s.timebase, card := ((s.docked d b).arrival d b false).2, taken := false } ∧
    ((s.arrive d b).dock d).transient = some { lamp := .greenFlash, start := s.timebase } ∧
    ∀ n, n ≠ d → ((s.arrive d b).dock n).base = ((s.leaveOther d b).dock n).base := by
  have handed (n : Nat) : (((s.docked d b).arrival d b false).1.dock n).base =
      (((s.leaveOther d b).updateDock d fun k => k.docked b s.now).dock n).base := by
    rw [State.base_arrival, State.docked, State.base_removeMissing]
  obtain ⟨state, bike, -, -, -, -, window, -, -, -, -, -, transient, -⟩ := Dock.fields_of_base
    (State.base_updateDock_self ((s.docked d b).arrival d b false).1
      (fun k => k.windowed s.timebase ((s.docked d b).arrival d b false).2) inside)
  obtain ⟨state', bike', -⟩ := Dock.fields_of_base ((handed d).trans (State.base_updateDock_self _ _ inside))
  rw [State.arrive_eq]
  refine ⟨state.trans (state'.trans (by simp [Dock.docked])), bike.trans (bike'.trans (by simp [Dock.docked])), window, transient,
    fun n hn => ?_⟩
  rw [State.dock_updateDock_ne _ _ _ _ hn, handed, State.dock_updateDock_ne _ _ _ _ hn]

/-- What an arrival at an EMPTY dock is, of a state that is the one without the bike at another dock. -/
theorem State.arrive_taken {s m : State} (d : Nat) (b : Bike) (before : m.Arriving (s.leaveOther d b))
    (once : ((s.leaveOther d b).du.bikes.map (·.bike)).Nodup) :
    m.ArrivalTaken (s.arrive d b) d b ((s.docked d b).arrival d b false).2 := by
  have handed : m.Arriving (s.docked d b) :=
    (before.updateDock d (f := fun k => k.docked b s.now) (by simp [Dock.docked])).removeMissing b
  rw [State.arrive_eq]
  refine ((s.docked d b).arrival_taken d (State.removeMissing_found (by simpa using once))).between handed
    ((State.Arriving.refl _).updateDock d fun e => e) (by simp)

/-- An arrival at a FAULTED or DISABLED dock. -/
theorem State.arriveUnavailable_spec (s : State) {d : Nat} (inside : 1 ≤ d ∧ d ≤ 24) (b : Bike)
    (once : (s.du.bikes.map (·.bike)).Nodup) :
    (∃ card, s.ArrivalTaken (s.arriveUnavailable d b) d b card) ∧
    ((s.arriveUnavailable d b).dock d).state = (s.dock d).state ∧
    ((s.arriveUnavailable d b).dock d).bike = some { bike := b, time := s.now } ∧
    ((s.arriveUnavailable d b).dock d).window = none ∧
    ((s.arriveUnavailable d b).dock d).transient = (s.dock d).transient ∧
    ∀ n, n ≠ d → ((s.arriveUnavailable d b).dock n).base = (s.dock n).base := by
  have handed : s.Arriving (s.recorded d b) := ((State.Arriving.refl s).updateDock d fun e => e).removeMissing b
  have docks (n : Nat) : (((s.recorded d b).arrival d b false).1.dock n).base = _ :=
    (State.base_arrival _ d b false n).trans (State.base_removeMissing _ b n)
  rw [State.arriveUnavailable_eq]
  obtain ⟨state, bike, -, -, -, -, window, -, -, -, -, -, transient, -⟩ :=
    Dock.fields_of_base ((docks d).trans (State.base_updateDock_self _ _ inside))
  refine ⟨⟨_, ((s.recorded d b).arrival_taken d (State.removeMissing_found (by simpa using once))).between handed (.refl _) rfl⟩,
    state, bike, window, transient, fun n hn => ?_⟩
  rw [docks, State.dock_updateDock_ne _ _ _ _ hn]

end Sys2Proof.Machine
end

section
/-!
PROOFS. A release completed from two states that differ in the dock bus alone (R48, R51).
-/
namespace Sys2Proof.Machine
open Sys2Proof

/-- The ring after an out or an in is counted is fixed by the ring before. -/
theorem State.countActivity_ring_congr {u v : State} (ring : v.bu.ring = u.bu.ring) (out : Bool) :
    (v.countActivity out).bu.ring = (u.countActivity out).bu.ring := by
  cases held : u.bu.ring with
  | nil => rw [State.countActivity, ring.trans held, State.countActivity, held, ring]
  | cons bin rest => rw [State.countActivity_ring (ring.trans held), State.countActivity_ring held]

/-- The bike of a take that is not in flight changes nothing. -/
theorem State.takeRecorded_unknown {s : State} {d : Nat} (h : ∀ ss, s.bu.session = some ss → ∀ f ∈ ss.inFlight, f.dock ≠ d)
    (b : Bike) : s.takeRecorded d b = s := by
  unfold State.takeRecorded
  split
  · rfl
  · next ss held =>
    have unlisted : (ss.inFlight.find? fun t => decide (t.dock = d)) = none := by simpa using h ss held
    rw [unlisted]

/-- The state v is u but for the dock unit and the need score, with the same member releases and quarantined bikes. -/
structure State.Twin (u v : State) : Prop extends u.Arriving v where
  members : v.du.memberReleases = u.du.memberReleases
  quarantined : v.du.quarantined = u.du.quarantined

namespace State.Twin
variable {u v : State} (h : u.Twin v)
include h

/-- An operation on both that leaves the dock unit, and gives both the same session and ring. -/
theorem of_rest {u' v' : State} (rest : v' = { u' with du := v'.du, bu := v'.bu }) (session : v'.bu.session = u'.bu.session)
    (summary : v'.bu.summary = u'.bu.summary) (claims : v'.bu.claims = u'.bu.claims) (ring : v'.bu.ring = u'.bu.ring)
    (du : u'.du = u.du) (du' : v'.du = v.du) : u'.Twin v' where
  slc := (congrArg State.slc rest :)
  sup := (congrArg State.sup rest :)
  hu := (congrArg State.hu rest :)
  session := session
  summary := summary
  claims := claims
  ring := ring
  releases := by rw [du, du', h.members]
  rest := rest
  members := by rw [du, du', h.members]
  quarantined := by rw [du, du', h.quarantined]

theorem originate (b : NoticeBody) (n : Node) : (u.originate b n).Twin (v.originate b n) := by
  refine h.of_rest ?_ (by simp [h.session]) (by simp [h.summary]) (by simp [h.claims]) (by simp [h.ring]) (by simp) (by simp)
  obtain ⟨d, s, rfl⟩ : ∃ d s, v = { u with du := d, bu := s } := ⟨_, _, h.rest⟩
  apply State.eq_of_blocks <;> simp
  exact State.originate_slc_congr _ _ rfl rfl rfl

theorem setSession (ss : Session) : (u.setSession ss).Twin (v.setSession ss) := by
  refine h.of_rest ?_ rfl h.summary h.claims h.ring rfl rfl
  obtain ⟨d, s, rfl⟩ : ∃ d s, v = { u with du := d, bu := s } := ⟨_, _, h.rest⟩
  rfl

theorem takeNoted (ss : Session) (b : Bike) : (u.takeNoted ss b).Twin (v.takeNoted ss b) := by
  refine h.of_rest ?_ (by simp) (by simp [h.summary]) (by simp [h.claims]) (by simp [h.ring]) (by simp) (by simp)
  have quarantined := congrFun h.quarantined b
  have flt : (v.takeNoted ss b).flt = (u.takeNoted ss b).flt := by
    rw [State.takeNoted_flt, State.takeNoted_flt, quarantined, (congrArg State.flt h.rest :)]
  obtain ⟨d, s, rfl⟩ : ∃ d s, v = { u with du := d, bu := s } := ⟨_, _, h.rest⟩
  apply State.eq_of_blocks <;> simp [flt]

theorem evaluateSettlement : u.evaluateSettlement.Twin v.evaluateSettlement := by
  unfold State.evaluateSettlement
  rw [h.sup]
  split
  · refine h.of_rest ?_ h.session h.summary h.claims h.ring rfl rfl
    obtain ⟨d, s, rfl⟩ : ∃ d s, v = { u with du := d, bu := s } := ⟨_, _, h.rest⟩
    rfl
  · exact h

theorem postNote (b : RecordBody) : (u.postNote b).Twin (v.postNote b) := by
  have limit : v.noteLimit = u.noteLimit := by rw [State.noteLimit, State.noteLimit, h.hu, h.members]
  have sq : v.sq = u.sq := (congrArg State.sq h.rest :)
  unfold State.postNote
  rw [limit, sq]
  split
  · refine State.Twin.evaluateSettlement (h.of_rest ?_ h.session h.summary h.claims h.ring rfl rfl)
    obtain ⟨d, s, rfl⟩ : ∃ d s, v = { u with du := d, bu := s } := ⟨_, _, h.rest⟩
    rfl
  · refine h.of_rest ?_ h.session h.summary h.claims h.ring rfl rfl
    obtain ⟨d, s, rfl⟩ : ∃ d s, v = { u with du := d, bu := s } := ⟨_, _, h.rest⟩
    rfl

theorem setClaims (l : List StationClaim) : (u.setClaims l).Twin (v.setClaims l) := by
  refine h.of_rest ?_ (by simp [h.session]) (by simp [h.summary]) (by simp) (by simp [h.ring]) (by simp) (by simp)
  obtain ⟨d, s, rfl⟩ : ∃ d s, v = { u with du := d, bu := s } := ⟨_, _, h.rest⟩
  apply State.eq_of_blocks <;> simp

theorem sessionEnded (k : KeptSummary) : (u.setBu { u.bu with session := none, summary := some k }).Twin
    (v.setBu { v.bu with session := none, summary := some k }) := by
  refine h.of_rest ?_ rfl rfl h.claims h.ring rfl rfl
  obtain ⟨d, s, rfl⟩ : ∃ d s, v = { u with du := d, bu := s } := ⟨_, _, h.rest⟩
  rfl

theorem endSession (ss : Session) : (u.endSession ss).Twin (v.endSession ss) := by
  have told := (h.originate (.sessionSummary ss.summary) ss.van).postNote (.session ss.van u.node ss.collected ss.delivered ss.expected)
  have node : v.node = u.node := congrArg (fun x => x.image.node) h.sup
  unfold State.endSession
  dsimp only
  rw [node, told.claims]
  exact (told.setClaims _).sessionEnded _

theorem endIfDone : u.endIfDone.Twin v.endIfDone := by
  unfold State.endIfDone
  rw [h.session]
  split
  · split
    · exact h.endSession _
    · exact h
  · exact h

theorem takeRecorded (n : Nat) (b : Bike) : (u.takeRecorded n b).Twin (v.takeRecorded n b) := by
  have time : v.timebase = u.timebase := (congrArg State.timebase h.rest :)
  obtain unknown | ⟨ss, before, f, rest, held, listed, here, first⟩ := u.take_unknown_or_known n
  · rw [State.takeRecorded_unknown unknown, State.takeRecorded_unknown fun ss held => unknown ss (h.session.symm.trans held)]
    exact h
  · rw [State.takeRecorded_known held listed here first, State.takeRecorded_known (h.session.trans held) listed here first, time]
    exact ((h.takeNoted _ b).originate _ _).endIfDone

theorem openHire (n : Nat) (b : Bike) (c : CardRecord) : (u.openHire n b c).Twin (v.openHire n b c) := by
  refine h.of_rest ?_ (by simp [h.session]) (by simp [State.openHire, h.summary]) (by simp [State.openHire, h.claims]) ?_
    (by simp) (by simp)
  · obtain ⟨d, s, rfl⟩ : ∃ d s, v = { u with du := d, bu := s } := ⟨_, _, h.rest⟩
    apply State.eq_of_blocks <;> simp [State.openHire, State.flood, State.now, State.node]
    exact State.originate_slc_congr _ _ rfl rfl rfl
  · exact State.countActivity_ring_congr (by simpa using h.ring) true

/-- A dock taken from both. -/
theorem updateTaken {n : Nat} (inside : 1 ≤ n ∧ n ≤ 24) (same : (v.dock n).forMember = (u.dock n).forMember) :
    (u.updateDock n Dock.taken).Twin (v.updateDock n Dock.taken) := by
  have members : (v.updateDock n Dock.taken).du.memberReleases = (u.updateDock n Dock.taken).du.memberReleases := by
    have taken (k : Dock) : k.taken.forMember = false := by simp [Dock.taken]
    have before := u.updateDock_memberReleases Dock.taken inside
    have after := v.updateDock_memberReleases Dock.taken inside
    rw [taken] at before after
    rw [same, h.members] at after
    omega
  have bikes (s : State) : (s.updateDock n Dock.taken).du.quarantined = s.du.quarantined := by
    funext b
    rw [Du.quarantined, Du.quarantined, (s.updateDock_du _ _).1]
  refine ⟨⟨⟨by simp [h.slc], by simp [h.sup], by simp [h.hu], by simp [h.session], by simp [h.summary], by simp [h.claims],
    by simp [h.ring], members.le⟩, ?_⟩, members, by rw [bikes, bikes, h.quarantined]⟩
  obtain ⟨d, s, rfl⟩ : ∃ d s, v = { u with du := d, bu := s } := ⟨_, _, h.rest⟩
  apply State.eq_of_blocks <;> simp

/-- A release completed from both, where the dock is the same in both. -/
theorem completeRelease {n : Nat} (inside : 1 ≤ n ∧ n ≤ 24) (state : (v.dock n).state = (u.dock n).state)
    (release : (v.dock n).release = (u.dock n).release) (bike : (v.dock n).bike = (u.dock n).bike) :
    (u.completeRelease n).Twin (v.completeRelease n) := by
  have taken := h.updateTaken inside (Dock.forMember_congr state release)
  unfold State.completeRelease
  dsimp only
  rw [release, bike]
  split
  · exact taken.openHire _ _ _
  · exact taken.takeRecorded _ _
  · exact taken

end State.Twin

theorem State.Twin.symm {u v : State} (h : u.Twin v) : v.Twin u where
  slc := h.slc.symm
  sup := h.sup.symm
  hu := h.hu.symm
  session := h.session.symm
  summary := h.summary.symm
  claims := h.claims.symm
  ring := h.ring.symm
  releases := h.members.ge
  rest := by
    rw [h.rest]
  members := h.members.symm
  quarantined := h.quarantined.symm

theorem State.Twin.polled (s : State) (p : Option (Nat × PollKind)) : s.Twin { s with du := { s.du with polled := p } } :=
  ⟨⟨⟨rfl, rfl, rfl, rfl, rfl, rfl, rfl, le_rfl⟩, rfl⟩, rfl, rfl⟩

theorem State.Twin.trans {u v w : State} (h : u.Twin v) (k : v.Twin w) : u.Twin w :=
  ⟨h.toArriving.trans k.toArriving, k.members.trans h.members, k.quarantined.trans h.quarantined⟩

/-- A post's answer changes the dock bus alone. -/
theorem State.Twin.postHeard (s : State) (d : Nat) : s.Twin (s.postHeard d) := by
  refine ⟨⟨.postHeard s d, rfl⟩, ?_, ?_⟩
  · have docks := (State.SameDocks.postHeard s d).docks
    have member (m : Nat) : ((s.postHeard d).dock m).forMember = (s.dock m).forMember :=
      Dock.forMember_congr (docks m).1 (docks m).2.1
    exact le_antisymm (Du.memberReleases_le fun m e => (member m).symm.trans e) (Du.memberReleases_le fun m e => (member m).trans e)
  · funext b
    rw [Du.quarantined, (s.postHeard_frame d).1, Du.quarantined]

/-- The completion of a release changes what the BIKE_OUT polled for does, but for the dock unit and the need score. -/
theorem State.completeRelease_twin (s : State) {n : Nat} (inside : 1 ≤ n ∧ n ≤ 24) (p : Option (Nat × PollKind)) :
    ((State.postHeard { s with du := { s.du with polled := p } } n).completeRelease n).Twin (s.completeRelease n) := by
  obtain ⟨state, release, bike, -⟩ := (State.SameDocks.postHeard { s with du := { s.du with polled := p } } n).docks n
  exact (((State.Twin.polled s p).trans (.postHeard _ n)).completeRelease inside state release bike).symm

end Sys2Proof.Machine
end

section
/-!
PROOFS. The statement on bikes that arrive.
-/
namespace Sys2Proof.Machine
open Sys2Proof

/-! ### The other dock that records a bike (R51) -/

theorem Dock.records_iff_bike (k : Dock) (b : Bike) : k.records b = true ↔ k.bike.map (·.bike) = some b := by
  rw [Dock.records_iff, Option.map_eq_some_iff]

theorem State.dockOf_unrecorded {s : State} {b : Bike} {d : Nat} (h : ∀ n, n ≠ d → ¬ (s.dock n).records b = true) :
    s.dockOf b d = none := by
  refine List.find?_eq_none.mpr fun n _ found => ?_
  rw [Bool.and_eq_true, decide_eq_true_eq] at found
  exact h n found.1 found.2

theorem dockNumbers_sorted : dockNumbers.Pairwise (· < ·) := by decide

/-- Of two other docks that record the bike, the lowest is looked at. -/
theorem State.dockOf_lowest {s : State} {b : Bike} {d n : Nat} (other : n ≠ d) (here : (s.dock n).records b = true)
    (lowest : ∀ m, m < n → m ≠ d → ¬ (s.dock m).records b = true) : s.dockOf b d = some n := by
  have inside : n ∈ dockNumbers := by
    obtain ⟨x, bike, -⟩ := (Dock.records_iff _ _).mp here
    obtain ⟨low, high⟩ := State.inTable_of_bike bike
    exact (mem_dockNumbers n).mpr ⟨low, high⟩
  cases found : s.dockOf b d with
  | none => exact absurd (List.find?_eq_none.mp found n inside) (by simp [other, here])
  | some m =>
    obtain ⟨apart, records⟩ := State.dockOf_some found
    obtain ⟨-, before, rest, listed, first⟩ := List.find?_eq_some_iff_append.mp found
    have sorted := dockNumbers_sorted
    rw [listed] at inside sorted
    obtain inside | rfl | inside : n ∈ before ∨ n = m ∨ n ∈ rest := by simpa using inside
    · exact absurd (first n inside) (by simp [other, here])
    · rfl
    · exact absurd records (lowest m ((List.pairwise_cons.mp (List.pairwise_append.mp sorted).2.1).1 n inside) apart)

/-! ### What an arrival at an EMPTY dock does -/

theorem State.leaveOther_unrecorded {s : State} {b : Bike} {d : Nat} (h : ∀ n, n ≠ d → ¬ (s.dock n).records b = true) :
    s.leaveOther d b = s := by
  rw [State.leaveOther, State.dockOf_unrecorded h]

/-- The dock settled without its bike. -/
def Dock.deserted (k : Dock) : Dock := Dock.settle { k with bike := none, window := none }

theorem State.leaveOther_released {s : State} {b : Bike} {d n : Nat} (h : s.dockOf b d = some n)
    (releasing : (s.dock n).state = .releasing) : s.leaveOther d b = s.completeRelease n := by
  rw [State.leaveOther, h]
  exact if_pos releasing

theorem State.leaveOther_settled {s : State} {b : Bike} {d n : Nat} (h : s.dockOf b d = some n)
    (still : (s.dock n).state ≠ .releasing) : s.leaveOther d b = s.updateDock n Dock.deserted := by
  rw [State.leaveOther, h]
  exact if_neg still

theorem Dock.deserted_frame (k : Dock) : k.deserted.bike = none ∧ k.deserted.window = none ∧ k.deserted.state =
    if k.hostDisabled then .disabled else if k.faultMark then .faulted else if k.silent then .offline else .empty := by
  simp [Dock.deserted, Dock.settle, Dock.settledState]

theorem State.leaveOther_bikes (s : State) (d : Nat) (b : Bike) : (s.leaveOther d b).du.bikes = s.du.bikes := by
  unfold State.leaveOther
  split
  · rfl
  · split
    · rw [State.completeRelease_du]
      exact (s.updateDock_du _ _).1
    · exact (s.updateDock_du _ _).1

/-- A bike docked at an EMPTY dock, seen from the state m that is, but for the dock bus, the one where the bike has left any other. -/
theorem State.arrive_spec {s m : State} {d : Nat} (inside : 1 ≤ d ∧ d ≤ 24) {b : Bike} (once : (s.du.bikes.map (·.bike)).Nodup)
    (before : m.Arriving (s.leaveOther d b)) :
    ∃ card, (((s.arrive d b).dock d).state = .holding ∧ ((s.arrive d b).dock d).bike = some { bike := b, time := s.now } ∧
      ((s.arrive d b).dock d).window = some { start := s.timebase, card := card, taken := false } ∧
      ((s.arrive d b).dock d).transient = some { lamp := .greenFlash, start := s.timebase }) ∧
      m.ArrivalTaken (s.arrive d b) d b card := by
  obtain ⟨state, bike, window, transient, -⟩ := s.arrive_dock inside b
  exact ⟨_, ⟨state, bike, window, transient⟩, State.arrive_taken d b before (by rw [s.leaveOther_bikes]; exact once)⟩

/-- A dock with the same base shows the same state, bike and window. -/
theorem Dock.shown_of_base {k l : Dock} (h : k.base = l.base) : k.state = l.state ∧ k.bike = l.bike ∧ k.window = l.window := by
  obtain ⟨state, bike, -, -, -, -, window, -⟩ := Dock.fields_of_base h
  exact ⟨state, bike, window⟩

/-! ### BIKE_IN by the dock's state (R51, R52) -/

section
variable {s : State} {d : Nat} {b : Bike}

theorem State.bikeArrives_empty (h : (s.dock d).state = .empty) : s.bikeArrives d b = s.arrive d b := by
  rw [State.bikeArrives, h]

theorem State.bikeArrives_replaced (h : (s.dock d).state = .holding ∨ (s.dock d).state = .releasing)
    (new : ¬ (s.dock d).records b = true) : s.bikeArrives d b = (s.bikeLeaves d).arrive d b := by
  obtain h | h := h <;> rw [State.bikeArrives, h] <;> exact if_neg new

theorem State.bikeArrives_unavailable (h : (s.dock d).state = .faulted ∨ (s.dock d).state = .disabled)
    (new : ¬ (s.dock d).records b = true) : s.bikeArrives d b = s.arriveUnavailable d b := by
  obtain h | h := h <;> rw [State.bikeArrives, h] <;> exact if_neg new

theorem State.bikeArrives_recorded (h : (s.dock d).state ≠ .empty) (known : (s.dock d).records b = true) :
    s.bikeArrives d b = s := by
  unfold State.bikeArrives
  cases e : (s.dock d).state with
  | empty => exact absurd e h
  | holding | releasing | faulted | disabled => exact if_pos known
  | offline => rfl

theorem State.bikeArrives_offline (h : (s.dock d).state = .offline) : s.bikeArrives d b = s := by
  rw [State.bikeArrives, h]

end

/-- A BIKE_OUT at a dock with its bike recorded leaves it EMPTY, whether the bike is released or removed. -/
theorem State.bikeLeaves_empty {s : State} {d : Nat} (inside : 1 ≤ d ∧ d ≤ 24) {x : DockedBike} (bike : (s.dock d).bike = some x)
    (h : (s.dock d).state = .holding ∨ (s.dock d).state = .releasing) : ((s.bikeLeaves d).dock d).state = .empty := by
  obtain h | h := h
  · rw [State.bikeLeaves_recorded (.inl h) bike]
    obtain ⟨base, -⟩ := State.forcedRemoval_spec inside (by rw [h]; nofun) x.bike
    rw [(Dock.shown_of_base base).1, (s.dock d).robbed_frame.1, if_pos h]
  · rw [State.bikeLeaves_releasing h]
    exact (s.completeRelease_taken inside).1

/-- A bike docked while another dock records it: that one has lost it. -/
theorem State.arrive_left {s : State} {d n : Nat} (inside : 1 ≤ d ∧ d ≤ 24) {b : Bike} (found : s.dockOf b d = some n) :
    ((s.arrive d b).dock n).bike = none ∧ ((s.arrive d b).dock n).window = none ∧
    ∀ m, m ≠ d → m ≠ n → ((s.arrive d b).dock m).bike = (s.dock m).bike ∧ ((s.arrive d b).dock m).state = (s.dock m).state := by
  obtain ⟨apart, here⟩ := State.dockOf_some found
  obtain ⟨x, bike, -⟩ := (Dock.records_iff _ _).mp here
  have there := State.inTable_of_bike bike
  obtain ⟨-, -, -, -, base⟩ := s.arrive_dock inside b
  obtain ⟨-, gone, closed⟩ := Dock.shown_of_base (base n apart)
  by_cases releasing : (s.dock n).state = .releasing
  · have left := State.leaveOther_released found releasing
    obtain ⟨-, none_left, -, -, shut, -⟩ := s.completeRelease_taken there
    rw [left] at gone closed base
    refine ⟨gone.trans none_left, closed.trans shut, fun m other still => ?_⟩
    obtain ⟨state, bike, -⟩ := Dock.shown_of_base (base m other)
    rw [s.completeRelease_dock_ne still] at state bike
    exact ⟨bike, state⟩
  · have left := State.leaveOther_settled found releasing
    obtain ⟨none_left, shut, -⟩ := (s.dock n).deserted_frame
    obtain ⟨-, bike', window'⟩ := Dock.shown_of_base (s.base_updateDock_self Dock.deserted there)
    rw [left] at gone closed base
    refine ⟨gone.trans (bike'.trans none_left), closed.trans (window'.trans shut), fun m other still => ?_⟩
    obtain ⟨state, bike, -⟩ := Dock.shown_of_base (base m other)
    rw [s.dock_updateDock_ne _ _ _ still] at state bike
    exact ⟨bike, state⟩

/-! ### The obligation -/

/-- Settles O47, by the dock's state. -/
theorem arrivalsEndHires : Obligations.ArrivalsEndHires := by
  intro s d b low high first last once k t records docked stays
  have inside : 1 ≤ d ∧ d ≤ 24 := ⟨low, high⟩
  have recorded (n : Nat) : (s.dock n).records b = true ↔ records n := (s.dock n).records_iff_bike b
  refine ⟨fun runs count polled => ?_, fun empty => ⟨fun alone => ?_, fun n apart here lowest => ?_⟩, fun withdrawn new => ?_,
    fun occupied known => State.bikeArrives_recorded occupied ((recorded d).mpr known), State.bikeArrives_offline⟩
  · have heard := s.postHeard_dock inside
    have taken : exec (.bikeIn d b) s = .next ((s.postHeard d).bikeArrives d b) := by
      refine congrArg Host.Outcome.next ?_
      rw [if_pos (by simp [bikeInRange, first, last])]
      exact State.takeAnswer_event runs ⟨low, count⟩ polled _ _
    refine ⟨taken, fun x state bike other => ?_⟩
    have state' : ((s.postHeard d).dock d).state = .holding ∨ ((s.postHeard d).dock d).state = .releasing := by rw [heard]; exact state
    have bike' : ((s.postHeard d).dock d).bike = some x := by rw [heard]; exact bike
    have left := State.bikeLeaves_empty inside bike' state'
    refine ⟨_, congrArg Host.Outcome.next (State.takeAnswer_event runs ⟨low, count⟩ polled _ _), left, ?_⟩
    rw [taken, State.bikeArrives_empty left, State.bikeArrives_replaced state']
    simp [Dock.records, bike', other]
  · have unrecorded : ∀ n, n ≠ d → ¬ (s.dock n).records b = true := fun n apart known => alone n apart ((recorded n).mp known)
    have nothing := State.leaveOther_unrecorded unrecorded
    have arrived : t = s.arrive d b := State.bikeArrives_empty empty
    obtain ⟨card, docked', arrival⟩ := State.arrive_spec inside once (m := s) (by rw [nothing]; exact .refl s)
    obtain ⟨-, -, -, -, base⟩ := s.arrive_dock inside b
    simp only [docked, stays, arrived]
    refine ⟨card, docked', arrival, fun n apart => ?_⟩
    obtain ⟨state, bike, -⟩ := Dock.shown_of_base (base n apart)
    rw [nothing] at state bike
    exact ⟨bike, state⟩
  · have known := (recorded n).mpr here
    have found : s.dockOf b d = some n :=
      State.dockOf_lowest apart known fun m below other known => lowest m below other ((recorded m).mp known)
    have there : 1 ≤ n ∧ n ≤ 24 := by
      obtain ⟨x, bike, -⟩ := (Dock.records_iff _ _).mp known
      exact State.inTable_of_bike bike
    have arrived : t = s.arrive d b := State.bikeArrives_empty empty
    obtain ⟨-, -, -, -, base⟩ := s.arrive_dock inside b
    simp only [docked, stays, arrived]
    refine ⟨s.arrive_left inside found, fun still => ?_, fun releasing runs count => ?_⟩
    · have left := State.leaveOther_settled found still
      obtain ⟨card, docked', arrival⟩ := State.arrive_spec (s := s) (m := s) inside once (b := b) (by
        rw [left]
        exact (State.Arriving.refl s).updateDock n (by simp [Dock.deserted]))
      refine ⟨card, docked', arrival, ?_⟩
      rw [(Dock.shown_of_base (base n apart)).1, left, (Dock.shown_of_base (s.base_updateDock_self Dock.deserted there)).1]
      exact (s.dock n).deserted_frame.2.2
    · have left := State.leaveOther_released found releasing
      let w : State := { s with du := { s.du with polled := some (n, .event) } }
      have state' : ((w.postHeard n).dock n).state = .releasing := by rw [w.postHeard_dock there]; exact releasing
      obtain ⟨card, docked', arrival⟩ := State.arrive_spec (s := s) (m := (w.postHeard n).completeRelease n) inside once (b := b) (by
        rw [left]
        exact (s.completeRelease_twin there _).toArriving)
      have out : exec (.bikeOut n) w = .next ((w.postHeard n).bikeLeaves n) :=
        congrArg Host.Outcome.next (State.takeAnswer_event (s := w) runs ⟨there.1, count⟩ rfl _ _)
      rw [State.bikeLeaves_releasing state'] at out
      obtain ⟨state, -, -, release, -, -, -, -, -, -, -, -, -, lock⟩ := Dock.fields_of_base (base n apart)
      obtain ⟨taken, -, ended, -, -, locked⟩ := s.completeRelease_taken there
      rw [left] at state release lock
      exact ⟨_, card, out, docked', arrival, state.trans taken, release.trans ended, lock.trans locked⟩
  · have unavailable : t = s.arriveUnavailable d b :=
      State.bikeArrives_unavailable withdrawn fun known => new ((recorded d).mp known)
    obtain ⟨⟨card, arrival⟩, state, bike, window, transient, base⟩ := s.arriveUnavailable_spec inside b once
    simp only [stays, unavailable]
    refine ⟨card, arrival, state, bike, window, transient, fun n apart => ?_⟩
    obtain ⟨state, bike, -⟩ := Dock.shown_of_base (base n apart)
    exact ⟨bike, state⟩

end Sys2Proof.Machine
end

section
/-!
PROOFS. What a heartbeat leaves of the clock, the image and the posts' silence timers (R42, R45, R58, R59).
-/
namespace Sys2Proof.Machine
open Sys2Proof

/-- What the posts' silence timers speak of in a dock. -/
def Dock.bus (k : Dock) : Bool × Millis × Time := (k.silent, k.silenceStart, k.lastHeard)

theorem Dock.bus_of_base {k l : Dock} (h : k.base = l.base) : k.bus = l.bus := by
  obtain ⟨-, -, -, -, -, -, -, start, silent, -, last, -⟩ := Dock.fields_of_base h
  rw [Dock.bus, Dock.bus, silent, start, last]

@[simp] theorem Dock.bus_enter (k : Dock) (st : DockState) : (k.enter st).bus = k.bus := by
  simp [Dock.bus]

@[simp] theorem Dock.bus_endRelease (k : Dock) (st : DockState) : (k.endRelease st).bus = k.bus := by
  rw [Dock.endRelease, Dock.bus_enter]
  rfl

@[simp] theorem Dock.bus_show (k : Dock) (p : Lamp) (t : Millis) : (k.show p t).bus = k.bus := rfl

@[simp] theorem Dock.bus_placeResting (k : Dock) : k.placeResting.bus = k.bus := Dock.bus_of_base (by simp)

@[simp] theorem Dock.bus_refresh (du : Du) (k : Dock) : (k.refresh du).bus = k.bus := Dock.bus_of_base (by simp)

@[simp] theorem Dock.bus_settle (k : Dock) : k.settle.bus = k.bus := k.bus_enter _

@[simp] theorem Dock.bus_robbed (k : Dock) : k.robbed.bus = k.bus := by
  unfold Dock.robbed
  dsimp only
  split
  · rw [Dock.bus_enter]
    rfl
  · rfl

/-- The state t has the clock, the image, the timebase, the draws and the pending events of s, no poll s had not, and the posts' silence
timers as they were. -/
structure State.BusKept (s t : State) : Prop where
  rest : t.clk = s.clk ∧ t.sup = s.sup ∧ t.timebase = s.timebase ∧ t.draws = s.draws ∧ t.pending = s.pending
  polled : t.du.polled = s.du.polled ∨ t.du.polled = none
  bus : ∀ n, (t.dock n).bus = (s.dock n).bus

namespace State.BusKept
variable {s t u : State}

theorem refl (s : State) : s.BusKept s := ⟨⟨rfl, rfl, rfl, rfl, rfl⟩, .inl rfl, fun _ => rfl⟩

theorem trans (h : s.BusKept t) (k : t.BusKept u) : s.BusKept u := by
  obtain ⟨clk, sup, timebase, draws, pending⟩ := h.rest
  obtain ⟨clk', sup', timebase', draws', pending'⟩ := k.rest
  refine ⟨⟨clk'.trans clk, sup'.trans sup, timebase'.trans timebase, draws'.trans draws, pending'.trans pending⟩, ?_,
    fun n => (k.bus n).trans (h.bus n)⟩
  obtain same | gone := k.polled
  · rw [same]
    exact h.polled
  · exact .inr gone

/-- An operation that leaves the dock unit. -/
theorem of_du (rest : t.clk = s.clk ∧ t.sup = s.sup ∧ t.timebase = s.timebase ∧ t.draws = s.draws ∧ t.pending = s.pending)
    (du : t.du = s.du) : s.BusKept t :=
  ⟨rest, .inl (by rw [du]), fun n => by rw [State.dock_congr du]⟩

theorem updateDock (h : s.BusKept t) (n : Nat) {f : Dock → Dock} (hf : ∀ k, (f k).bus = k.bus) : s.BusKept (t.updateDock n f) := by
  refine h.trans ⟨by simp, .inl (State.updateDock_du _ _ _).2.2.1, fun m => ?_⟩
  have base := t.base_updateDock n m f
  split at base
  · next here => rw [Dock.bus_of_base base, hf, here.1]
  · exact Dock.bus_of_base base

theorem setBikePart (h : s.BusKept t) (b : Bike) (f : BikeStatus → BikeStatus) : s.BusKept (t.setBikePart b f) := by
  refine h.trans ⟨by simp, .inl ?_, fun n => Dock.bus_of_base (by simp)⟩
  unfold State.setBikePart
  split <;> exact (State.setBikes_du _ _ _).2.2.1

theorem setMissing (h : s.BusKept t) (b : Bike) (n : Node) (e : Time) : s.BusKept (t.setMissing b n e) := h.setBikePart b _

theorem removeMissing (h : s.BusKept t) (b : Bike) : s.BusKept (t.removeMissing b) :=
  h.trans ⟨by simp, .inl (State.setBikes_du _ _ _).2.2.1, fun n => Dock.bus_of_base (by simp)⟩

theorem abandonForQuarantine (h : s.BusKept t) (b : Bike) (n : Nat) : s.BusKept (t.abandonForQuarantine b n) := by
  unfold State.abandonForQuarantine
  split
  · refine h.updateDock n fun k => ?_
    rw [Dock.bus_show]
    exact k.bus_endRelease _
  · exact h

theorem setQuarantine (h : s.BusKept t) (b : Bike) (i : Ident) (v : Nat) : s.BusKept (t.setQuarantine b i v) := by
  unfold State.setQuarantine
  generalize hu : t.setBikePart b _ = u
  have part : s.BusKept u := hu ▸ h.setBikePart b _
  clear hu
  induction dockNumbers generalizing u with
  | nil => exact part
  | cons n l ih => exact ih _ (part.abandonForQuarantine b n)

theorem report_bike (h : s.BusKept t) (b : Bike) (k : FaultKind) : s.BusKept (t.report (.bike b) k 3) := by
  obtain ⟨u, i, v, logged, -, du⟩ := t.report_bike_severe b k
  obtain ⟨-, polled, bus⟩ := (State.BusKept.refl u).setQuarantine b i v
  refine h.trans ⟨by simp, ?_, fun n => ?_⟩
  · rw [du, ← logged.du]
    exact polled
  · rw [State.dock_congr du, bus, logged.dock]

theorem forcedRemoval (h : s.BusKept t) (d : Nat) (b : Bike) : s.BusKept (t.forcedRemoval d b) := by
  rw [State.forcedRemoval_eq]
  exact ((h.report_bike b _).setMissing b _ _).updateDock d Dock.bus_robbed

theorem completeRelease (h : s.BusKept t) (d : Nat) : s.BusKept (t.completeRelease d) := by
  have taken := h.updateDock d (f := Dock.taken) fun k => by rw [Dock.taken, Dock.bus_enter]; rfl
  unfold State.completeRelease
  dsimp only
  split
  · exact taken.trans (.of_du (t := (t.updateDock d Dock.taken).openHire d _ _) (by simp) (by simp))
  · exact taken.trans (.of_du (t := (t.updateDock d Dock.taken).takeRecorded d _) (by simp) (by simp))
  · exact taken

theorem bikeLeaves (h : s.BusKept t) (d : Nat) : s.BusKept (t.bikeLeaves d) := by
  unfold State.bikeLeaves
  split
  · exact h.completeRelease d
  · split
    · exact h.forcedRemoval d _
    · exact h
  · split
    · exact h.forcedRemoval d _
    · exact h
  · split
    · exact h.forcedRemoval d _
    · exact h
  · exact h
  · exact h

theorem arrival (h : s.BusKept t) (d : Nat) (b : Bike) (startUp : Bool) : s.BusKept (t.arrival d b startUp).1 := by
  refine h.trans ⟨?_, ((State.DocksKept.refl (c := none) t).arrival d b startUp).polled,
    fun n => Dock.bus_of_base (t.base_arrival d b startUp n)⟩
  unfold State.arrival
  split
  · dsimp only
    split <;> simp
  · split
    · simp
    · split
      · next u moved =>
        unfold State.delivery at moved
        split at moved
        · cases moved
        · split at moved
          · cases moved
            simp
          · cases moved
      · split
        · simp
        · simp [State.returnHere]

theorem leaveOther (h : s.BusKept t) (d : Nat) (b : Bike) : s.BusKept (t.leaveOther d b) := by
  unfold State.leaveOther
  split
  · exact h
  · split
    · exact h.completeRelease _
    · refine h.updateDock _ fun k => ?_
      rw [Dock.bus_settle]
      rfl

theorem arrive (h : s.BusKept t) (d : Nat) (b : Bike) : s.BusKept (t.arrive d b) := by
  have docked := (h.leaveOther d b).updateDock d (f := fun k => k.docked b t.now) fun k => by
    rw [Dock.docked, Dock.bus_enter]
    rfl
  rw [State.arrive_eq]
  exact ((docked.removeMissing b).arrival d b false).updateDock d fun k => rfl

theorem arriveUnavailable (h : s.BusKept t) (d : Nat) (b : Bike) : s.BusKept (t.arriveUnavailable d b) := by
  rw [State.arriveUnavailable_eq]
  exact ((h.updateDock d (f := fun k => { k with bike := some { bike := b, time := t.now }, window := none })
    fun k => rfl).removeMissing b).arrival d b false

theorem bikeArrives (h : s.BusKept t) (d : Nat) (b : Bike) : s.BusKept (t.bikeArrives d b) := by
  unfold State.bikeArrives
  split
  · exact h.arrive d b
  · split
    · exact h
    · exact (h.bikeLeaves d).arrive d b
  · split
    · exact h
    · exact (h.bikeLeaves d).arrive d b
  · split
    · exact h
    · exact h.arriveUnavailable d b
  · split
    · exact h
    · exact h.arriveUnavailable d b
  · exact h

theorem compareHeartbeat (h : s.BusKept t) (d : Nat) (b : Bike) : s.BusKept (t.compareHeartbeat d b) := by
  unfold State.compareHeartbeat
  split
  · split
    · exact h
    · exact h.bikeArrives d b
  · split
    · exact h.bikeLeaves d
    · split
      · exact h
      · exact (h.bikeLeaves d).bikeArrives d b

theorem firstHeartbeat (h : s.BusKept t) (d : Nat) (b : Bike) : s.BusKept (t.firstHeartbeat d b) := by
  have heard := h.updateDock d (f := fun k => { k with heard := true }) fun _ => rfl
  have first : s.BusKept (t.heardFirst d b) := by
    unfold State.heardFirst
    dsimp only
    split
    · exact heard
    · exact ((heard.updateDock d (f := fun k => { k with bike := some { bike := b, time := t.now } })
        fun _ => rfl).removeMissing b).arrival d b true
  rw [State.firstHeartbeat_eq]
  exact first.updateDock d fun k => by simp

theorem recovered (h : s.BusKept t) (d : Nat) : s.BusKept (t.recovered d) := by
  have cleared : s.BusKept (t.clearPostSilent d) := h.trans (.of_du ⟨rfl, rfl, rfl, rfl, rfl⟩ rfl)
  unfold State.recovered
  dsimp only
  split
  · exact cleared.updateDock d fun k => k.bus_settle
  · exact cleared

theorem recoverPost (h : s.BusKept t) (d : Nat) (b : Bike) : s.BusKept (t.recoverPost d b) := by
  rw [State.recoverPost_eq]
  refine ((h.recovered d).compareHeartbeat d b).updateDock d fun k => ?_
  split <;> simp

end State.BusKept

/-! ### Polls and answers that do not come (R41, R188) -/

theorem Dock.pollKind_eq (k : Dock) :
    k.pollKind = if k.state = .offline ∨ k.silent = true ∨ k.heard = false then .status else .event := by
  simp [Dock.pollKind]

/-- A heartbeat that answers the poll outstanding is taken once the answer is noted. -/
theorem State.takeAnswer_heartbeat {s : State} {d : Nat} {kind : PollKind} (runs : s.busRuns = true)
    (configured : 1 ≤ d ∧ d ≤ s.sup.image.dockCount) (polled : s.du.polled = some (d, kind)) (event : State → State) :
    s.takeAnswer d true event = event (s.postHeard d) :=
  if_pos (by simp [State.answersPoll, State.dockConfigured, runs, configured, polled])

end Sys2Proof.Machine
end

section
/-!
PROOFS. The first heartbeat of a post since start, and the start-up arrival (R59, R77, R78).
-/
namespace Sys2Proof.Machine
open Sys2Proof

/-! ### The dock settled -/

/-- The dock after the first heartbeat of its post, before it is settled. -/
def Dock.firstHeard (k : Dock) (b : Bike) (t : Time) : Dock :=
  { k with heard := true, bike := if b = 0 then k.bike else some { bike := b, time := t } }

/-- The state a start-up arrival is handed on in. -/
def State.found (s : State) (d : Nat) (b : Bike) : State :=
  ((s.updateDock d fun k => { k with heard := true }).updateDock d fun k =>
    { k with bike := some { bike := b, time := s.now } }).removeMissing b

theorem State.heardFirst_none (s : State) (d : Nat) : s.heardFirst d 0 = s.updateDock d fun k => { k with heard := true } := rfl

theorem State.heardFirst_bike (s : State) (d : Nat) {b : Bike} (h : b ≠ 0) :
    s.heardFirst d b = ((s.found d b).arrival d b true).1 := by
  have now : (s.updateDock d fun k => { k with heard := true }).now = s.now := by simp [State.now]
  exact if_neg h

theorem State.base_found (s : State) {d : Nat} (inside : 1 ≤ d ∧ d ≤ 24) {b : Bike} (h : b ≠ 0) :
    ((s.found d b).dock d).base = ((s.dock d).firstHeard b s.now).base := by
  obtain ⟨state, bike, mark, release, untaken, refusal, window, start, silent, heard, last, disabled, transient, lock⟩ :=
    Dock.fields_of_base (s.base_updateDock_self (fun k => { k with heard := true }) inside)
  rw [State.found, State.base_removeMissing, State.base_updateDock_self _ _ inside]
  simp [Dock.base, Dock.firstHeard, *]

theorem State.base_heardFirst (s : State) {d : Nat} (inside : 1 ≤ d ∧ d ≤ 24) (b : Bike) :
    ((s.heardFirst d b).dock d).base = ((s.dock d).firstHeard b s.now).base := by
  by_cases h : b = 0
  · rw [h, State.heardFirst_none, State.base_updateDock_self _ _ inside]
    rfl
  · rw [State.heardFirst_bike _ _ h, State.base_arrival, s.base_found inside h]

theorem State.base_heardFirst_other (s : State) {d n : Nat} (other : n ≠ d) (b : Bike) :
    ((s.heardFirst d b).dock n).base = (s.dock n).base := by
  by_cases h : b = 0
  · rw [h, State.heardFirst_none, State.dock_updateDock_ne _ _ _ _ other]
  · rw [State.heardFirst_bike _ _ h, State.base_arrival, State.found, State.base_removeMissing, State.dock_updateDock_ne _ _ _ _ other,
      State.dock_updateDock_ne _ _ _ _ other]

theorem Dock.settle_base {k l : Dock} (h : k.base = l.base) : k.settle.state = l.settle.state ∧
    k.settle.bike = l.bike ∧ k.settle.heard = l.heard ∧ k.settle.window = l.window ∧
    (l.transient = none → k.settle.transient = none) := by
  obtain ⟨-, bike, mark, -, -, -, window, -, silent, heard, -, disabled, transient, -⟩ := Dock.fields_of_base h
  refine ⟨by simp [Dock.settledState, bike, mark, silent, disabled], by simp [bike], by simp [heard], by simp [Dock.settle, window],
    fun none_runs => ?_⟩
  rw [Dock.settle, Dock.enter]
  split
  · rfl
  · exact transient.trans none_runs

/-- The dock the first heartbeat leaves (R59). -/
theorem State.firstHeartbeat_dock (s : State) {d : Nat} (inside : 1 ≤ d ∧ d ≤ 24) (b : Bike) :
    ((s.firstHeartbeat d b).dock d).state = ((s.dock d).firstHeard b s.now).settledState ∧
    ((s.firstHeartbeat d b).dock d).bike = ((s.dock d).firstHeard b s.now).bike ∧
    ((s.firstHeartbeat d b).dock d).heard = true ∧ ((s.firstHeartbeat d b).dock d).window = (s.dock d).window ∧
    ((s.dock d).transient = none → ((s.firstHeartbeat d b).dock d).transient = none) := by
  have base := (s.heardFirst d b).base_updateDock_self (fun k => (k.settle.refresh (s.heardFirst d b).du).placeResting) inside
  rw [Dock.base_placeResting, Dock.base_refresh] at base
  obtain ⟨state, bike, -, -, -, -, window, -, -, heard, -, -, transient, -⟩ := Dock.fields_of_base base
  obtain ⟨state', bike', heard', window', transient'⟩ := Dock.settle_base (s.base_heardFirst inside b)
  rw [State.firstHeartbeat_eq]
  exact ⟨state.trans (state'.trans (by simp)), bike.trans bike', heard.trans heard', window.trans window',
    fun h => transient.trans (transient' h)⟩

theorem State.firstHeartbeat_other (s : State) {d n : Nat} (other : n ≠ d) (b : Bike) :
    ((s.firstHeartbeat d b).dock n).base = (s.dock n).base := by
  rw [State.firstHeartbeat_eq, State.dock_updateDock_ne _ _ _ _ other, s.base_heardFirst_other other]

/-! ### The bikes that an arrival leaves listed -/

theorem mem_updateFirst_other {b : Bike} {f : BikeStatus → BikeStatus} (hf : ∀ e, (f e).bike = e.bike) {l : List BikeStatus}
    {e : BikeStatus} (h : e.bike ≠ b) : e ∈ updateFirst (fun e => decide (e.bike = b)) f l ↔ e ∈ l := by
  induction l with
  | nil => rfl
  | cons x l ih =>
    by_cases here : x.bike = b
    · have moved : e ≠ f x := fun same => h (by rw [same, hf, here])
      have apart : e ≠ x := fun same => h (by rw [same, here])
      simp [updateFirst, here, moved, apart]
    · simp [updateFirst, here, ih]

theorem State.removeMissing_others (s : State) (b : Bike) {e : BikeStatus} (h : e.bike ≠ b) :
    e ∈ (s.removeMissing b).du.bikes ↔ e ∈ s.du.bikes := by
  rw [State.removeMissing, State.clearBikePart, (State.setBikes_du _ _ _).1, List.mem_filter,
    mem_updateFirst_other (f := fun e => { e with missing := none }) (fun _ => rfl) h]
  simp [h]

theorem State.found_bikes (s : State) (d : Nat) (b : Bike) :
    ((s.du.bikes.map (·.bike)).Nodup → ∀ e ∈ (s.found d b).du.bikes, e.bike = b → e.missing = none) ∧
    ∀ e, e.bike ≠ b → (e ∈ (s.found d b).du.bikes ↔ e ∈ s.du.bikes) := by
  refine ⟨fun once => State.removeMissing_found (by simpa using once), fun e h => ?_⟩
  rw [State.found, State.removeMissing_others _ _ h, (State.updateDock_du _ _ _).1, (State.updateDock_du _ _ _).1]

/-! ### The end of a hire here -/

/-- The end of a hire here changes of the kiosk link the SETTLEMENT cause alone. -/
theorem State.closeOwned_kl (s : State) (o : OwnedHire) (t : Time) (n : Node) (g : Nat) : (s.closeOwned o t n g).kl = { s.kl with
    raised := { s.kl.raised with settlement := (s.closeOwned o t n g).kl.raised.settlement } } := by
  have posted (u : State) (b : RecordBody) (i : Nat) : (u.postMoney b i).kl =
      { u.kl with raised := { u.kl.raised with settlement := (u.postMoney b i).kl.raised.settlement } } := by
    unfold State.postMoney
    dsimp only
    split <;> exact (State.evaluateSettlement_kl _).trans (by simp)
  have kept := posted (s.setFu { s.fu with spend := addSpend s.fu.spend o.fields.card (priceHire (s.questionOf o.fields t n g)).capped })
    (.charge { node := s.node, serial := o.fields.serial } o.fields.card o.fields.cls o.fields.bike o.fields.start t n
      (priceHire (s.questionOf o.fields t n g)).minutes o.fields.band (priceHire (s.questionOf o.fields t n g)).amount
      (priceHire (s.questionOf o.fields t n g)).flags) o.slot
  simpa [State.closeOwned] using kept

@[simp] theorem State.closeOwned_bu (s : State) (o : OwnedHire) (t : Time) (n : Node) (g : Nat) :
    (s.closeOwned o t n g).bu.session = s.bu.session ∧ (s.closeOwned o t n g).bu.claims = s.bu.claims ∧
    (s.closeOwned o t n g).bu.ring = s.bu.ring := by
  simp [State.closeOwned]

/-- The end of a hire here changes the hires owned and settled, and no other list. -/
theorem State.closeOwned_hu (s : State) (o : OwnedHire) (t : Time) (n : Node) (g : Nat) : (s.closeOwned o t n g).hu = { s.hu with
    owned := (s.closeOwned o t n g).hu.owned, settled := (s.closeOwned o t n g).hu.settled } := by
  simp [State.closeOwned, State.setOwned, State.pushSettled, State.setSettled]

/-! ### The start-up arrival (R59, R77) -/

theorem State.forgetHeard_hu (s : State) (b : Bike) :
    (s.forgetHeard b).hu = { s.hu with heard := s.hu.heard.filter fun e => decide (e.bike ≠ b) } := by
  simp [State.forgetHeard, State.setHeard]

theorem State.arrival_owned_startUp {s : State} (d : Nat) {b : Bike} {o : OwnedHire} (h : s.ownedOf b = some o) :
    (s.arrival d b true).1 = (s.forgetHeard b).closeOwned o (s.forgetHeard b).now (s.forgetHeard b).node
      (s.forgetHeard b).clk.dom.grade := by
  rw [State.arrival_owned d h]
  rfl

/-- The first heartbeat that reports a bike, seen from before: the bike listed as it was but for its missing part. -/
theorem State.firstHeartbeat_du (s : State) (d : Nat) {b : Bike} (h : b ≠ 0) :
    (s.firstHeartbeat d b).du.bikes = (s.found d b).du.bikes ∧ (s.firstHeartbeat d b).bu.ring = s.bu.ring ∧
    (s.firstHeartbeat d b).bu.session = s.bu.session ∧ (s.firstHeartbeat d b).bu.claims = s.bu.claims := by
  have handed : ((s.found d b).arrival d b true).1.du = (s.found d b).du ∧ ((s.found d b).arrival d b true).1.bu.ring = s.bu.ring ∧
      ((s.found d b).arrival d b true).1.bu.session = s.bu.session ∧ ((s.found d b).arrival d b true).1.bu.claims = s.bu.claims := by
    cases owned : (s.found d b).ownedOf b with
    | none =>
      rw [State.arrival_startUp d owned]
      simp [State.found]
    | some o =>
      rw [State.arrival_owned d owned]
      simp [State.found]
  obtain ⟨du, ring, session, claims⟩ := handed
  rw [State.firstHeartbeat_eq, s.heardFirst_bike d h, (State.updateDock_du _ _ _).1, du]
  simp [ring, session, claims]

theorem State.found_rest (s : State) (d : Nat) (b : Bike) :
    s.found d b = { s with du := (s.found d b).du, bu := (s.found d b).bu } := by
  apply State.eq_of_blocks <;> simp [State.found]

/-- A start-up arrival of a bike that no owned hire holds. -/
theorem State.firstHeartbeat_free (s : State) (d : Nat) {b : Bike} (h : b ≠ 0) (free : ∀ o ∈ s.hu.owned, o.fields.bike ≠ b) :
    s.firstHeartbeat d b = { s with
      du := (s.firstHeartbeat d b).du, bu := (s.firstHeartbeat d b).bu,
      hu := { s.hu with heard := s.hu.heard.filter fun e => decide (e.bike ≠ b) } } := by
  have hu : (s.found d b).hu = s.hu := (congrArg State.hu (s.found_rest d b) :)
  have unheld : (s.found d b).ownedOf b = none := State.ownedOf_of_none (by rw [hu]; exact free)
  have found := s.found_rest d b
  rw [State.firstHeartbeat_eq, s.heardFirst_bike d h, State.arrival_startUp d unheld]
  generalize s.found d b = u at found hu
  have lists := u.forgetHeard_hu b
  rw [hu] at lists
  apply State.eq_of_blocks <;> simp [lists]
  all_goals rw [found]

/-- A start-up arrival of a bike that an owned hire holds: the hire ends here (R78). -/
theorem State.firstHeartbeat_owned (s : State) (d : Nat) {b : Bike} (h : b ≠ 0) {before rest : List OwnedHire} {o : OwnedHire}
    (listed : s.hu.owned = before ++ o :: rest) (same : o.fields.bike = b) (first : ∀ x ∈ before, x.fields.bike ≠ b) :
    let t := s.firstHeartbeat d b
    s.ClosedHere t o ∧
    t.hu = { s.hu with
      heard := s.hu.heard.filter fun e => decide (e.bike ≠ b), owned := t.hu.owned, settled := t.hu.settled } ∧
    t = { s with
      du := t.du, bu := t.bu, hu := t.hu, fu := t.fu, sq := t.sq, slc := t.slc, jnl := t.jnl,
      kl := { s.kl with raised := { s.kl.raised with settlement := t.kl.raised.settlement } } } := by
  intro t
  have found := s.found_rest d b
  have hu : (s.found d b).hu = s.hu := (congrArg State.hu found :)
  have owned : (s.found d b).ownedOf b = some o := State.ownedOf_middle (by rw [hu]; exact listed) same first
  have handed := State.arrival_owned_startUp d owned
  obtain ⟨m, hm⟩ : ∃ m, m = (s.found d b).forgetHeard b := ⟨_, rfl⟩
  rw [← hm] at handed
  have lists : m.hu = { s.hu with heard := s.hu.heard.filter fun e => decide (e.bike ≠ b) } := by
    rw [hm, State.forgetHeard_hu, hu]
  have before : m = { s with du := m.du, bu := m.bu, hu := m.hu } := by
    rw [hm]
    generalize s.found d b = u at found
    rw [found]
    rfl
  have closed := m.closeOwned_closedHere o
  have hires := m.closeOwned_hu o m.now m.node m.clk.dom.grade
  have kl := m.closeOwned_kl o m.now m.node m.clk.dom.grade
  have frame := m.closeOwned_frame o m.now m.node m.clk.dom.grade
  generalize m.closeOwned o m.now m.node m.clk.dom.grade = v at handed closed hires kl frame
  have ended : t = v.updateDock d fun k => (k.settle.refresh v.du).placeResting := by
    show s.firstHeartbeat d b = _
    rw [State.firstHeartbeat_eq, s.heardFirst_bike d h, handed]
  have after : t = { v with du := t.du, bu := t.bu } := by
    rw [ended]
    apply State.eq_of_blocks <;> simp
  have hu' : t.hu = v.hu := (congrArg State.hu after :)
  have kl' : t.kl = v.kl := (congrArg State.kl after :)
  obtain ⟨clk, -, flt, sup, timebase, draws, pending⟩ := frame
  rw [hm] at closed
  refine ⟨closed.forgetting.between found after, ?_, ?_⟩
  · rw [lists] at hires
    rw [hu']
    exact hires
  · have kept : v.kl = { s.kl with raised := { s.kl.raised with settlement := v.kl.raised.settlement } } := by
      have same : m.kl = s.kl := (congrArg State.kl before :)
      rwa [same] at kl
    refine State.eq_of_blocks ?_ rfl rfl rfl rfl ?_ rfl rfl rfl ?_ ?_ ?_ ?_ ?_
    · exact ((congrArg State.clk after :).trans clk).trans (congrArg State.clk before :)
    · exact ((congrArg State.flt after :).trans flt).trans (congrArg State.flt before :)
    · rw [kl']
      exact kept
    · exact ((congrArg State.sup after :).trans sup).trans (congrArg State.sup before :)
    · exact ((congrArg State.timebase after :).trans timebase).trans (congrArg State.timebase before :)
    · exact ((congrArg State.draws after :).trans draws).trans (congrArg State.draws before :)
    · exact ((congrArg State.pending after :).trans pending).trans (congrArg State.pending before :)

end Sys2Proof.Machine
end

section
/-!
PROOFS. States that differ in a lamp slot alone: what is done to both leaves them so (R44, R63, R64).
-/
namespace Sys2Proof.Machine
open Sys2Proof

theorem Du.quarantined_congr {d e : Du} (bikes : e.bikes = d.bikes) : e.quarantined = d.quarantined := by
  funext b
  rw [Du.quarantined, bikes, Du.quarantined]

/-- The state v is u but for what stands in the lamp slot of dock d. -/
structure State.Unlit (d : Nat) (u v : State) : Prop where
  rest : v = { u with du := v.du }
  du : v.du = { u.du with docks := v.du.docks }
  other : ∀ n, n ≠ d → v.dock n = u.dock n
  here : v.dock d = { u.dock d with lampSlot := (v.dock d).lampSlot }

namespace State.Unlit
variable {d : Nat} {u v : State}

theorem refl (d : Nat) (u : State) : u.Unlit d u := ⟨rfl, rfl, fun _ _ => rfl, rfl⟩

section
variable (h : u.Unlit d v)
include h

/-! ### What reads alike in both -/

theorem dock (n : Nat) : ∃ l, v.dock n = { u.dock n with lampSlot := l } := by
  by_cases here : n = d
  · exact ⟨_, here ▸ h.here⟩
  · exact ⟨_, h.other n here⟩

theorem base (n : Nat) : (v.dock n).base = (u.dock n).base := by
  obtain ⟨l, e⟩ := h.dock n
  rw [e]
  rfl

theorem bikes : v.du.bikes = u.du.bikes := (congrArg Du.bikes h.du :)

theorem quarantined : v.du.quarantined = u.du.quarantined := Du.quarantined_congr h.bikes

theorem members : v.du.memberReleases = u.du.memberReleases :=
  le_antisymm (Du.memberReleases_le fun n e => (Dock.forMember_of_base (h.base n)).symm.trans e)
    (Du.memberReleases_le fun n e => (Dock.forMember_of_base (h.base n)).trans e)

theorem counted (p : Dock → Bool) (hp : ∀ (k : Dock) l, p { k with lampSlot := l } = p k) :
    v.configured.countP p = u.configured.countP p := by
  have sup : v.sup = u.sup := (congrArg State.sup h.rest :)
  rw [State.configured, State.configured, Du.docks_toList, Du.docks_toList, sup, ← List.map_take, ← List.map_take, List.countP_map,
    List.countP_map]
  refine List.countP_congr fun n _ => ?_
  obtain ⟨l, e⟩ := h.dock n
  simp only [State.dock] at e
  rw [Function.comp_apply, Function.comp_apply, e, hp]

theorem countA : v.countA = u.countA := by
  rw [State.countA, h.quarantined]
  exact h.counted _ fun _ _ => rfl

theorem countQd : v.countQd = u.countQd := by
  rw [State.countQd, h.quarantined]
  exact h.counted _ fun _ _ => rfl

theorem countW : v.countW = u.countW := h.counted _ fun _ _ => rfl

theorem limit : v.noteLimit = u.noteLimit := by
  rw [State.noteLimit, h.members, (congrArg State.hu h.rest :), State.noteLimit]

theorem node : v.node = u.node := congrArg (fun x => x.image.node) (congrArg State.sup h.rest :)

theorem now : v.now = u.now := congrArg (fun x => x.dom.time) (congrArg State.clk h.rest :)

/-! ### Operations that leave the dock unit -/

/-- The results of an operation that leaves the dock unit, where both are the same but for it. -/
theorem of_rest {u' v' : State} (rest : v' = { u' with du := v.du }) (du : u'.du = u.du) : u'.Unlit d v' := by
  have du' : v'.du = v.du := (congrArg State.du rest :)
  refine ⟨by rw [du']; exact rest, by rw [du', du]; exact h.du, fun n other => ?_, ?_⟩
  · rw [State.dock_congr du', State.dock_congr du, h.other n other]
  · rw [State.dock_congr du', State.dock_congr du, ← h.here]

/-- An operation that reads nothing of the dock unit. -/
theorem blind {f : State → State} (hf : ∀ x, f { u with du := x } = { f u with du := x }) (du : (f u).du = u.du) :
    (f u).Unlit d (f v) := by
  refine h.of_rest ?_ du
  conv_lhs => rw [h.rest]
  exact hf _

theorem setFlt (b : Flt) : (u.setFlt b).Unlit d (v.setFlt b) := h.blind (f := fun s => s.setFlt b) (fun _ => rfl) rfl
theorem setFu (b : Fu) : (u.setFu b).Unlit d (v.setFu b) := h.blind (f := fun s => s.setFu b) (fun _ => rfl) rfl
theorem setHu (b : Hu) : (u.setHu b).Unlit d (v.setHu b) := h.blind (f := fun s => s.setHu b) (fun _ => rfl) rfl
theorem setBu (b : Bu) : (u.setBu b).Unlit d (v.setBu b) := h.blind (f := fun s => s.setBu b) (fun _ => rfl) rfl
theorem setSq (b : Sq) : (u.setSq b).Unlit d (v.setSq b) := h.blind (f := fun s => s.setSq b) (fun _ => rfl) rfl
theorem mark (x : Slot) : (u.mark x).Unlit d (v.mark x) := h.blind (f := fun s => s.mark x) (fun _ => rfl) rfl
theorem raise (x : Cause) : (u.raise x).Unlit d (v.raise x) := h.blind (f := fun s => s.raise x) (fun _ => rfl) rfl
theorem setLog (l : List FaultEntry) : (u.setLog l).Unlit d (v.setLog l) := h.blind (f := fun s => s.setLog l) (fun _ => rfl) rfl
theorem useFaultSerial : u.useFaultSerial.Unlit d v.useFaultSerial := h.blind (f := State.useFaultSerial) (fun _ => rfl) rfl
theorem setOwned (l : List OwnedHire) : (u.setOwned l).Unlit d (v.setOwned l) := h.blind (f := fun s => s.setOwned l) (fun _ => rfl) rfl
theorem setSettled (l : List SettledHire) : (u.setSettled l).Unlit d (v.setSettled l) :=
  h.blind (f := fun s => s.setSettled l) (fun _ => rfl) rfl
theorem setPendingClose (l : List PendingClose) : (u.setPendingClose l).Unlit d (v.setPendingClose l) :=
  h.blind (f := fun s => s.setPendingClose l) (fun _ => rfl) rfl
theorem forgetHeard (b : Bike) : (u.forgetHeard b).Unlit d (v.forgetHeard b) :=
  h.blind (f := fun s => s.forgetHeard b) (fun _ => rfl) rfl
theorem setSession (ss : Session) : (u.setSession ss).Unlit d (v.setSession ss) :=
  h.blind (f := fun s => s.setSession ss) (fun _ => rfl) rfl
theorem collectFaults (b : Bike) : (u.collectFaults b).Unlit d (v.collectFaults b) :=
  h.blind (f := fun s => s.collectFaults b) (fun _ => rfl) rfl
theorem pushSettled (o : OwnedFields) (e : Option (Node × Time)) (r : HireOutcome) :
    (u.pushSettled o e r).Unlit d (v.pushSettled o e r) := h.blind (f := fun s => s.pushSettled o e r) (fun _ => rfl) rfl

theorem originate (b : NoticeBody) (n : Node) : (u.originate b n).Unlit d (v.originate b n) := by
  refine h.blind (f := fun s => s.originate b n) (fun x => ?_) (by simp)
  have slc : (State.originate { u with du := x } b n).slc = (u.originate b n).slc := State.originate_slc_congr _ _ rfl rfl rfl
  rw [State.originate_frame_eq { u with du := x }, slc, u.originate_frame_eq]
  unfold State.touchVanSession
  dsimp only
  cases u.bu.vanSession with
  | none => rfl
  | some y =>
    dsimp only
    split <;> rfl

theorem flood (b : NoticeBody) : (u.flood b).Unlit d (v.flood b) := h.originate b 0

theorem evaluateSettlement : u.evaluateSettlement.Unlit d v.evaluateSettlement := by
  refine h.blind (f := State.evaluateSettlement) (fun x => ?_) (by simp)
  unfold State.evaluateSettlement
  dsimp only
  split <;> rfl

theorem postNote (b : RecordBody) : (u.postNote b).Unlit d (v.postNote b) := by
  have limit := h.limit
  obtain ⟨x, rfl⟩ : ∃ x, v = { u with du := x } := ⟨_, h.rest⟩
  unfold State.postNote
  rw [limit]
  dsimp only
  split
  · exact ((h.setSq _).mark _).evaluateSettlement
  · exact h.setSq _

theorem postMoney (b : RecordBody) (i : Nat) : (u.postMoney b i).Unlit d (v.postMoney b i) := by
  obtain ⟨x, rfl⟩ : ∃ x, v = { u with du := x } := ⟨_, h.rest⟩
  unfold State.postMoney
  dsimp only
  split
  · exact ((h.setSq _).mark _).evaluateSettlement
  · exact (((h.setSq _).mark _).mark _).evaluateSettlement

theorem noteRise (e : FaultEntry) : (u.noteRise e).Unlit d (v.noteRise e) := (h.postNote _).raise _

theorem recomputeNeed : u.recomputeNeed.Unlit d v.recomputeNeed := by
  have a := h.countA
  have qd := h.countQd
  have w := h.countW
  have van : v.isVan = u.isVan := by rw [State.isVan, (congrArg State.sup h.rest :), State.isVan]
  obtain ⟨x, rfl⟩ : ∃ x, v = { u with du := x } := ⟨_, h.rest⟩
  unfold State.recomputeNeed
  rw [a, qd, w, van]
  dsimp only
  split
  · exact h
  · exact h.setBu _

theorem countActivity (out : Bool) : (u.countActivity out).Unlit d (v.countActivity out) := by
  obtain ⟨x, rfl⟩ : ∃ x, v = { u with du := x } := ⟨_, h.rest⟩
  unfold State.countActivity
  dsimp only
  split
  · exact h
  · exact (h.setBu _).recomputeNeed

theorem setClaims (l : List StationClaim) : (u.setClaims l).Unlit d (v.setClaims l) := by
  obtain ⟨x, rfl⟩ : ∃ x, v = { u with du := x } := ⟨_, h.rest⟩
  exact (h.setBu _).recomputeNeed

/-! ### Takes and hires (R72 to R74, R131, R133) -/

/-- The claims changed by what they are. -/
theorem setClaims_by (f : List StationClaim → List StationClaim) :
    (u.setClaims (f u.bu.claims)).Unlit d (v.setClaims (f v.bu.claims)) := by
  rw [(congrArg State.bu h.rest :)]
  exact h.setClaims _

/-- The balance unit changed by what it is. -/
theorem setBu_by (f : Bu → Bu) : (u.setBu (f u.bu)).Unlit d (v.setBu (f v.bu)) := by
  rw [(congrArg State.bu h.rest :)]
  exact h.setBu _

/-- The owned hires changed by what they are. -/
theorem setOwned_by (f : List OwnedHire → List OwnedHire) : (u.setOwned (f u.hu.owned)).Unlit d (v.setOwned (f v.hu.owned)) := by
  rw [(congrArg State.hu h.rest :)]
  exact h.setOwned _

/-- The settled hires changed by what they are. -/
theorem setSettled_by (f : List SettledHire → List SettledHire) :
    (u.setSettled (f u.hu.settled)).Unlit d (v.setSettled (f v.hu.settled)) := by
  rw [(congrArg State.hu h.rest :)]
  exact h.setSettled _

theorem endSession (ss : Session) : (u.endSession ss).Unlit d (v.endSession ss) := by
  unfold State.endSession
  dsimp only
  rw [h.node]
  exact ((((h.originate (.sessionSummary ss.summary) ss.van).postNote
    (.session ss.van u.node ss.collected ss.delivered ss.expected)).setClaims_by fun l => l.filter fun c => !decide (c.id.node = ss.van))).setBu_by
      fun b => { b with session := none, summary := some { van := ss.van, body := ss.summary } }

theorem endIfDone : u.endIfDone.Unlit d v.endIfDone := by
  have bu : v.bu = u.bu := (congrArg State.bu h.rest :)
  unfold State.endIfDone
  rw [bu]
  split
  · split
    · exact h.endSession _
    · exact h
  · exact h

theorem takeRecorded (n : Nat) (b : Bike) : (u.takeRecorded n b).Unlit d (v.takeRecorded n b) := by
  have quarantined := h.quarantined
  obtain ⟨x, rfl⟩ : ∃ x, v = { u with du := x } := ⟨_, h.rest⟩
  unfold State.takeRecorded
  dsimp only at quarantined ⊢
  rw [quarantined]
  split
  · exact h
  · split
    · exact h
    · split
      · exact (((h.setSession _).collectFaults b).originate _ _).endIfDone
      · exact ((h.setSession _).originate _ _).endIfDone

theorem openHire (n : Nat) (b : Bike) (c : CardRecord) : (u.openHire n b c).Unlit d (v.openHire n b c) := by
  obtain ⟨x, rfl⟩ : ∃ x, v = { u with du := x } := ⟨_, h.rest⟩
  exact ((((h.setHu _).mark _).mark _).flood _).countActivity true

/-! ### Arrivals handed on (R77 to R86, R132) -/

theorem questionOf (o : OwnedFields) (t : Time) (n : Node) (g : Nat) : v.questionOf o t n g = u.questionOf o t n g := by
  obtain ⟨x, rfl⟩ : ∃ x, v = { u with du := x } := ⟨_, h.rest⟩
  rfl

theorem closeOwned (o : OwnedHire) (t : Time) (n : Node) (g : Nat) : (u.closeOwned o t n g).Unlit d (v.closeOwned o t n g) := by
  have fu : v.fu = u.fu := (congrArg State.fu h.rest :)
  unfold State.closeOwned
  dsimp only
  rw [h.node, h.questionOf, fu]
  exact (((((h.setFu _).postMoney _ _).pushSettled _ _ _).setOwned_by
    fun l => l.filter fun x => !decide (x.fields.serial = o.fields.serial)).mark _).flood _

theorem liftHolds (c : Card) (r : Option HoldReason) : (u.liftHolds c r).Unlit d (v.liftHolds c r) := by
  have hu : v.hu = u.hu := (congrArg State.hu h.rest :)
  unfold State.liftHolds
  rw [hu]
  generalize u.hu.holds.filter (fun x => x.liftedBy c r) = l
  have kept : (u.setHolds (u.hu.holds.filter fun x => !x.liftedBy c r)).Unlit d
      (v.setHolds (u.hu.holds.filter fun x => !x.liftedBy c r)) := by
    unfold State.setHolds
    rw [hu]
    exact h.setHu _
  generalize u.setHolds _ = u' at kept
  generalize v.setHolds _ = v' at kept
  induction l generalizing u' v' with
  | nil => exact kept
  | cons a l ih => exact ih _ _ (kept.mark _)

theorem makePendingClose (b : Bike) (hire : Option Ident) : (u.makePendingClose b hire).Unlit d (v.makePendingClose b hire) := by
  have now := h.now
  obtain ⟨x, rfl⟩ : ∃ x, v = { u with du := x } := ⟨_, h.rest⟩
  unfold State.makePendingClose
  rw [now]
  dsimp only
  split
  · split
    · exact h.setPendingClose _
    · exact (h.setPendingClose _).postNote _
  · exact h.setPendingClose _

theorem returnHere (n : Nat) (b : Bike) : (u.returnHere n b).1.Unlit d (v.returnHere n b).1 := by
  obtain ⟨x, rfl⟩ : ∃ x, v = { u with du := x } := ⟨_, h.rest⟩
  exact ((((h.forgetHeard b).postNote _).flood _).makePendingClose b _).countActivity false

end

end State.Unlit

end Sys2Proof.Machine
end

section
/-!
PROOFS. States that differ in a lamp slot alone: bikes that leave and arrive in both leave them so (R48, R50 to R52).
-/
namespace Sys2Proof.Machine
open Sys2Proof

/-! ### Docks that differ in the lamp slot -/

/-- The dock l is k but for what stands in the lamp slot. -/
def Dock.Unlit (k l : Dock) : Prop := l = { k with lampSlot := l.lampSlot }

/-- What is done to docks that differ in the lamp slot alone leaves them so. -/
def LampBlind (f : Dock → Dock) : Prop := ∀ k x, (f k).Unlit (f { k with lampSlot := x })

namespace LampBlind
variable {f g : Dock → Dock}

theorem apply (hf : LampBlind f) {k l : Dock} (h : k.Unlit l) : (f k).Unlit (f l) := by
  rw [h]
  exact hf _ _

theorem comp (hf : LampBlind f) (hg : LampBlind g) : LampBlind fun k => f (g k) := fun k x => hf.apply (hg k x)

theorem enter (hf : LampBlind f) (st : DockState) : LampBlind fun k => (f k).enter st :=
  comp (f := fun k => k.enter st) (fun k x => by
    unfold Dock.enter
    dsimp only
    split <;> rfl) hf

theorem placeResting (hf : LampBlind f) : LampBlind fun k => (f k).placeResting :=
  comp (f := Dock.placeResting) (fun k x => by
    unfold Dock.placeResting
    dsimp only
    split <;> rfl) hf

theorem shown (hf : LampBlind f) (p : Lamp) (t : Millis) : LampBlind fun k => (f k).show p t :=
  comp (f := fun k => k.show p t) (fun _ _ => rfl) hf

theorem endRelease (hf : LampBlind f) (st : DockState) : LampBlind fun k => (f k).endRelease st :=
  (comp (f := fun k => { k with release := none, lockSlot := some .lock }) (fun _ _ => rfl) hf).enter st

theorem taken : LampBlind Dock.taken := enter (f := fun k =>
  { k with release := none, bike := none, untaken := 0, window := none, lockSlot := some .lock }) (fun _ _ => rfl) .empty

theorem robbed : LampBlind Dock.robbed := by
  have emptied : LampBlind fun k : Dock => { k with bike := none, window := none, lockSlot := some .lock } := fun _ _ => rfl
  intro k x
  unfold Dock.robbed
  dsimp only
  split
  · exact emptied.enter .empty k x
  · exact emptied k x

theorem docked (b : Bike) (t : Time) : LampBlind fun k => k.docked b t :=
  enter (f := fun k => { k with bike := some { bike := b, time := t } }) (fun _ _ => rfl) .holding

theorem windowed (t : Millis) (card : Option Card) : LampBlind fun k => k.windowed t card := fun _ _ => rfl

theorem recorded (b : DockedBike) : LampBlind fun k => { k with bike := some b, window := none } := fun _ _ => rfl

theorem deserted : LampBlind Dock.deserted := fun k x =>
  (enter (f := fun k : Dock => { k with bike := none, window := none }) (fun _ _ => rfl) (Dock.settledState _)) k x

end LampBlind

/-- The resting lamp depends on the bikes in quarantine. -/
theorem Dock.refresh_congr {du du' : Du} (bikes : du'.bikes = du.bikes) (k : Dock) : k.refresh du' = k.refresh du := by
  rw [Dock.refresh, restingFor, Du.quarantined_congr bikes]
  rfl

theorem LampBlind.refresh (du : Du) : LampBlind (Dock.refresh du) := fun k x => by
  have resting : restingFor du { k with lampSlot := x } = restingFor du k := rfl
  unfold Dock.refresh
  dsimp only
  rw [resting]
  split
  · rfl
  · split
    · rfl
    · exact LampBlind.placeResting (f := fun k => { k with resting := restingFor du k }) (fun _ _ => rfl) k x

namespace State.Unlit
variable {d : Nat} {u v : State} (h : u.Unlit d v)
include h

theorem unlit (n : Nat) : (u.dock n).Unlit (v.dock n) := by
  obtain ⟨l, e⟩ := h.dock n
  rw [e]
  rfl

theorem announced {a b : State} (k : a.Unlit d b) : (u.announced a).Unlit d (v.announced b) := by
  unfold State.announced
  rw [h.countA, h.countQd, h.countW, k.countA, k.countQd, k.countW]
  split
  · exact h
  · exact h.recomputeNeed

/-- Docks replaced in both. -/
theorem putDock (n : Nat) {k l : Dock} (other : n ≠ d → l = k) (here : k.Unlit l) : (u.putDock n k).Unlit d (v.putDock n l) := by
  have read (s : State) (m : Nat) (k : Dock) : (s.putDock n k).dock m = if m = n ∧ 1 ≤ n ∧ n ≤ 24 then k else s.dock m := by
    by_cases same : m = n
    · subst same
      by_cases inside : 1 ≤ m ∧ m ≤ 24
      · rw [if_pos ⟨rfl, inside⟩]
        exact Du.dock_setDock _ _ _ inside
      · rw [if_neg fun e => inside e.2, State.dock_outside _ _ inside, State.dock_outside _ _ inside]
    · rw [if_neg fun e => same e.1]
      exact Du.dock_setDock_ne _ _ _ _ same
  have rest : ∀ s : State, ∀ k, (s.putDock n k).du = { s.du with docks := (s.putDock n k).du.docks } := fun s k => by
    unfold State.putDock Du.setDock
    split <;> rfl
  refine ⟨?_, ?_, fun m away => ?_, ?_⟩
  · conv_lhs => rw [h.rest]
    rfl
  · rw [rest v, rest u, h.du]
  · rw [read, read]
    split
    · next same => exact other (same.1 ▸ away)
    · exact h.other m away
  · rw [read, read]
    split
    · exact here
    · exact h.here

theorem updateDock (n : Nat) {f : Dock → Dock} (hf : LampBlind f) : (u.updateDock n f).Unlit d (v.updateDock n f) := by
  unfold State.updateDock
  rw [Dock.refresh_congr h.bikes]
  refine State.Unlit.announced (h.putDock n (fun away => ?_) ((LampBlind.refresh _).apply (hf.apply (h.unlit n)))) h
  rw [h.other n away]

theorem setBikes (l : List BikeStatus) (drops : Nat) : (u.setBikes l drops).Unlit d (v.setBikes l drops) := by
  unfold State.setBikes
  dsimp only
  refine State.Unlit.announced ?_ h
  have read (s : State) (m : Nat) : (s.setDu { s.du with
      bikes := l, statusDrops := drops,
      docks := s.du.docks.map (Dock.refresh { s.du with bikes := l, statusDrops := drops }) }).dock m =
      if 1 ≤ m ∧ m ≤ 24 then (s.dock m).refresh { s.du with bikes := l, statusDrops := drops } else s.dock m := by
    split
    · next inside => simp [State.setDu, State.dock, Du.dock, inside]
    · next outside => rw [State.dock_outside _ _ outside, State.dock_outside _ _ outside]
  have alike (m : Nat) : Dock.refresh { v.du with bikes := l, statusDrops := drops } (v.dock m) =
      Dock.refresh { u.du with bikes := l, statusDrops := drops } (v.dock m) := Dock.refresh_congr rfl _
  refine ⟨?_, ?_, fun m away => ?_, ?_⟩
  · conv_lhs => rw [h.rest]
    rfl
  · simp [State.setDu, (congrArg Du.polled h.du :), (congrArg Du.pollNext h.du :), (congrArg Du.busOut h.du :)]
  · rw [read, read, alike, h.other m away]
  · rw [read, read, alike]
    split
    · exact (LampBlind.refresh _).apply (h.unlit d)
    · exact h.here

theorem setBikePart (b : Bike) (f : BikeStatus → BikeStatus) : (u.setBikePart b f).Unlit d (v.setBikePart b f) := by
  unfold State.setBikePart
  rw [h.bikes, (congrArg Du.statusDrops h.du :)]
  split
  · exact h.setBikes _ _
  · exact h.setBikes _ _

theorem removeMissing (b : Bike) : (u.removeMissing b).Unlit d (v.removeMissing b) := by
  unfold State.removeMissing State.clearBikePart
  rw [h.bikes, (congrArg Du.statusDrops h.du :)]
  exact h.setBikes _ _

theorem abandonForQuarantine (b : Bike) (n : Nat) : (u.abandonForQuarantine b n).Unlit d (v.abandonForQuarantine b n) := by
  obtain ⟨state, bike, -, release, -⟩ := Dock.fields_of_base (h.base n)
  unfold State.abandonForQuarantine Dock.releasesFor Dock.records
  rw [state, bike, release, (congrArg State.timebase h.rest :)]
  split
  · exact h.updateDock n (LampBlind.shown (LampBlind.comp (f := fun k => { k with lastRefusal := some .bikeQuarantined })
      (fun _ _ => rfl) (LampBlind.endRelease (f := id) (fun _ _ => rfl) .holding)) .red u.timebase)
  · exact h

theorem setQuarantine (b : Bike) (i : Ident) (q : Nat) : (u.setQuarantine b i q).Unlit d (v.setQuarantine b i q) := by
  have part := h.setBikePart b fun e => { e with quarantine := some { id := i, severity := q } }
  unfold State.setQuarantine
  generalize u.setBikePart b _ = u' at part
  generalize v.setBikePart b _ = v' at part
  induction dockNumbers generalizing u' v' with
  | nil => exact part
  | cons n l ih => exact ih _ _ (part.abandonForQuarantine b n)

/-- The effects of a fault entry of a bike (R113 to R115). -/
theorem faultEffects {e : FaultEntry} {b : Bike} (subject : e.subject = .bike b) (old : Nat) :
    (u.faultEffects e old).Unlit d (v.faultEffects e old) := by
  unfold State.faultEffects
  rw [subject]
  dsimp only
  split
  · split
    · exact ((h.setQuarantine _ _ _).flood _).noteRise _
    · exact h.setQuarantine _ _ _
  · exact h

/-- A report on a bike. -/
theorem report (b : Bike) (k : FaultKind) (q : Nat) : (u.report (.bike b) k q).Unlit d (v.report (.bike b) k q) := by
  have now := h.now
  obtain ⟨x, rfl⟩ : ∃ x, v = { u with du := x } := ⟨_, h.rest⟩
  unfold State.report
  obtain new | ⟨before, e, rest, listed, same, first⟩ := FaultEntry.new_or_listed u.flt.log (.bike b) k
  · cases room : roomForFault u.flt.log with
    | none =>
      rw [State.reportFault_refused new room, State.reportFault_refused (s := { u with du := x }) new room]
      unfold State.refusedEffects
      dsimp only
      split
      · exact ((h.setFlt _).useFaultSerial).setQuarantine _ _ _
      · exact h.setFlt _
    | some log =>
      rw [State.reportFault_fresh new room, State.reportFault_fresh (s := { u with du := x }) new room, now]
      exact ((h.setLog _).useFaultSerial).faultEffects rfl 0
  · rw [State.reportFault_merged listed same first, State.reportFault_merged (s := { u with du := x }) listed same first, now]
    exact (h.setLog _).faultEffects (e := e.merged (some q) none u.now) ((e.matches_iff _ _).mp same).2.1 _

theorem forcedRemoval (n : Nat) (b : Bike) : (u.forcedRemoval n b).Unlit d (v.forcedRemoval n b) := by
  rw [State.forcedRemoval_eq, State.forcedRemoval_eq, h.node, h.now]
  exact ((h.report b .forcedRemoval 3).setBikePart b _).updateDock n .robbed

theorem completeRelease (n : Nat) : (u.completeRelease n).Unlit d (v.completeRelease n) := by
  obtain ⟨-, bike, -, release, -⟩ := Dock.fields_of_base (h.base n)
  have taken := h.updateDock n .taken
  unfold State.completeRelease
  dsimp only
  rw [release, bike]
  split
  · exact taken.openHire _ _ _
  · exact taken.takeRecorded _ _
  · exact taken

/-- A BIKE_OUT taken in both. -/
theorem bikeLeaves (n : Nat) : (u.bikeLeaves n).Unlit d (v.bikeLeaves n) := by
  obtain ⟨state, bike, -⟩ := Dock.fields_of_base (h.base n)
  unfold State.bikeLeaves
  rw [state, bike]
  split
  · exact h.completeRelease n
  · split
    · exact h.forcedRemoval n _
    · exact h
  · split
    · exact h.forcedRemoval n _
    · exact h
  · split
    · exact h.forcedRemoval n _
    · exact h
  · exact h
  · exact h

/-! ### Arrivals -/

theorem lateClose (e : SettledHire) (p : SettledHire → Bool) (t : Time) (n : Node) (g : Nat) :
    (u.lateClose e p t n g).Unlit d (v.lateClose e p t n g) := by
  have fu : v.fu = u.fu := (congrArg State.fu h.rest :)
  have clk : v.clk = u.clk := (congrArg State.clk h.rest :)
  have sup : v.sup = u.sup := (congrArg State.sup h.rest :)
  have ended (c : Cents) := (((h.postNote (.lateReturn e.hire e.card e.bike n t c)).setSettled_by
    (updateLast p fun x => { x with ending := some (n, t), outcome := .late })).flood
      (.hireSettled e.hire e.bike n t .late)).removeMissing e.bike
  unfold State.lateClose
  dsimp only
  rw [fu, clk, sup, h.node, (congrArg State.hu (ended _).rest :)]
  split
  · exact ended _
  · exact ((ended _).liftHolds _ _).flood _

/-- An arrival handed on in both. -/
theorem arrival (n : Nat) (b : Bike) : (u.arrival n b false).1.Unlit d (v.arrival n b false).1 ∧
    (v.arrival n b false).2 = (u.arrival n b false).2 := by
  have hu : v.hu = u.hu := (congrArg State.hu h.rest :)
  have bu : v.bu = u.bu := (congrArg State.bu h.rest :)
  have clk : v.clk = u.clk := (congrArg State.clk h.rest :)
  have owned : v.ownedOf b = u.ownedOf b := by rw [State.ownedOf, hu, State.ownedOf]
  have forgotten := h.forgetHeard b
  cases held : u.ownedOf b with
  | some o =>
    rw [State.arrival_owned n held, State.arrival_owned n (owned.trans held), h.now, h.node, clk]
    exact ⟨(forgotten.closeOwned _ _ _ _).countActivity false, rfl⟩
  | none =>
    by_cases expected : ∃ ss, u.bu.session = some ss ∧ b ∈ ss.expected
    · obtain ⟨ss, session, listed⟩ := expected
      rw [State.arrival_delivered n held session listed, State.arrival_delivered n (owned.trans held) (bu ▸ session) listed,
        (congrArg State.timebase h.rest :)]
      exact ⟨(h.setSession _).forgetHeard b, rfl⟩
    · have unexpected : ∀ ss, u.bu.session = some ss → b ∉ ss.expected := fun ss session listed => expected ⟨ss, session, listed⟩
      cases late : findLast (fun e => e.awaitsReturn b) u.hu.settled with
      | some e =>
        rw [State.arrival_late n held unexpected late, State.arrival_late n (owned.trans held) (bu ▸ unexpected) (hu ▸ late),
          forgotten.now, forgotten.node, (congrArg State.clk forgotten.rest :)]
        refine ⟨?_, rfl⟩
        dsimp only
        exact (forgotten.lateClose e _ _ _ _).countActivity false
      | none =>
        rw [State.arrival_returned n held unexpected late, State.arrival_returned n (owned.trans held) (bu ▸ unexpected) (hu ▸ late)]
        refine ⟨h.returnHere n b, ?_⟩
        show (v.hu.heard.find? _).map _ = (u.hu.heard.find? _).map _
        rw [hu]

theorem leaveOther (n : Nat) (b : Bike) : (u.leaveOther n b).Unlit d (v.leaveOther n b) := by
  have found : v.dockOf b n = u.dockOf b n := by
    unfold State.dockOf Dock.records
    congr 1
    funext m
    rw [(Dock.fields_of_base (h.base m)).2.1]
  unfold State.leaveOther
  rw [found]
  split
  · exact h
  · next m _ =>
    rw [(Dock.fields_of_base (h.base m)).1]
    split
    · exact h.completeRelease m
    · exact h.updateDock m .deserted

/-- A bike docked in both at an EMPTY dock. -/
theorem arrive (n : Nat) (b : Bike) : (u.arrive n b).Unlit d (v.arrive n b) := by
  have docked : (u.docked n b).Unlit d (v.docked n b) := by
    rw [State.docked, State.docked, h.now]
    exact ((h.leaveOther n b).updateDock n (.docked b u.now)).removeMissing b
  obtain ⟨handed, card⟩ := docked.arrival n b
  rw [State.arrive_eq, State.arrive_eq, card, (congrArg State.timebase h.rest :)]
  exact handed.updateDock n (.windowed u.timebase _)

theorem arriveUnavailable (n : Nat) (b : Bike) : (u.arriveUnavailable n b).Unlit d (v.arriveUnavailable n b) := by
  rw [State.arriveUnavailable_eq, State.arriveUnavailable_eq, State.recorded, State.recorded, h.now]
  exact (((h.updateDock n (.recorded _)).removeMissing b).arrival n b).1

/-- A BIKE_IN taken in both. -/
theorem bikeArrives (n : Nat) (b : Bike) : (u.bikeArrives n b).Unlit d (v.bikeArrives n b) := by
  obtain ⟨state, bike, -⟩ := Dock.fields_of_base (h.base n)
  unfold State.bikeArrives Dock.records
  rw [state, bike]
  split
  · exact h.arrive n b
  · split
    · exact h
    · exact (h.bikeLeaves n).arrive n b
  · split
    · exact h
    · exact (h.bikeLeaves n).arrive n b
  · split
    · exact h
    · exact h.arriveUnavailable n b
  · split
    · exact h
    · exact h.arriveUnavailable n b
  · exact h

end State.Unlit

end Sys2Proof.Machine
end

section
/-!
PROOFS. The resting pattern after a bike has left or arrived, and what a recovery finds and leaves (R44, R58, R63).
-/
namespace Sys2Proof.Machine
open Sys2Proof

/-! ### Docks whose resting pattern is worked out -/

theorem Dock.refresh_resting (du : Du) (k : Dock) : (k.refresh du).resting = restingFor du k := by
  unfold Dock.refresh
  dsimp only
  split
  · next same => exact same.symm
  · split
    · rfl
    · exact (Dock.placeResting_frame _).2.2.2.2.2.2.2.2.2.2.2.2.2.2

theorem restingFor_congr {du du' : Du} {k l : Dock} (bikes : du'.bikes = du.bikes) (base : l.base = k.base) :
    restingFor du' l = restingFor du k := by
  obtain ⟨state, bike, -⟩ := Dock.fields_of_base base
  rw [restingFor, restingFor, state, bike, Du.quarantined_congr bikes]

/-- The resting pattern of dock d is the one its state asks for. -/
def State.Rested (d : Nat) (s : State) : Prop := (s.dock d).resting = restingFor s.du (s.dock d)

namespace State.Rested
variable {d : Nat} {s t : State}

theorem updateDock (s : State) (inside : 1 ≤ d ∧ d ≤ 24) (f : Dock → Dock) : (s.updateDock d f).Rested d := by
  rw [State.Rested, s.dock_updateDock d f inside, Dock.refresh_resting]
  exact (restingFor_congr (s.updateDock_du d f).1 (by simp)).symm

theorem removeMissing (s : State) (inside : 1 ≤ d ∧ d ≤ 24) (b : Bike) : (s.removeMissing b).Rested d := by
  unfold State.removeMissing State.clearBikePart
  rw [State.Rested, s.dock_setBikes _ _ _ inside, Dock.refresh_resting]
  exact (restingFor_congr (s.setBikes_du _ _).1 (by simp)).symm

theorem of_du (h : s.Rested d) (du : t.du = s.du) : t.Rested d := by
  rw [State.Rested, State.dock_congr du, du]
  exact h

theorem arrival (h : s.Rested d) (inside : 1 ≤ d ∧ d ≤ 24) (b : Bike) (startUp : Bool) : (s.arrival d b startUp).1.Rested d := by
  unfold State.arrival
  split
  · dsimp only
    split <;> exact h.of_du (by simp)
  · split
    · exact h.of_du (by simp)
    · split
      · next u moved =>
        unfold State.delivery at moved
        split at moved
        · cases moved
        · split at moved
          · cases moved
            exact h.of_du rfl
          · cases moved
      · split
        · next e _ =>
          have closed (u : State) (p : SettledHire → Bool) (t : Time) (n : Node) (g : Nat) : (u.lateClose e p t n g).Rested d := by
            unfold State.lateClose
            dsimp only
            split
            · exact .removeMissing _ inside _
            · exact State.Rested.of_du (.removeMissing _ inside _)
                ((State.flood_frame _ _).2.1.trans (State.liftHolds_frame _ _ _).2.2.1)
          exact State.Rested.of_du (closed _ _ _ _ _) (State.countActivity_frame _ _).2.2.1
        · exact h.of_du (by simp [State.returnHere])

theorem arrive (s : State) (inside : 1 ≤ d ∧ d ≤ 24) (b : Bike) : (s.arrive d b).Rested d := by
  rw [State.arrive_eq]
  exact .updateDock _ inside _

theorem arriveUnavailable (s : State) (inside : 1 ≤ d ∧ d ≤ 24) (b : Bike) : (s.arriveUnavailable d b).Rested d := by
  rw [State.arriveUnavailable_eq]
  exact (State.Rested.removeMissing _ inside b).arrival inside b false

/-- A bike that arrives at a dock in service that does not record it. -/
theorem bikeArrives (inside : 1 ≤ d ∧ d ≤ 24) {b : Bike} (online : (s.dock d).state ≠ .offline)
    (new : ¬ (s.dock d).records b = true) :
    (s.bikeArrives d b).Rested d := by
  cases e : (s.dock d).state with
  | empty => rw [State.bikeArrives_empty e]; exact .arrive _ inside b
  | holding => rw [State.bikeArrives_replaced (.inl e) new]; exact .arrive _ inside b
  | releasing => rw [State.bikeArrives_replaced (.inr e) new]; exact .arrive _ inside b
  | faulted => rw [State.bikeArrives_unavailable (.inl e) new]; exact .arriveUnavailable _ inside b
  | disabled => rw [State.bikeArrives_unavailable (.inr e) new]; exact .arriveUnavailable _ inside b
  | offline => exact absurd e online

/-- A recorded bike that leaves a dock in service. -/
theorem bikeLeaves (inside : 1 ≤ d ∧ d ≤ 24) {x : DockedBike} (bike : (s.dock d).bike = some x) (online : (s.dock d).state ≠ .offline)
    (occupied : (s.dock d).state ≠ .empty) : (s.bikeLeaves d).Rested d := by
  by_cases releasing : (s.dock d).state = .releasing
  · rw [State.bikeLeaves_releasing releasing]
    exact (State.Rested.updateDock s inside Dock.taken).of_du (s.completeRelease_du d)
  · have recorded : (s.dock d).state = .holding ∨ (s.dock d).state = .faulted ∨ (s.dock d).state = .disabled := by
      cases e : (s.dock d).state <;> simp_all
    rw [State.bikeLeaves_recorded recorded bike, State.forcedRemoval_eq]
    exact .updateDock _ inside _

end State.Rested

/-- A recorded bike that leaves a dock in service is gone, and the dock in service still. -/
theorem State.bikeLeaves_gone {s : State} {d : Nat} (inside : 1 ≤ d ∧ d ≤ 24) {x : DockedBike} (bike : (s.dock d).bike = some x)
    (online : (s.dock d).state ≠ .offline) (occupied : (s.dock d).state ≠ .empty) :
    ((s.bikeLeaves d).dock d).bike = none ∧ ((s.bikeLeaves d).dock d).state ≠ .offline := by
  by_cases releasing : (s.dock d).state = .releasing
  · rw [State.bikeLeaves_releasing releasing]
    obtain ⟨state, none_left, -⟩ := s.completeRelease_taken inside
    exact ⟨none_left, by rw [state]; nofun⟩
  · have recorded : (s.dock d).state = .holding ∨ (s.dock d).state = .faulted ∨ (s.dock d).state = .disabled := by
      cases e : (s.dock d).state <;> simp_all
    rw [State.bikeLeaves_recorded recorded bike]
    obtain ⟨base, -⟩ := State.forcedRemoval_spec inside releasing x.bike
    obtain ⟨state, gone, -⟩ := (s.dock d).robbed_frame
    obtain ⟨state', gone', -⟩ := Dock.shown_of_base base
    refine ⟨gone'.trans gone, ?_⟩
    rw [state', state]
    split
    · nofun
    · exact online

/-! ### Heartbeats compared (R45) -/

section
variable {s : State} {d : Nat} {b : Bike}

/-- The heartbeat names what is recorded: no bike, or the one bike. -/
def Dock.Named (k : Dock) (b : Bike) : Prop := k.bike = none ∧ b = 0 ∨ b ≠ 0 ∧ k.bike.map (·.bike) = some b

theorem State.compareHeartbeat_same (h : (s.dock d).Named b) : s.compareHeartbeat d b = s := by
  unfold State.compareHeartbeat
  obtain ⟨empty, zero⟩ | ⟨some_bike, recorded⟩ := h
  · rw [empty]
    exact if_pos zero
  · obtain ⟨x, bike, same⟩ := Option.map_eq_some_iff.mp recorded
    rw [bike]
    exact (if_neg some_bike).trans (if_pos same)

theorem State.compareHeartbeat_left {x : DockedBike} (bike : (s.dock d).bike = some x) : s.compareHeartbeat d 0 = s.bikeLeaves d := by
  rw [State.compareHeartbeat, bike]
  rfl

theorem State.compareHeartbeat_arrived (empty : (s.dock d).bike = none) (h : b ≠ 0) : s.compareHeartbeat d b = s.bikeArrives d b := by
  rw [State.compareHeartbeat, empty]
  exact if_neg h

theorem State.compareHeartbeat_replaced {x : DockedBike} (bike : (s.dock d).bike = some x) (h : b ≠ 0) (other : x.bike ≠ b) :
    s.compareHeartbeat d b = (s.bikeLeaves d).bikeArrives d b := by
  rw [State.compareHeartbeat, bike]
  exact (if_neg h).trans (if_neg other)

/-- A heartbeat that differs, at a dock in service that is not EMPTY with a bike recorded, leaves the resting pattern worked out. -/
theorem State.compareHeartbeat_rested (inside : 1 ≤ d ∧ d ≤ 24) (online : (s.dock d).state ≠ .offline) (differs : ¬ (s.dock d).Named b)
    (free : (s.dock d).bike = none ∨ (s.dock d).state ≠ .empty) : (s.compareHeartbeat d b).Rested d := by
  cases bike : (s.dock d).bike with
  | none =>
    have named : b ≠ 0 := fun zero => differs (.inl ⟨bike, zero⟩)
    rw [State.compareHeartbeat_arrived bike named]
    exact .bikeArrives inside online (by simp [Dock.records, bike])
  | some x =>
    have occupied : (s.dock d).state ≠ .empty := free.resolve_left (by rw [bike]; nofun)
    by_cases zero : b = 0
    · rw [zero, State.compareHeartbeat_left bike]
      exact .bikeLeaves inside bike online occupied
    · have other : x.bike ≠ b := fun same => differs (.inr ⟨zero, by rw [bike]; exact congrArg some same⟩)
      obtain ⟨gone, online'⟩ := State.bikeLeaves_gone inside bike online occupied
      rw [State.compareHeartbeat_replaced bike zero other]
      exact .bikeArrives inside online' (by simp [Dock.records, gone])

end

/-! ### A recovery (R58) -/

/-- The fault log with the POST_SILENT entries of a dock cleared. -/
def clearedOf (d : Nat) (log : List FaultEntry) : List FaultEntry :=
  log.map fun e => if e.subject = .dock d ∧ e.kind = .postSilent then { e with state := .cleared } else e

theorem State.clearPostSilent_eq (s : State) (d : Nat) : s.clearPostSilent d = s.setLog (clearedOf d s.flt.log) := rfl

/-- What a recovery finds after the POST_SILENT entries are cleared and an OFFLINE dock is settled. -/
theorem State.recovered_spec (s : State) {d : Nat} (inside : 1 ≤ d ∧ d ≤ 24) :
    s.recovered d = { s with
      du := (s.recovered d).du, bu := (s.recovered d).bu, flt := { s.flt with log := clearedOf d s.flt.log } } ∧
    (s.recovered d).du.bikes = s.du.bikes ∧ (s.recovered d).du.polled = s.du.polled ∧
    (s.recovered d).bu.ring = s.bu.ring ∧ (s.recovered d).bu.session = s.bu.session ∧
    (s.recovered d).bu.claims = s.bu.claims ∧
    ((s.recovered d).dock d).base = (if (s.dock d).state = .offline then (s.dock d).settle else s.dock d).base ∧
    ∀ n, n ≠ d → (s.recovered d).dock n = s.dock n := by
  have read (n : Nat) : (s.clearPostSilent d).dock n = s.dock n := State.dock_congr rfl n
  by_cases offline : (s.dock d).state = .offline
  · have settled : s.recovered d = (s.clearPostSilent d).updateDock d Dock.settle := if_pos offline
    obtain ⟨bikes, -, polled, -⟩ := (s.clearPostSilent d).updateDock_du d Dock.settle
    obtain ⟨session, -, claims, ring⟩ := (s.clearPostSilent d).updateDock_bu d Dock.settle
    rw [settled, if_pos offline]
    refine ⟨?_, bikes, polled, ring, session, claims, ?_, fun n away => ?_⟩
    · apply State.eq_of_blocks <;> simp [State.clearPostSilent_eq, State.setLog]
    · rw [State.base_updateDock_self _ _ inside, read]
    · rw [State.dock_updateDock_ne _ _ _ _ away, read]
  · have kept : s.recovered d = s.clearPostSilent d := if_neg offline
    rw [kept, if_neg offline]
    exact ⟨rfl, rfl, rfl, rfl, rfl, rfl, rfl, fun n _ => read n⟩

/-- The dock once the events of a recovery are taken: the resting pattern is placed where no transient runs. -/
def Dock.replaced (k : Dock) : Dock := if k.transient.isSome then k else k.placeResting

theorem State.recoverPost_replaced (s : State) (d : Nat) (b : Bike) :
    s.recoverPost d b = ((s.recovered d).compareHeartbeat d b).updateDock d Dock.replaced := rfl

theorem Dock.base_replaced (k : Dock) : k.replaced.base = k.base := by
  unfold Dock.replaced
  split <;> simp

theorem Dock.eq_of_base {k l : Dock} (h : k.base = l.base) :
    k = { l with lampSlot := k.lampSlot, lampLast := k.lampLast, resting := k.resting } := by
  cases k
  cases l
  simp only [Dock.base, Dock.mk.injEq] at h ⊢
  tauto

/-- What the last step of a recovery leaves: the dock's lamp changed, and nothing else. -/
theorem State.replaced_spec (s : State) {d : Nat} (inside : 1 ≤ d ∧ d ≤ 24) :
    s.updateDock d Dock.replaced = { s with du := (s.updateDock d Dock.replaced).du } ∧
    ((s.updateDock d Dock.replaced).dock d).base = (s.dock d).base ∧
    (s.Rested d → ((s.updateDock d Dock.replaced).dock d).resting = (s.dock d).resting) ∧
    (((s.updateDock d Dock.replaced).dock d).transient = none → ∀ p, ((s.updateDock d Dock.replaced).dock d).resting = some p →
      ((s.updateDock d Dock.replaced).dock d).lampSlot = some p) := by
  obtain ⟨state, bike, -⟩ := Dock.shown_of_base (s.dock d).base_replaced
  have base : ((s.updateDock d Dock.replaced).dock d).base = (s.dock d).base :=
    (s.base_updateDock_self Dock.replaced inside).trans (s.dock d).base_replaced
  refine ⟨s.updateDock_unseen d _ state bike, base, fun rested => ?_, fun free p => ?_⟩
  · rw [s.dock_updateDock d _ inside, Dock.refresh_resting, rested]
    exact restingFor_congr rfl (s.dock d).base_replaced
  · have idle : (s.dock d).transient = none := by
      obtain ⟨-, -, -, -, -, -, -, -, -, -, -, -, transient, -⟩ := Dock.fields_of_base base
      exact transient.symm.trans free
    have placed : (s.dock d).replaced = (s.dock d).placeResting := if_neg (by simp [idle])
    rw [s.dock_updateDock d _ inside, placed]
    exact Dock.refresh_shows idle

/-- The BIKE_OUT of a recovery is taken as if polled for: the lamp slot alone may differ from what the recovery has. -/
theorem State.recovered_unlit {r : State} {d : Nat} (inside : 1 ≤ d ∧ d ≤ 24) (unpolled : r.du.polled = none)
    (heard : (r.dock d).bus = (false, r.timebase, r.now)) (idle : (r.dock d).lockSlot = none) (p : Option (Nat × PollKind)) :
    r.Unlit d (State.postHeard { r with du := { r.du with polled := p } } d) := by
  simp only [Dock.bus, Prod.mk.injEq] at heard
  obtain ⟨silent, start, last⟩ := heard
  refine ⟨rfl, ?_, fun n away => State.postHeard_dock_ne _ away, ?_⟩
  · obtain ⟨bikes, drops, polled, next, out⟩ := State.postHeard_frame { r with du := { r.du with polled := p } } d
    generalize (State.postHeard { r with du := { r.du with polled := p } } d).du = e at *
    cases e
    simp_all
  · rw [State.postHeard_dock _ inside]
    have same : State.dock { r with du := { r.du with polled := p } } d = r.dock d := rfl
    rw [same, Dock.answered]
    generalize r.dock d = k at *
    cases k
    simp_all [State.now]

end Sys2Proof.Machine
end

section
/-!
PROOFS. The statement on polls, missing answers and heartbeats.
-/
namespace Sys2Proof.Machine
open Sys2Proof

/-! ### The heartbeat of a poll outstanding (R45, R58, R59) -/

/-- A heartbeat that answers the poll is the post's first, or a recovery, or one that is compared. -/
theorem exec_heartbeat {s : State} {d : Nat} {kind : PollKind} (runs : s.busRuns = true)
    (configured : 1 ≤ d ∧ d ≤ s.sup.image.dockCount) (polled : s.du.polled = some (d, kind)) (b : Bike) :
    ∃ t, exec (.heartbeat d b) s = .next t ∧ (s.postHeard d).BusKept t ∧
      ((s.dock d).heard = false → t = (s.postHeard d).firstHeartbeat d b) ∧
      ((s.dock d).heard = true → (s.dock d).silent = true ∨ kind = .status → t = (s.postHeard d).recoverPost d b) ∧
      ((s.dock d).heard = true → (s.dock d).silent = false → kind = .event → t = (s.postHeard d).compareHeartbeat d b) := by
  have taken := State.takeAnswer_heartbeat runs configured polled fun t =>
    if (s.dock d).heard = false then t.firstHeartbeat d b
    else if (s.dock d).silent ∨ s.du.statusPolled then t.recoverPost d b
    else t.compareHeartbeat d b
  have status : s.du.statusPolled = true ↔ kind = .status := by simp [Du.statusPolled, polled]
  refine ⟨_, congrArg Host.Outcome.next taken, ?_, fun unheard => if_pos unheard, fun heard recovers => ?_, fun heard loud event => ?_⟩
  · have kept := State.BusKept.refl (s.postHeard d)
    split
    · exact kept.firstHeartbeat d b
    · split
      · exact kept.recoverPost d b
      · exact kept.compareHeartbeat d b
  · rw [if_neg (by simp [heard]), if_pos (recovers.imp id status.mpr)]
  · rw [if_neg (by simp [heard]), if_neg (by simp [loud, status, event])]

/-- The state a settled dock takes, its post being heard. -/
def Dock.settledAs (k : Dock) (bike : Option Bike) : DockState :=
  if k.hostDisabled then .disabled else if k.faultMark then .faulted else if bike.isSome then .holding else .empty

theorem Dock.settledState_answered (k : Dock) (t : Millis) (now : Time) :
    (k.answered t now).settledState = k.settledAs (k.bike.map (·.bike)) := by
  rw [Dock.settledAs, Option.isSome_map]
  rfl

theorem Dock.settledAs_occupied (k : Dock) (x : Bike) : k.settledAs (some x) ≠ .empty := by
  unfold Dock.settledAs
  split
  · nofun
  · split <;> nofun

theorem Dock.settledAs_online (k : Dock) (bike : Option Bike) : k.settledAs bike ≠ .offline := by
  unfold Dock.settledAs
  (repeat' split) <;> nofun

section
variable {s : State} {d : Nat} (inside : 1 ≤ d ∧ d ≤ 24)
include inside

/-- The first heartbeat of a post whose dock has no bike and that reports none. -/
theorem State.firstHeartbeat_empty (empty : (s.dock d).bike = none) : let t := (s.postHeard d).firstHeartbeat d 0
    t = { s with du := t.du, bu := t.bu } ∧ (t.dock d).heard = true ∧ (t.dock d).bike = none ∧
    (t.dock d).state = (s.dock d).settledAs none ∧ ∀ n, n ≠ d → t.dock n = s.dock n := by
  intro t
  obtain ⟨state, bike, heard, -⟩ := (s.postHeard d).firstHeartbeat_dock inside 0
  rw [s.postHeard_dock inside] at state bike
  refine ⟨?_, heard, bike.trans empty, state.trans ?_, fun n away => ?_⟩
  · apply State.eq_of_blocks <;> simp [t, State.firstHeartbeat_eq, State.heardFirst_none]
  · have same := (s.dock d).settledState_answered s.timebase s.now
    rw [empty] at same
    exact same
  · show ((s.postHeard d).firstHeartbeat d 0).dock n = _
    rw [State.firstHeartbeat_eq, State.dock_updateDock_ne _ _ _ _ away, State.heardFirst_none, State.dock_updateDock_ne _ _ _ _ away,
      s.postHeard_dock_ne away]

/-- The first heartbeat of a post that reports a bike. -/
theorem State.firstHeartbeat_found {b : Bike} (h : b ≠ 0) : let t := (s.postHeard d).firstHeartbeat d b
    (t.dock d).heard = true ∧ (t.dock d).bike = some { bike := b, time := s.now } ∧
    (t.dock d).state = (s.dock d).settledAs (some b) ∧ (t.dock d).window = (s.dock d).window ∧
    ((s.dock d).transient = none → (t.dock d).transient = none) ∧
    (∀ n, n ≠ d → (t.dock n).bike = (s.dock n).bike ∧ (t.dock n).state = (s.dock n).state) ∧
    ((s.du.bikes.map (·.bike)).Nodup → (∀ e ∈ t.du.bikes, e.bike = b → e.missing = none) ∧
      ∀ e, e.bike ≠ b → (e ∈ t.du.bikes ↔ e ∈ s.du.bikes)) ∧
    t.bu.ring = s.bu.ring ∧ t.bu.session = s.bu.session ∧ t.bu.claims = s.bu.claims := by
  intro t
  obtain ⟨state, bike, heard, window, transient⟩ := (s.postHeard d).firstHeartbeat_dock inside b
  obtain ⟨bikes, ring, session, claims⟩ := (s.postHeard d).firstHeartbeat_du d h
  obtain ⟨missing, others⟩ := (s.postHeard d).found_bikes d b
  rw [s.postHeard_dock inside] at state bike window transient
  refine ⟨heard, bike.trans (by rw [Dock.firstHeard, if_neg h]; rfl), state.trans ?_, window, transient, fun n away => ?_, fun once => ?_,
    ring, session, claims⟩
  · simp [Dock.settledState, Dock.firstHeard, Dock.answered, Dock.settledAs, h]
  · obtain ⟨state, bike, -⟩ := Dock.shown_of_base ((s.postHeard d).firstHeartbeat_other away b)
    rw [s.postHeard_dock_ne away] at state bike
    exact ⟨bike, state⟩
  · rw [(s.postHeard_frame d).1] at missing others
    rw [bikes]
    exact ⟨missing once, others⟩

/-- What a recovery finds once the answer is noted. -/
theorem State.recovered_heard_spec : let r := (s.postHeard d).recovered d
    let k := s.dock d
    let state := if k.state = .offline then k.settledAs (k.bike.map (·.bike)) else k.state
    r = { s with du := r.du, bu := r.bu, flt := { s.flt with log := clearedOf d s.flt.log } } ∧
    r.du.bikes = s.du.bikes ∧ r.bu.ring = s.bu.ring ∧ r.bu.session = s.bu.session ∧ r.bu.claims = s.bu.claims ∧
    r.du.polled = none ∧ (∀ n, n ≠ d → r.dock n = s.dock n) ∧
    r.dock d = { k with
      state := state, silent := false, silenceStart := s.timebase, lastHeard := s.now, lockSlot := none,
      lampSlot := (r.dock d).lampSlot, lampLast := (r.dock d).lampLast, resting := (r.dock d).resting,
      transient := (r.dock d).transient } := by
  intro r k state
  obtain ⟨rest, bikes, polled, ring, session, claims, base, others⟩ := (s.postHeard d).recovered_spec inside
  rw [s.postHeard_dock inside] at base
  refine ⟨rest, bikes.trans (s.postHeard_frame d).1, ring, session, claims, polled.trans (s.postHeard_frame d).2.2.1,
    fun n away => (others n away).trans (s.postHeard_dock_ne away), ?_⟩
  have settled := k.settledState_answered s.timebase s.now
  have shape := Dock.eq_of_base base
  change r.dock d = _ at shape
  split at shape
  · next offline =>
    have moved : state = k.settledAs (k.bike.map (·.bike)) := if_pos offline
    unfold Dock.settle Dock.enter at shape
    rw [settled, ← moved] at shape
    split at shape
    · rw [shape]
      rfl
    · rw [shape]
      rfl
  · next online =>
    have kept : state = k.state := if_neg online
    rw [kept, shape]
    rfl

/-- A recovery whose heartbeat names what is recorded. -/
theorem State.recoverPost_named {b : Bike} (named : (s.dock d).Named b) : let t := (s.postHeard d).recoverPost d b
    let k := s.dock d
    t = { s with du := t.du, bu := t.bu, flt := t.flt } ∧ t.flt = { s.flt with log := clearedOf d s.flt.log } ∧
    (t.dock d).bike = k.bike ∧ (t.dock d).state = (if k.state = .offline then k.settledAs (k.bike.map (·.bike)) else k.state) ∧
    ∀ n, n ≠ d → t.dock n = s.dock n := by
  obtain ⟨rest, -, -, -, -, -, others, shape⟩ := State.recovered_heard_spec (s := s) inside
  have bike := congrArg Dock.bike shape
  have state := congrArg Dock.state shape
  have same : ((s.postHeard d).recovered d).compareHeartbeat d b = (s.postHeard d).recovered d :=
    State.compareHeartbeat_same (by rw [Dock.Named, bike]; exact named)
  rw [State.recoverPost_replaced, same]
  generalize (s.postHeard d).recovered d = r at rest others bike state
  obtain ⟨placed, base, -⟩ := r.replaced_spec inside
  obtain ⟨state', bike', -⟩ := Dock.shown_of_base base
  have flt : (r.updateDock d Dock.replaced).flt = { s.flt with log := clearedOf d s.flt.log } :=
    (congrArg State.flt placed :).trans (congrArg State.flt rest :)
  refine ⟨?_, flt, bike'.trans bike, state'.trans state, fun n away => ?_⟩
  · have bu : (r.updateDock d Dock.replaced).bu = r.bu := (congrArg State.bu placed :)
    rw [bu, flt]
    generalize r.updateDock d Dock.replaced = t at placed
    rw [rest] at placed
    exact placed
  · rw [r.dock_updateDock_ne _ _ _ away, others n away]

end

/-- The BIKE_OUT of dock d as if it were polled for. -/
def State.Leaves (u : State) (d : Nat) (v : State) : Prop :=
  exec (.bikeOut d) { u with du := { u.du with polled := some (d, .event) } } = .next v

/-- The events that a heartbeat which differs stands for, and then the resting pattern placed. -/
theorem State.compared_replaced {r : State} {d : Nat} (inside : 1 ≤ d ∧ d ≤ 24) (runs : r.busRuns = true)
    (configured : 1 ≤ d ∧ d ≤ r.sup.image.dockCount) (unpolled : r.du.polled = none)
    (bus : (r.dock d).bus = (false, r.timebase, r.now)) (idle : (r.dock d).lockSlot = none)
    (online : (r.dock d).state ≠ .offline) {b : Bike} (differs : ¬ (r.dock d).Named b) :
    let t := (r.compareHeartbeat d b).updateDock d Dock.replaced
    ∃ m : State, ((b = 0 → r.Leaves d m) ∧ ((r.dock d).bike = none → m = r.bikeArrives d b) ∧
        (∀ x, (r.dock d).bike = some x → b ≠ 0 → ∃ v, r.Leaves d v ∧ m = v.bikeArrives d b)) ∧
      t = { m with du := t.du } ∧ t.du.bikes = m.du.bikes ∧ (∀ n, n ≠ d → t.dock n = m.dock n) ∧
      t.dock d = { m.dock d with
        lampSlot := (t.dock d).lampSlot, lampLast := (t.dock d).lampLast, resting := (t.dock d).resting } ∧
      ((r.dock d).bike = none ∨ (r.dock d).state ≠ .empty → (t.dock d).resting = (m.dock d).resting) ∧
      ((t.dock d).transient = none → ∀ p, (t.dock d).resting = some p → (t.dock d).lampSlot = some p) := by
  let w : State := State.postHeard { r with du := { r.du with polled := some (d, .event) } } d
  have unlit : r.Unlit d w := State.recovered_unlit inside unpolled bus idle _
  have out : r.Leaves d (w.bikeLeaves d) :=
    congrArg Host.Outcome.next (State.takeAnswer_event (s := { r with du := { r.du with polled := some (d, .event) } })
      runs configured rfl _ _)
  obtain ⟨m, alike, events⟩ : ∃ m, (r.compareHeartbeat d b).Unlit d m ∧ (b = 0 → r.Leaves d m) ∧
      ((r.dock d).bike = none → m = r.bikeArrives d b) ∧
      (∀ x, (r.dock d).bike = some x → b ≠ 0 → ∃ v, r.Leaves d v ∧ m = v.bikeArrives d b) := by
    cases bike : (r.dock d).bike with
    | none =>
      have some_bike : b ≠ 0 := fun zero => differs (.inl ⟨bike, zero⟩)
      rw [State.compareHeartbeat_arrived bike some_bike]
      exact ⟨_, .refl d _, fun zero => absurd zero some_bike, fun _ => rfl, nofun⟩
    | some x =>
      by_cases zero : b = 0
      · rw [zero, State.compareHeartbeat_left bike]
        exact ⟨_, unlit.bikeLeaves d, fun _ => out, nofun, fun _ _ h => absurd rfl h⟩
      · have other : x.bike ≠ b := fun same => differs (.inr ⟨zero, by rw [bike]; exact congrArg some same⟩)
        rw [State.compareHeartbeat_replaced bike zero other]
        exact ⟨_, (unlit.bikeLeaves d).bikeArrives d b, fun h => absurd h zero, nofun, fun _ _ _ => ⟨_, out, rfl⟩⟩
  have rested := State.compareHeartbeat_rested inside online differs
  generalize r.compareHeartbeat d b = c at alike rested
  obtain ⟨placed, base, resting, lamp⟩ := c.replaced_spec inside
  refine ⟨m, events, ?_, ?_, fun n away => ?_, ?_, fun free => ?_, lamp⟩
  · rw [alike.rest]
    exact placed
  · rw [(c.updateDock_du d _).1, alike.bikes]
  · rw [c.dock_updateDock_ne _ _ _ away, alike.other n away]
  · exact Dock.eq_of_base (base.trans (alike.base d).symm)
  · rw [resting (rested free), alike.here]

/-- A recovery whose heartbeat differs from what is recorded. -/
theorem State.recoverPost_differs {s : State} {d : Nat} (inside : 1 ≤ d ∧ d ≤ 24) (runs : s.busRuns = true)
    (configured : 1 ≤ d ∧ d ≤ s.sup.image.dockCount) {b : Bike} (differs : ¬ (s.dock d).Named b) :
    let t := (s.postHeard d).recoverPost d b
    let k := s.dock d
    let u := (s.postHeard d).recovered d
    ∃ m : State, ((b = 0 → u.Leaves d m) ∧ (k.bike = none → m = u.bikeArrives d b) ∧
        (∀ x, k.bike = some x → b ≠ 0 → ∃ v, u.Leaves d v ∧ m = v.bikeArrives d b)) ∧
      t = { m with du := t.du } ∧ t.du.bikes = m.du.bikes ∧ (∀ n, n ≠ d → t.dock n = m.dock n) ∧
      t.dock d = { m.dock d with
        lampSlot := (t.dock d).lampSlot, lampLast := (t.dock d).lampLast, resting := (t.dock d).resting } ∧
      (k.bike = none ∨ k.state ≠ .empty → (t.dock d).resting = (m.dock d).resting) ∧
      ((t.dock d).transient = none → ∀ p, (t.dock d).resting = some p → (t.dock d).lampSlot = some p) := by
  obtain ⟨rest, -, -, -, -, unpolled, -, shape⟩ := State.recovered_heard_spec (s := s) inside
  have bike := congrArg Dock.bike shape
  have state := congrArg Dock.state shape
  have idle := congrArg Dock.lockSlot shape
  have bus := congrArg Dock.bus shape
  dsimp only at bike state idle
  rw [State.recoverPost_replaced]
  generalize (s.postHeard d).recovered d = r at rest unpolled bike state idle bus
  have sup : r.sup = s.sup := (congrArg State.sup rest :)
  have now : r.now = s.now := congrArg (fun c => c.dom.time) (congrArg State.clk rest :)
  have timebase : r.timebase = s.timebase := (congrArg State.timebase rest :)
  have busRuns : r.busRuns = s.busRuns := by
    unfold State.busRuns State.awake State.isVan State.inReset
    rw [sup]
  have online : (r.dock d).state ≠ .offline := by
    rw [state]
    split
    · exact Dock.settledAs_online _ _
    · assumption
  have occupied : (s.dock d).bike = none ∨ (s.dock d).state ≠ .empty → (r.dock d).bike = none ∨ (r.dock d).state ≠ .empty := by
    rw [bike, state]
    cases (s.dock d).bike with
    | none => exact fun _ => .inl rfl
    | some x =>
      refine fun h => .inr ?_
      split
      · exact Dock.settledAs_occupied _ _
      · exact h.resolve_left nofun
  obtain ⟨m, events, t, bikes, others, here, resting, lamp⟩ := State.compared_replaced inside
    (by rw [busRuns]; exact runs) (by rw [sup]; exact configured) unpolled
    (by rw [bus, timebase, now]; rfl) idle online (b := b) (by rw [Dock.Named, bike]; exact differs)
  rw [bike] at events
  exact ⟨m, events, t, bikes, others, here, fun free => resting (occupied free), lamp⟩

/-! ### The obligation -/

/-- Settles O38, poll by poll and heartbeat by heartbeat. -/
theorem postsArePolledAndHeard : Obligations.PostsArePolledAndHeard := by
  intro s runs some_dock few
  refine ⟨fun d first => ?_, congrArg Host.Outcome.next (if_pos runs), fun d b kind low count polled => ?_⟩
  · refine congrArg Host.Outcome.next ((if_pos runs).trans ?_)
    unfold State.sendPoll
    rw [← first]
    simp only [Dock.pollKind_eq, State.setDu]
  have inside : 1 ≤ d ∧ d ≤ 24 := ⟨low, count.trans few⟩
  intro k settled same heard
  obtain ⟨t, taken, kept, unheard, recovers, compares⟩ := exec_heartbeat runs ⟨low, count⟩ polled b
  have noted := s.postHeard_dock inside
  obtain ⟨⟨clk, sup, timebase, draws, pending⟩, unpolled, bus⟩ := kept
  have answered : t.du.polled = none := unpolled.elim (fun e => e.trans (s.postHeard_frame d).2.2.1) id
  have timer := bus d
  rw [noted] at timer
  simp only [Dock.bus, Prod.mk.injEq] at timer
  obtain ⟨silent, start, last⟩ := timer
  refine ⟨t, taken, answered, clk, sup, timebase, draws, pending, silent, start, last, fun new zero empty => ?_, fun new some_bike => ?_,
    fun known loud event named => ?_, fun known quiet named => ?_, fun known loud event small => ?_, fun known quiet differs => ?_⟩
  · rw [unheard new, zero]
    exact State.firstHeartbeat_empty inside empty
  · rw [unheard new]
    obtain ⟨heard, bike, state, window, transient, docks, bikes, ring, session, claims⟩ :=
      State.firstHeartbeat_found (s := s) inside some_bike
    refine ⟨heard, bike, state, window, transient, docks, bikes, ring, session, claims, fun before o rest listed bike first => ?_,
      fun free => ?_⟩
    · obtain ⟨closed, hu, rest'⟩ := (s.postHeard d).firstHeartbeat_owned d some_bike listed bike first
      exact ⟨closed.between (m := s) rfl rfl, hu, rest'⟩
    · exact (s.postHeard d).firstHeartbeat_free d some_bike free
  · have found : ((s.postHeard d).dock d).Named b := by rw [noted]; exact named
    rw [compares known loud event, State.compareHeartbeat_same found]
    refine ⟨rfl, ?_, fun n away => s.postHeard_dock_ne away⟩
    rw [noted, Dock.answered, ← loud]
  · rw [recovers known quiet]
    exact State.recoverPost_named inside named
  · rw [compares known loud event]
    have pol : s.du.polled = some (d, .event) := by rw [polled, event]
    have left : exec (.bikeOut d) s = .next ((s.postHeard d).bikeLeaves d) :=
      congrArg Host.Outcome.next (State.takeAnswer_event runs ⟨low, count⟩ pol _ _)
    have recorded : ((s.postHeard d).dock d).bike = k.bike := by rw [noted]; rfl
    refine ⟨fun x bike zero => ?_, fun empty some_bike => ?_, fun x bike some_bike other => ?_⟩
    · rw [zero, State.compareHeartbeat_left (recorded.trans bike)]
      exact left
    · rw [State.compareHeartbeat_arrived (recorded.trans empty) some_bike]
      refine congrArg Host.Outcome.next ?_
      rw [if_pos (by simp [bikeInRange, Nat.one_le_iff_ne_zero.mpr some_bike, small])]
      exact State.takeAnswer_event runs ⟨low, count⟩ pol _ _
    · exact ⟨_, left, State.compareHeartbeat_replaced (recorded.trans bike) some_bike other⟩
  · obtain ⟨rest, bikes, ring, session, claims, -, others, shape⟩ := State.recovered_heard_spec (s := s) inside
    obtain ⟨m, events⟩ := State.recoverPost_differs inside runs ⟨low, count⟩ differs
    rw [recovers known quiet]
    exact ⟨_, m, rest, bikes, ring, session, claims, shape, others, events⟩

end Sys2Proof.Machine
end
